-- ==== Sys2Proof/Word.lean ====
section
/-! DEFINITION. The words of the links: bytes, two-byte and four-byte fields (spec 11.1), load samples of 12 bits (06 R113),
and the plainest integer arithmetic of the manual (00 section 0.6). -/

namespace Sys2Proof

/-- One character of a link: eight data bits (R156). -/
abbrev Byte := BitVec 8
/-- An unsigned 16-bit field (11.1). -/
abbrev Half := BitVec 16
/-- An unsigned 32-bit field (11.1). -/
abbrev Long := BitVec 32
/-- One sample of the load input, 0 to 4095 counts (R113). -/
abbrev Sample := BitVec 12

/-- Division rounded up (00, Integer arithmetic). -/
def ceilDiv (n d : Nat) : Nat := (n + d - 1) / d

/-- The absolute difference of two whole numbers. -/
def absDiff (m n : Nat) : Nat := if m ≤ n then n - m else m - n

end Sys2Proof
end

