-- ==== Sys2Proof/Syntax.lean ====
section
/-! DEFINITION. The commands of the 2240: one constructor of `Instr` per row of spec/opcode_table.json, with the
operands the row's rule gives it. Operands of requests have the widths of the link fields (Chapter 11), so that
every value a frame can carry is a value of the operand, those the owning block refuses with BAD-VALUE too. -/

namespace Sys2Proof

/-- One of the two heads (00 section 0.7). -/
inductive HeadId where
  | a
  | b
deriving DecidableEq, Repr

/-- The head across the rail. -/
def HeadId.other : HeadId → HeadId
  | .a => .b
  | .b => .a

/-- One of the three links: head link A, head link B, the cell link (00 section 0.2). -/
inductive LinkId where
  | head (h : HeadId)
  | cell
deriving DecidableEq, Repr

/-- A position carried by a request: X and Y, two 16-bit fields. -/
structure PointReq where
  x : Half
  y : Half
deriving DecidableEq, Repr

/-- The SEGMENT request as submitted (R21, 11.3). `radius` is absent when the radius flag is clear. -/
structure SegmentReq where
  number  : Half
  kind    : Byte
  first   : PointReq
  last    : PointReq
  xlo     : Half
  xhi     : Half
  entry   : Half
  exit    : Half
  length  : Half
  radius  : Option Half
  tags    : List Byte
deriving DecidableEq, Repr

/-- One layer of a BLOCK-LOAD: a 16-bit thickness and a class byte (11.2). -/
structure LayerReq where
  thickness : Half
  cls       : Byte
deriving DecidableEq, Repr

/-- The nine values of CUT SET (Table 3-1). -/
structure CutReq where
  pMax    : Half
  pMin    : Half
  w       : Half
  fMax    : Half
  fAir    : Half
  soft    : Half
  maxTurn : Half
  pivot   : Byte
  grace   : Half
deriving DecidableEq, Repr

/-- The four settings of ZONE SET (R84). Bit k of `activeHigh` says that pressure input k is active-high. -/
structure ZoneSetReq where
  budget      : Byte
  pullTimeout : Half
  deglitch    : Byte
  activeHigh  : Half
deriving DecidableEq, Repr

/-- The values of BLADE SET (Table 6-1). `ramp` holds the step codes of steps 1 to 8. -/
structure BladeReq where
  fCut        : Half
  fIdle       : Half
  ramp        : List Byte
  stepStrokes : Byte
  settle      : Byte
  idleDelay   : Half
  stopDelay   : Half
  trimLow     : Half
  trimHigh    : Half
deriving DecidableEq, Repr

/-- The six response modes of Table 7-1. -/
inductive FaultMode where
  | latchCoast
  | latchBrake
  | retryCoast
  | retryBrake
  | report
  | ignore
deriving DecidableEq, Repr

/-- The relief modes (R115). -/
inductive ReliefMode where
  | relief
  | report
  | ignore
deriving DecidableEq, Repr

/-- The abort stop actions (R126, R130). -/
inductive StopAction where
  | coast
  | brake
deriving DecidableEq, Repr

/-- The retry limit of GUARD SET: a number, or unlimited (Table 7-2). -/
inductive RetryLimit where
  | upTo (n : Nat)
  | unlimited
deriving DecidableEq, Repr

/-- The five blade fault kinds (07 section 7.1). -/
inductive FaultKind where
  | strokeLost
  | roughRate
  | noSettle
  | overload
  | bladeMissing
deriving DecidableEq, Repr

/-- The values of GUARD SET (Table 7-2). A field that names one of a list of modes is `none` when the request's code
names none of them: the spec states no codes for these fields (assumption log 12). -/
structure GuardReq where
  strokeLost   : Option FaultMode
  roughRate    : Option FaultMode
  noSettle     : Option FaultMode
  overload     : Option FaultMode
  bladeMissing : Option FaultMode
  rough        : Byte
  lockLimit    : Half
  lockStrokes  : Byte
  noBlade      : Half
  retryTime    : Half
  retryLimit   : Option RetryLimit
  abortAction  : Option StopAction
  reliefMode   : Option ReliefMode
  peakLimit    : Half
  reliefN      : Byte
  escalation   : Byte
deriving DecidableEq, Repr

/-- The PIECE DECLARE request (R146). -/
structure PieceReq where
  id    : Byte
  edges : Byte
  lo    : Half
  hi    : Half
  label : Option Half
deriving DecidableEq, Repr

/-- A request of Table 11-1, as it stands when its frame has passed the link's length test. -/
inductive Request where
  | status
  | ident
  | headRead (head : Byte)
  | pieceRead (id : Option Byte)
  | segment (r : SegmentReq)
  | flush
  | grant
  | done (n : Half)
  | blockLoad (layers : List LayerReq) (label : Option Long)
  | openJob (homeA homeB : PointReq)
  | close
  | abort
  | classSet (cls coef : Byte)
  | cutSet (sel : Byte) (p : CutReq)
  | bedSet (separation : Half) (parkA parkB : PointReq)
  | zoneSet (p : ZoneSetReq)
  | bladeSet (sel : Byte) (p : BladeReq)
  | guardSet (sel : Byte) (p : GuardReq)
  | pieceDeclare (p : PieceReq)
  | take (id : Byte)
  | release (head : Byte) (point : PointReq)
  | hold (sel : Byte)
  | resume (sel : Byte)
  | service (head direction : Byte)
  | faultClear (head : Byte)
  | zoneClear (zone : Byte)
  | zoneRead
  | reset
deriving DecidableEq, Repr

/-- An edge of a stroke index line: the microseconds that passed before it, and the load samples taken since the
previous index pulse of this channel (R110, R113). -/
structure Pulse where
  after   : Nat
  samples : List Sample
deriving DecidableEq, Repr

/-- An edge of the input line PRSk of a zone: the microseconds that passed since the edge or the command before it (R85). -/
structure Edge where
  after : Nat
  line  : Fin 16
deriving DecidableEq, Repr

/-- What the pressure lines did since the command before, in the order of time, and the zone whose change of level the row
then names (R85, log 25). -/
structure Chatter where
  zone  : Fin 16
  edges : List Edge
deriving DecidableEq, Repr

/-- The commands of the block: one constructor per row of spec/opcode_table.json.
A request row names the link its checked frame completes on (assumption log 4). A row that names what an index pulse
brings about carries that pulse (log 5). A pressure row carries the edges of the pressure lines (log 25). -/
inductive Instr where
  | status (l : LinkId)
  | ident (l : LinkId)
  | headRead (l : LinkId) (head : Byte)
  | pieceRead (l : LinkId) (id : Option Byte)
  | segment (l : LinkId) (r : SegmentReq)
  | flush (l : LinkId)
  | grant (l : LinkId)
  | done (l : LinkId) (n : Half)
  | blockLoad (l : LinkId) (layers : List LayerReq) (label : Option Long)
  | openJob (l : LinkId) (homeA homeB : PointReq)
  | close (l : LinkId)
  | abort (l : LinkId)
  | classSet (l : LinkId) (cls coef : Byte)
  | cutSet (l : LinkId) (sel : Byte) (p : CutReq)
  | bedSet (l : LinkId) (separation : Half) (parkA parkB : PointReq)
  | zoneSet (l : LinkId) (p : ZoneSetReq)
  | bladeSet (l : LinkId) (sel : Byte) (p : BladeReq)
  | guardSet (l : LinkId) (sel : Byte) (p : GuardReq)
  | pieceDeclare (l : LinkId) (p : PieceReq)
  | take (l : LinkId) (id : Byte)
  | release (l : LinkId) (head : Byte) (point : PointReq)
  | hold (l : LinkId) (sel : Byte)
  | resume (l : LinkId) (sel : Byte)
  | serviceOut (l : LinkId) (head : Byte)
  | serviceIn (l : LinkId) (head : Byte)
  | faultClear (l : LinkId) (head : Byte)
  | zoneClear (l : LinkId) (zone : Byte)
  | zoneRead (l : LinkId)
  | reset (l : LinkId)
  | unknownRequest (l : LinkId) (type : Byte)
  | frameCheckFailed (l : LinkId)
  | frameDiscardedBusy (l : LinkId)
  | framingError (l : LinkId)
  | frameGapTimeout (l : LinkId)
  | breakDetected (l : LinkId)
  | replyBegin (l : LinkId)
  | replyComplete (l : LinkId)
  | powerOn
  | nresetTaken
  | resetHoldEnd (lrate1 lrate0 : Bool)
  | overdueExpiry (h : HeadId)
  | idleDelayExpiry (h : HeadId)
  | stopDelayExpiry (h : HeadId)
  | pullTimeout (zone : Fin 16)
  | pressureGood (c : Chatter)
  | pressureLoss (c : Chatter)
  | pendingRequestLapse (h : HeadId)
  | budgetMarkExpiry
  | retryTimeExpiry (h : HeadId)
  | strokeWatchExpiry (h : HeadId)
  | indexPulse (h : HeadId) (p : Pulse)
  | spinupStepComplete (h : HeadId) (p : Pulse)
  | lockOn (h : HeadId) (p : Pulse)
  | noSettle (h : HeadId) (p : Pulse)
  | trimStepDown (h : HeadId) (p : Pulse)
  | trimStepUp (h : HeadId) (p : Pulse)
  | reliefPauseEnd (h : HeadId) (p : Pulse)
  | overload (h : HeadId) (p : Pulse)
  | bladeMissing (h : HeadId) (p : Pulse)
  | cleanRunComplete (h : HeadId) (p : Pulse)
  | characterReceived (l : LinkId) (c : Byte)
  | lineReturnsHigh (l : LinkId)
deriving DecidableEq, Repr

end Sys2Proof
end

