-- ==== Sys2Proof/Config.lean ====
section
/-! DEFINITION. What the implementation fixes: the constants the manual states, and the FREE VALUES, opaque constants
of which nothing can be proved, for what the manual leaves open. Each free value names its entry of the assumption log. -/

namespace Sys2Proof.Config

/-- The greatest X of the bed, in tenths (R28). -/
def bedX : Nat := 31999
/-- The greatest Y of the bed, in tenths (R28). -/
def bedY : Nat := 20999
/-- The width of a zone in X, in tenths (00, Zones and spans). -/
def zoneWidth : Nat := 2000
/-- The number of zones (R83). -/
def zoneCount : Nat := 16
/-- The lapse timer and the budget mark's expiry timer, in microseconds (R88, R91). -/
def twoSeconds : Nat := 2000000
/-- The start window of the stroke watch, in microseconds (R111). -/
def startWindow : Nat := 1000000
/-- The least length of the internal reset hold, in microseconds (R165). -/
def resetHoldTime : Nat := 10000
/-- The lead byte of a frame (R158). -/
def leadByte : Byte := 0xA5
/-- The vendor code of Belprant (R164). -/
def vendorCode : Nat := 0x0B70
/-- The part number (R164). -/
def partNumber : Nat := 2240
/-- The silicon revision (R164). -/
def revision : Nat := 3

/-- FREE VALUE (log 9): whether the frame check takes the least significant bit of each byte first.
The manual gives the polynomial and the initial value, not the bit order. -/
opaque crcLsbFirst : Bool
/-- FREE VALUE (log 10): whether a time left of so many microseconds is reported rounded up to whole milliseconds. -/
opaque roundsUp : Nat → Bool
/-- FREE VALUE (log 11): the average of a stroke in which no sample was taken. -/
opaque noSampleAverage : Nat → Sample
/-- FREE VALUE (log 11): what the peak of a stroke in which no sample was taken is, where it is above the average. -/
opaque noSamplePeak : Nat → Sample
/-- FREE VALUE (log 3): which of the timers due at one moment is taken first. -/
opaque tieBreak : Nat → Nat
/-- FREE VALUE (log 21): the stroke watch left, in microseconds, of a channel taken from SPINUP to SETTLING before any
pulse was accepted, as a function of the expected period and the time since the entry. -/
opaque noPulseWatch : Nat → Nat → Nat
/-- FREE VALUE (log 12): the code of a response mode of Table 7-1. -/
opaque codeOfMode : FaultMode → Byte
/-- FREE VALUE (log 12): the code of a relief mode (R115). -/
opaque codeOfRelief : ReliefMode → Byte
/-- FREE VALUE (log 12): the code of an abort stop action (R126). -/
opaque codeOfStopAction : StopAction → Byte
/-- FREE VALUE (log 12): the code of a retry limit of Table 7-2. -/
opaque codeOfRetryLimit : RetryLimit → Byte
/-- FREE VALUE (log 12): which pressure inputs the polarity field of ZONE SET makes active-high. -/
opaque activeHighOfBits : Half → Half
/-- FREE VALUE (log 12): the polarity field by which the reply to ZONE SET says which inputs are active-high. -/
opaque bitsOfActiveHigh : Half → Half
/-- FREE VALUE (log 15): the code of a fault kind in the fault record, or of none (R131). -/
opaque codeOfFault : Option FaultKind → Byte
/-- FREE VALUE (log 15): the code of a zone state, given as its place in R83's list, OFF first. -/
opaque codeOfZone : Nat → Byte
/-- FREE VALUE (log 15): the code of the kind of a continuity reference, given as its place in R19's list, CUTTING first. -/
opaque codeOfReference : Nat → Byte

end Sys2Proof.Config
end

