-- ==== Sys2Proof/WellFormed.lean ====
section
/-! DEFINITION. Which commands can be sent: the checks a frame or an event meets before it is a command at all. -/

namespace Sys2Proof

/-- The type codes of Table 11-1. -/
def requestCodes : List Byte :=
  [0x01, 0x02, 0x03, 0x04, 0x10, 0x11, 0x12, 0x13, 0x20, 0x21, 0x22, 0x23, 0x24, 0x28, 0x29, 0x2A, 0x2B, 0x2C,
   0x30, 0x31, 0x38, 0x39, 0x3A, 0x3B, 0x3C, 0x3D, 0x3E, 0x3F]

/-- A SEGMENT frame carries at most two piece tags (11.3, R167). -/
def SegmentReq.wf (r : SegmentReq) : Bool := decide (r.tags.length ≤ 2)

/-- A BLOCK-LOAD fits its frame: 3 + 3n + 4p is a length from 1 to 250 (11.2, R158). -/
def blockLoadFits (layers : List LayerReq) (label : Option Long) : Bool :=
  decide (3 + 3 * layers.length + (if label.isSome then 4 else 0) ≤ 250)

/-- A BLADE SET frame carries eight ramp codes (Table 6-1, Table 11-1). -/
def BladeReq.wf (p : BladeReq) : Bool := decide (p.ramp.length = 8)

/-- A request that some frame carries. -/
def Request.wf : Request → Bool
  | .segment r => r.wf
  | .blockLoad layers label => blockLoadFits layers label
  | .bladeSet _ p => p.wf
  | .status | .ident | .headRead _ | .pieceRead _ | .flush | .grant | .done _ | .openJob _ _ | .close | .abort
  | .classSet _ _ | .cutSet _ _ | .bedSet _ _ _ | .zoneSet _ | .guardSet _ _ | .pieceDeclare _ | .take _
  | .release _ _ | .hold _ | .resume _ | .service _ _ | .faultClear _ | .zoneClear _ | .zoneRead | .reset => true

/-- A command that can be sent. UNKNOWN_REQUEST names a type that is no request type (R161). -/
def Instr.wf : Instr → Bool
  | .segment _ r => r.wf
  | .blockLoad _ layers label => blockLoadFits layers label
  | .bladeSet _ _ p => p.wf
  | .unknownRequest _ type => !requestCodes.contains type
  | .status _ | .ident _ | .headRead _ _ | .pieceRead _ _ | .flush _ | .grant _ | .done _ _ | .openJob _ _ _
  | .close _ | .abort _ | .classSet _ _ _ | .cutSet _ _ _ | .bedSet _ _ _ _ | .zoneSet _ _ | .guardSet _ _ _
  | .pieceDeclare _ _ | .take _ _ | .release _ _ _ | .hold _ _ | .resume _ _ | .serviceOut _ _ | .serviceIn _ _
  | .faultClear _ _ | .zoneClear _ _ | .zoneRead _ | .reset _ | .frameCheckFailed _ | .frameDiscardedBusy _
  | .framingError _ | .frameGapTimeout _ | .breakDetected _ | .replyBegin _ | .replyComplete _ | .powerOn
  | .nresetTaken | .resetHoldEnd _ _ | .overdueExpiry _ | .idleDelayExpiry _ | .stopDelayExpiry _ | .pullTimeout _
  | .pressureGood _ | .pressureLoss _ | .pendingRequestLapse _ | .budgetMarkExpiry | .retryTimeExpiry _
  | .strokeWatchExpiry _ | .indexPulse _ _ | .spinupStepComplete _ _ | .lockOn _ _ | .noSettle _ _
  | .trimStepDown _ _ | .trimStepUp _ _ | .reliefPauseEnd _ _ | .overload _ _ | .bladeMissing _ _
  | .cleanRunComplete _ _ | .characterReceived _ _ | .lineReturnsHigh _ => true

end Sys2Proof
end

