-- ==== Sys2Proof/Decode.lean ====
section
/-! DEFINITION. The command that a word spells by the table's bits. No row of spec/opcode_table.json gives bits
(every "fields" is empty and no row has a fixed part), so no word spells a command. The frames of the links, which do
carry requests as bytes, are read in Sys2Proof/Machine/Operands.lean. -/

namespace Sys2Proof

/-- The command a word of `nbits` bits spells by spec/opcode_table.json: none, for no row gives bits. -/
def decodeTableWord (_nbits _w : Nat) : Option Instr := none

end Sys2Proof
end

