-- ==== Sys2Proof/Machine/State.lean ====
section
/-! DEFINITION. The state of the 2240 as plain data: every piece of state the manual names, block by block, its value
after reset, and the reasons a step can stop. The content of replies is here too, since a link holds the reply it is
sending (R160). -/

namespace Sys2Proof.Machine

/-! ### Pairs -/

/-- One value for head A and one for head B. -/
structure Pair (α : Type) where
  a : α
  b : α
deriving DecidableEq, Repr

/-! ### Job controller (Chapter 1) -/

/-- The job state (R1). -/
inductive JobState where
  | idle
  | staged
  | cutting
  | closing
deriving DecidableEq, Repr

/-- One layer of the stack: a thickness in millimetres and a density class (R4). -/
structure Layer where
  thickness : Nat
  cls       : Nat
deriving DecidableEq, Repr

/-- The job controller. `classes` lists the 16 table entries: a coefficient where the entry is defined (R5). -/
structure Job where
  state   : JobState
  stack   : List Layer
  label   : Option Long
  classes : List (Option Nat)
deriving DecidableEq, Repr

/-! ### Segments (Chapter 2) -/

/-- A position on the bed, in tenths of a millimetre. -/
structure Point where
  x : Nat
  y : Nat
deriving DecidableEq, Repr

/-- The kind of a segment (R21). -/
inductive SegKind where
  | line
  | arcCw
  | arcCcw
  | air
deriving DecidableEq, Repr

/-- A segment record as submitted and accepted (R21). -/
structure Segment where
  number : Nat
  kind   : SegKind
  first  : Point
  last   : Point
  xlo    : Nat
  xhi    : Nat
  radius : Option Nat
  entry  : Nat
  exit   : Nat
  length : Nat
  tags   : List Nat
deriving DecidableEq, Repr

/-- The joint class (R20, R34). -/
inductive JointClass where
  | smooth
  | pivot
  | free
deriving DecidableEq, Repr

/-- A queue entry: the record, its joint class and the joint turn magnitude (R20). -/
structure Entry where
  seg   : Segment
  joint : JointClass
  turn  : Nat
deriving DecidableEq, Repr

/-- The kind of the continuity reference (R19). -/
inductive RefKind where
  | cutting
  | air
  | standing
deriving DecidableEq, Repr

/-- The continuity reference (R19). -/
structure Reference where
  point   : Point
  heading : Option Nat
  kind    : RefKind
deriving DecidableEq, Repr

/-- The fate of a retired run (R23). -/
inductive Fate where
  | flushed
  | withdrawn
deriving DecidableEq, Repr

/-- A retired run: the numbers from `first` to `last` and their fate (R23). -/
structure Run where
  first : Nat
  last  : Nat
  fate  : Fate
deriving DecidableEq, Repr

/-- The state of a sequence number (R22); `notAccepted` is the lack of one. -/
inductive NumState where
  | notAccepted
  | queued
  | granted
  | done
  | flushed
  | withdrawn
deriving DecidableEq, Repr

/-! ### Governor and grant unit (Chapters 3 and 4) -/

/-- The cut parameters of a head (R42). -/
structure CutParams where
  pMax    : Nat
  pMin    : Nat
  w       : Nat
  fMax    : Nat
  fAir    : Nat
  soft    : Nat
  maxTurn : Nat
  pivot   : Nat
  grace   : Nat
deriving DecidableEq, Repr

/-- A range of zones, both ends inclusive (R64). -/
structure ZoneRange where
  first : Nat
  last  : Nat
deriving DecidableEq, Repr

/-- The governor's results for a granted segment (R44, R45). Times in milliseconds. -/
structure GrantResult where
  feed      : Nat
  heavy     : Bool
  ceiling   : Bool
  expected  : Nat
  allowance : Nat
deriving DecidableEq, Repr

/-- An entry of a grant window (R64). -/
structure WinEntry where
  entry  : Entry
  result : GrantResult
  zones  : Option ZoneRange
deriving DecidableEq, Repr

/-- An interval of X positions, both ends inclusive (R60). -/
structure Claim where
  lo : Nat
  hi : Nat
deriving DecidableEq, Repr

/-- A set of wait reasons (R66 to R70, 11.1). -/
structure WaitSet where
  queueEmpty    : Bool
  windowFull    : Bool
  headHeld      : Bool
  clearance     : Bool
  bladeNotReady : Bool
  zonesSettling : Bool
  zoneBudget    : Bool
  zoneFaulted   : Bool
deriving DecidableEq, Repr

/-- The wait watch of a head: the reasons of one WAIT reply and the zone range of its segment (R74). -/
structure Watch where
  reasons : WaitSet
  range   : Option ZoneRange
deriving DecidableEq, Repr

/-- The bed geometry (R62). -/
structure BedGeometry where
  separation : Nat
  parkA      : Point
  parkB      : Point
deriving DecidableEq, Repr

/-! ### Zone controller (Chapter 5) -/

/-- The state of a zone (R83). -/
inductive ZoneState where
  | off
  | pulling
  | held
  | lost
  | fault
deriving DecidableEq, Repr

/-- A zone record (R83): its state, the microseconds left on its pull timer, its debounced level, its fault count, and
its deglitch timing: the microseconds for which its input has read as it does now without interruption, counted from
the last edge or from the event with which the timing began afresh (R84, R85, log 23). -/
structure Zone where
  st       : ZoneState
  pull     : Option Nat
  good     : Bool
  faults   : Nat
  steady   : Nat
deriving DecidableEq, Repr

/-- The settings of the zone controller (R84). Times in milliseconds; bit k of `activeHigh` is the polarity of
input k. -/
structure ZoneSettings where
  budget      : Nat
  pullTimeout : Nat
  deglitch    : Nat
  activeHigh  : Half
deriving DecidableEq, Repr

/-- The budget mark while it is held: its holder and the microseconds left on its expiry timer (R90, R91). -/
structure Mark where
  holder : HeadId
  left   : Nat
deriving DecidableEq, Repr

/-! ### Blade channel and guard (Chapters 6 and 7) -/

/-- The channel state (R99). -/
inductive ChState where
  | stopped
  | spinup
  | settling
  | run
  | retryWait
  | faulted
deriving DecidableEq, Repr

/-- The two levels of a running blade (R99). -/
inductive Level where
  | idle
  | cut
deriving DecidableEq, Repr

/-- The demand on a channel (R103). -/
inductive Demand where
  | off
  | idle
  | cut
deriving DecidableEq, Repr

/-- The blade parameters of a head (R101). Idle delay in milliseconds, stop delay in seconds. -/
structure BladeParams where
  fCut        : Nat
  fIdle       : Nat
  ramp        : List Nat
  stepStrokes : Nat
  settle      : Nat
  idleDelay   : Nat
  stopDelay   : Nat
  trimLow     : Nat
  trimHigh    : Nat
deriving DecidableEq, Repr

/-- One value for each of the five fault kinds. -/
structure PerKind (α : Type) where
  strokeLost   : α
  roughRate    : α
  noSettle     : α
  overload     : α
  bladeMissing : α
deriving DecidableEq, Repr

/-- The guard settings of a channel (R126), the relief settings among them (R115). -/
structure GuardSettings where
  modes        : PerKind FaultMode
  rough        : Nat
  lockLimit    : Nat
  lockStrokes  : Nat
  noBlade      : Nat
  retryTime    : Nat
  retryLimit   : RetryLimit
  abortAction  : StopAction
  reliefMode   : ReliefMode
  peakLimit    : Nat
  reliefN      : Nat
  escalation   : Nat
deriving DecidableEq, Repr

/-- The fault record of a channel (R131). -/
structure FaultRecord where
  last    : Option FaultKind
  strokes : Nat
  rate    : Nat
  average : Nat
  counts  : PerKind Nat
  reliefs : Nat
deriving DecidableEq, Repr

/-- A blade channel with its guard (R99, R119). Timers and periods in microseconds; a stopped timer is `none`. -/
structure Channel where
  st            : ChState
  target        : Level
  demand        : Demand
  step          : Nat
  stepCount     : Nat
  commanded     : Nat
  pulseSeen     : Bool
  since         : Nat
  period        : Nat
  watchLeft     : Option Nat
  measured      : Nat
  strokes       : Nat
  settleCount   : Nat
  settleStrokes : Nat
  sampleSum     : Nat
  sampleCount   : Nat
  samplePeak    : Nat
  lastAvg       : Nat
  lastPeak      : Nat
  trim          : Nat
  heavy         : Nat
  light         : Nat
  pause         : Nat
  escalation    : Nat
  idleTimer     : Option Nat
  stopTimer     : Option Nat
  brake         : Bool
  retries       : Nat
  retryTimer    : Option Nat
  lockRun       : Nat
  missRun       : Nat
  cleanRun      : Nat
  lastRunPeriod : Option Nat
  record        : FaultRecord
deriving DecidableEq, Repr

/-! ### Head supervisor (Chapter 8) -/

/-- The service state of a head (R139). -/
inductive Service where
  | inService
  | outOfService
deriving DecidableEq, Repr

/-- A feed-hold reason set (R133). -/
structure HoldSet where
  noJob        : Bool
  outOfService : Bool
  cellHold     : Bool
  blade        : Bool
  zone         : Bool
  overdue      : Bool
deriving DecidableEq, Repr

/-- The state of an overdue timer (R136). -/
inductive TimerState where
  | stopped
  | counting
  | paused
deriving DecidableEq, Repr

/-- An overdue timer: its state, the allowance it times and the time elapsed against it, in microseconds (R136). A STOPPED
timer holds an allowance of 0: DESIGN CHOICE (log 38), for R136 gives it none, after a reset, a stop or an expiry. -/
structure Overdue where
  st        : TimerState
  allowance : Nat
  elapsed   : Nat
deriving DecidableEq, Repr

/-- Everything the part holds for one head. -/
structure Head where
  queue       : List Entry
  nextSeq     : Nat
  ref         : Reference
  runs        : List Run
  floor       : Nat
  cut         : CutParams
  window      : List WinEntry
  standing    : Point
  claim       : Claim
  watch       : Watch
  pendingReq  : Option ZoneRange
  lapse       : Option Nat
  blade       : Channel
  bladeParams : BladeParams
  guard       : GuardSettings
  service     : Service
  hold        : HoldSet
  overdue     : Overdue
deriving DecidableEq, Repr

/-! ### Piece table (Chapter 9) -/

/-- The state of a piece (R145). -/
inductive PieceState where
  | declared
  | part
  | severed
  | taken
  | scrapped
deriving DecidableEq, Repr

/-- A piece record (R145). `part` is the manual's PARTIAL. -/
structure Piece where
  id           : Nat
  st           : PieceState
  required     : Nat
  edges        : Nat
  lo           : Nat
  hi           : Nat
  label        : Option Half
  contributors : List (HeadId × Nat)
deriving DecidableEq, Repr

/-! ### Replies (Chapters 10 and 11) -/

/-- The refusal reasons (11.7). -/
inductive Reason where
  | notOnThisLink
  | unknownRequest
  | malformed
  | badValue
  | wrongJobState
  | headOutOfService
  | headBusy
  | queueFull
  | sequenceGap
  | sequenceExhausted
  | discontinuous
  | extentMismatch
  | headingMismatch
  | lengthImplausible
  | radiusTooSmall
  | turnTooSharp
  | outsideBed
  | unknownPiece
  | pieceClosed
  | pieceRepeated
  | airTagged
  | pieceTableFull
  | pieceExists
  | notSevered
  | notGranted
  | outOfOrder
  | notHeld
  | positionOutsideClaim
  | classUndefined
  | stackTooTall
  | homesTooClose
  | parksTooClose
  | budgetInUse
  | clearance
  | zoneNotFaulted
  | bladeNotLatched
deriving DecidableEq, Repr

/-- The detail field of a REFUSED reply (Table 11-3). -/
inductive Detail where
  | none
  | next (n : Nat)
  | reference (p : Point)
  | turn (delta : Nat)
  | tag (id : Nat)
  | number (s : NumState)
  | piece (s : PieceState)
deriving DecidableEq, Repr

/-- A set of attention causes (R162, 11.1). -/
structure AttSet where
  waitCleared   : Bool
  holdChanged   : Bool
  bladeFault    : Bool
  headSuspended : Bool
  zoneFault     : Bool
  pieceSevered  : Bool
  restarted     : Bool
deriving DecidableEq, Repr

/-- A cause of a reset (R165). -/
inductive ResetCause where
  | power
  | pin
  | command
deriving DecidableEq, Repr

/-- What a head link STATUS reply carries (Table 8-2). Remaining time in milliseconds. -/
structure HeadStatus where
  job       : JobState
  service   : Service
  hold      : HoldSet
  window    : List WinEntry
  queue     : Nat
  nextSeq   : Nat
  standing  : Point
  claim     : Claim
  watch     : WaitSet
  channel   : ChState
  level     : Option Level
  demand    : Demand
  timer     : TimerState
  remaining : Nat
  attention : AttSet
deriving DecidableEq, Repr

/-- What a cell link STATUS reply carries of one head (R163). -/
structure HeadSummary where
  service : Service
  hold    : HoldSet
  queue   : Nat
  window  : Nat
  channel : ChState
  level   : Option Level
  demand  : Demand
  timer   : TimerState
deriving DecidableEq, Repr

/-- The number of piece records in each state (R151). -/
structure PieceCounts where
  declared : Nat
  part     : Nat
  severed  : Nat
  taken    : Nat
  scrapped : Nat
deriving DecidableEq, Repr

/-- What a cell link STATUS reply carries (R163). -/
structure CellStatus where
  job       : JobState
  layers    : Nat
  thickness : Nat
  label     : Option Long
  heads     : Pair HeadSummary
  active    : Nat
  budget    : Nat
  pieces    : PieceCounts
  cause     : ResetCause
  attention : AttSet
deriving DecidableEq, Repr

/-- What a HEAD READ reply carries (R118). `step` is the step index and count in SPINUP, `level` the level of a channel
in SPINUP, SETTLING or RUN, `pause` the strokes remaining of a relief pause; times left in milliseconds. -/
structure HeadDetail where
  channel    : ChState
  level      : Option Level
  demand     : Demand
  step       : Option (Nat × Nat)
  commanded  : Nat
  measured   : Nat
  strokes    : Nat
  lastAvg    : Nat
  lastPeak   : Nat
  trim       : Nat
  heavy      : Nat
  light      : Nat
  pausing    : Bool
  pause      : Nat
  escalation : Nat
  idleLeft   : Nat
  stopLeft   : Nat
  retries    : Nat
  record     : FaultRecord
deriving DecidableEq, Repr

/-- What a ZONE READ reply carries of one zone (R97): the needs are window A, window B, pending request A, pending
request B, severed piece. -/
structure ZoneDetail where
  st       : ZoneState
  valve    : Bool
  good     : Bool
  pullLeft : Nat
  faults   : Nat
  windowA  : Bool
  windowB  : Bool
  pendingA : Bool
  pendingB : Bool
  severed  : Bool
deriving DecidableEq, Repr

/-- The grant record (R56, Table 11-2). -/
structure GrantRecord where
  number    : Nat
  feed      : Nat
  heavy     : Bool
  ceiling   : Bool
  joint     : JointClass
  turn      : Nat
  expected  : Nat
  allowance : Nat
deriving DecidableEq, Repr

/-- The content of an ACCEPTED reply, one form per request that has one. -/
inductive Content where
  | none
  | headStatus (v : HeadStatus)
  | cellStatus (v : CellStatus)
  | ident (cause : ResetCause) (retained : Bool)
  | headRead (v : HeadDetail)
  | piece (p : Piece)
  | pieceSummary (rows : List (Nat × PieceState))
  | segment (number : Nat) (joint : JointClass) (turn : Nat) (entries : Nat)
  | flush (removed : Nat) (numbers : Option (Nat × Nat)) (ref : Reference)
  | grant (r : GrantRecord)
  | done (number : Nat) (standing : Point) (claim : Claim)
  | job (s : JobState)
  | cutSets (a b : CutParams)
  | bed (g : BedGeometry)
  | zoneSettings (z : ZoneSettings)
  | bladeSets (a b : BladeParams)
  | guardSets (a b : GuardSettings)
  | declared (id : Nat) (records : Nat)
  | taken (id : Nat)
  | release (withdrawn : Nat) (standing : Point)
  | holds (sets : List (HeadId × HoldSet))
  | service (s : Service) (standing : Point)
  | blade (s : ChState) (d : Demand)
  | zone (s : ZoneState) (faults : Nat)
  | zones (rows : List ZoneDetail) (budget active : Nat) (holder : Option HeadId) (reserved : Nat)
deriving DecidableEq, Repr

/-- A reply: its status kind and what follows it (R168). -/
inductive Reply where
  | accepted (c : Content)
  | wait (reasons : WaitSet) (number : Nat)
  | refused (r : Reason) (d : Detail)
  | already (number : Nat) (s : NumState) (next : Nat)
deriving DecidableEq, Repr

/-! ### Links (Chapter 10) -/

/-- The receiver between characters: hunting for a falling edge, or waiting for the line to return high (R157). -/
inductive Receiver where
  | hunting
  | waitHigh
deriving DecidableEq, Repr

/-- Frame assembly (R158): looking for a lead byte, expecting the length, or gathering a frame of that length. -/
inductive Assembly where
  | lead
  | length
  | gather (len : Byte) (got : List Byte)
deriving DecidableEq, Repr

/-- The request buffer and the reply in progress of a busy link (R160): the type of the request taken, its reply, and
whether the reply has begun. -/
structure InFlight where
  request : Byte
  reply   : Reply
  begun   : Bool
deriving DecidableEq, Repr

/-- One link (R157 to R162). -/
structure Link where
  rx        : Receiver
  asm       : Assembly
  inFlight  : Option InFlight
  attention : AttSet
deriving DecidableEq, Repr

/-- The three links. -/
structure Links where
  a    : Link
  b    : Link
  cell : Link
deriving DecidableEq, Repr

/-- The link rate, named by the straps LRATE1 and LRATE0 (R156). -/
structure LinkRate where
  lrate1 : Bool
  lrate0 : Bool
deriving DecidableEq, Repr

/-- An internal reset hold: its cause and the microseconds left of its least length (R165). -/
structure ResetHold where
  cause : ResetCause
  left  : Nat
deriving DecidableEq, Repr

/-! ### The whole state -/

/-- The state of the block. `pending` is the queue of commands that wait and `free` numbers the free values: these two
are the model's own (log 26, log 3). Bit k of `prs` is the level of input line PRSk, 1 while it is high (R85). -/
structure State where
  pending      : List Instr
  free         : Nat
  resetHold    : Option ResetHold
  lastCause    : ResetCause
  rate         : LinkRate
  prs          : Half
  links        : Links
  job          : Job
  heads        : Pair Head
  bed          : BedGeometry
  zoneSettings : ZoneSettings
  zones        : List Zone
  mark         : Option Mark
  pieces       : List Piece
  retained     : Bool
deriving DecidableEq, Repr

/-- The reasons the machine stops. The manual describes no condition that stops the part, so there is none: every
command answers a next state. -/
inductive Fault where
deriving DecidableEq, Repr

/-- The reasons a command has no meaning. -/
inductive Refusal where
  /-- Raised by `exec` for a row that has no meaning yet; no arm raises it now. Safe: the machine stops. -/
  | notModelled (mnemonic : String)
deriving DecidableEq, Repr

/-! ### Values after reset -/

/-- The empty set of wait reasons. -/
def WaitSet.empty : WaitSet := ⟨false, false, false, false, false, false, false, false⟩

/-- The empty set of attention causes. -/
def AttSet.empty : AttSet := ⟨false, false, false, false, false, false, false⟩

/-- The wait watch that holds nothing (R74). -/
def Watch.empty : Watch := ⟨WaitSet.empty, none⟩

/-- The default cut parameters (Table 3-1). -/
def CutParams.default : CutParams := ⟨1500, 80, 100, 6000, 15000, 50, 1350, 12, 2000⟩

/-- The default blade parameters (Table 6-1). -/
def BladeParams.default : BladeParams := ⟨2400, 900, [0, 1, 2, 3, 4, 5, 6, 7], 8, 8, 3000, 60, 1400, 2600⟩

/-- The default guard settings (Table 7-2). -/
def GuardSettings.default : GuardSettings :=
  { modes := ⟨.retryBrake, .retryCoast, .latchCoast, .retryBrake, .latchBrake⟩
    rough := 3, lockLimit := 3400, lockStrokes := 16, noBlade := 200, retryTime := 1000, retryLimit := .upTo 3
    abortAction := .brake, reliefMode := .relief, peakLimit := 3600, reliefN := 3, escalation := 8 }

/-- The fault record that power-on leaves (R131). -/
def FaultRecord.clear : FaultRecord := ⟨none, 0, 0, 0, ⟨0, 0, 0, 0, 0⟩, 0⟩

/-- A channel after reset, with the trim and fault record that the reset leaves (R99, R119; log 8). -/
def Channel.reset (trim : Nat) (record : FaultRecord) : Channel :=
  { st := .stopped, target := .idle, demand := .off, step := 1, stepCount := 0, commanded := 0, pulseSeen := false
    since := 0, period := 0, watchLeft := none, measured := 0, strokes := 0, settleCount := 0, settleStrokes := 0
    sampleSum := 0, sampleCount := 0, samplePeak := 0, lastAvg := 0, lastPeak := 0, trim := trim, heavy := 0
    light := 0, pause := 0, escalation := 0, idleTimer := none, stopTimer := none, brake := false, retries := 0
    retryTimer := none, lockRun := 0, missRun := 0, cleanRun := 0, lastRunPeriod := none, record := record }

/-- The default bed geometry (R62). -/
def BedGeometry.default : BedGeometry := ⟨9000, ⟨0, 0⟩, ⟨31999, 0⟩⟩

/-- The default zone settings (R84). -/
def ZoneSettings.default : ZoneSettings := ⟨8, 1500, 20, 0⟩

/-- A zone record after reset (R83); its deglitch timing begins afresh. -/
def Zone.reset : Zone := ⟨.off, none, false, 0, 0⟩

/-- A head after reset, standing at its default park point (R19, R42, R59, R74, R101, R133, R144). -/
def Head.reset (park : Point) (trim : Nat) (record : FaultRecord) : Head :=
  { queue := [], nextSeq := 1, ref := ⟨park, none, .standing⟩, runs := [], floor := 1, cut := CutParams.default
    window := [], standing := park, claim := ⟨park.x, park.x⟩, watch := Watch.empty, pendingReq := none
    lapse := none, blade := Channel.reset trim record, bladeParams := BladeParams.default
    guard := GuardSettings.default, service := .inService
    hold := ⟨true, false, false, false, false, false⟩, overdue := ⟨.stopped, 0, 0⟩ }

/-- A link after reset: hunting, looking for a lead byte, idle, with an empty attention set (R162, R165). -/
def Link.reset : Link := ⟨.hunting, .lead, none, AttSet.empty⟩

/-- The job controller after reset (R18). -/
def Job.reset : Job := ⟨.idle, [], none, List.replicate 16 none⟩

/-- The cell link's attention set after reset: RESTARTED alone (R162). -/
def AttSet.restartedOnly : AttSet := { AttSet.empty with restarted := true }

/-- The part after a power-on whose reset hold has ended (R165, log 6), with the straps both low (log 7) and every pressure
line high (log 37). -/
def State.reset : State :=
  { pending := []
    free := 0
    resetHold := none
    lastCause := .power
    rate := ⟨false, false⟩
    prs := 0xFFFF
    links := ⟨Link.reset, Link.reset, { Link.reset with attention := AttSet.restartedOnly }⟩
    job := Job.reset
    heads := ⟨Head.reset ⟨0, 0⟩ 16 FaultRecord.clear, Head.reset ⟨31999, 0⟩ 16 FaultRecord.clear⟩
    bed := BedGeometry.default
    zoneSettings := ZoneSettings.default
    zones := List.replicate 16 Zone.reset
    mark := none
    pieces := []
    retained := false }

end Sys2Proof.Machine
end

