-- ==== Sys2Proof/Machine/Flags.lean ====
section
/-! DEFINITION. The sets of flags: feed-hold reasons, wait reasons and attention causes; what the manual asks of them,
and the bytes that carry them (11.1). -/

namespace Sys2Proof.Machine

/-- The bits of a set byte, bit 0 first (11.1). -/
def bitsToByte (bits : List Bool) : Byte :=
  BitVec.ofNat 8 (bits.foldr (fun b n => (if b then 1 else 0) + 2 * n) 0)

/-! ### Feed-hold reasons -/

/-- The set holds a reason: the head's FHOLD line is asserted (R134). -/
def HoldSet.held (h : HoldSet) : Bool :=
  h.noJob || h.outOfService || h.cellHold || h.blade || h.zone || h.overdue

/-- The set holds a reason other than BLADE (R66, R75). -/
def HoldSet.beyondBlade (h : HoldSet) : Bool :=
  h.noJob || h.outOfService || h.cellHold || h.zone || h.overdue

/-- The byte of a feed-hold reason set (11.1). -/
def HoldSet.byte (h : HoldSet) : Byte :=
  bitsToByte [h.noJob, h.outOfService, h.cellHold, h.blade, h.zone, h.overdue]

/-! ### Wait reasons -/

/-- The set holds no reason. -/
def WaitSet.isEmpty (w : WaitSet) : Bool := decide (w = WaitSet.empty)

/-- The byte of a wait reason set (11.1). -/
def WaitSet.byte (w : WaitSet) : Byte :=
  bitsToByte [w.queueEmpty, w.windowFull, w.headHeld, w.clearance, w.bladeNotReady, w.zonesSettling, w.zoneBudget,
    w.zoneFaulted]

/-! ### Attention causes -/

/-- The set holds a cause (R162). -/
def AttSet.any (t : AttSet) : Bool :=
  t.waitCleared || t.holdChanged || t.bladeFault || t.headSuspended || t.zoneFault || t.pieceSevered || t.restarted

/-- The causes of either set (R162: the causes of a cancelled STATUS reply are joined with those raised since). -/
def AttSet.union (t u : AttSet) : AttSet :=
  { waitCleared := t.waitCleared || u.waitCleared
    holdChanged := t.holdChanged || u.holdChanged
    bladeFault := t.bladeFault || u.bladeFault
    headSuspended := t.headSuspended || u.headSuspended
    zoneFault := t.zoneFault || u.zoneFault
    pieceSevered := t.pieceSevered || u.pieceSevered
    restarted := t.restarted || u.restarted }

/-- The byte of an attention set (11.1). -/
def AttSet.byte (t : AttSet) : Byte :=
  bitsToByte [t.waitCleared, t.holdChanged, t.bladeFault, t.headSuspended, t.zoneFault, t.pieceSevered, t.restarted]

/-- The set with WAIT-CLEARED alone. -/
def AttSet.ofWaitCleared : AttSet := { AttSet.empty with waitCleared := true }
/-- The set with HOLD-CHANGED alone. -/
def AttSet.ofHoldChanged : AttSet := { AttSet.empty with holdChanged := true }
/-- The set with BLADE-FAULT alone. -/
def AttSet.ofBladeFault : AttSet := { AttSet.empty with bladeFault := true }
/-- The set with HEAD-SUSPENDED alone. -/
def AttSet.ofHeadSuspended : AttSet := { AttSet.empty with headSuspended := true }
/-- The set with ZONE-FAULT alone. -/
def AttSet.ofZoneFault : AttSet := { AttSet.empty with zoneFault := true }
/-- The set with PIECE-SEVERED alone. -/
def AttSet.ofPieceSevered : AttSet := { AttSet.empty with pieceSevered := true }

end Sys2Proof.Machine
end

