-- ==== Sys2Proof/Machine/Ops.lean ====
section
/-! DEFINITION. The named operations over the state: reading and replacing a head, a link, a zone; raising an attention
cause; telling a wait watch; letting time pass; and the outputs of the part as views of the state. -/

namespace Sys2Proof.Machine

/-! ### Reading and replacing -/

/-- The value for a head. -/
def Pair.get {α : Type} (p : Pair α) : HeadId → α
  | .a => p.a
  | .b => p.b

/-- The pair with the value for one head replaced. -/
def Pair.set {α : Type} (p : Pair α) (h : HeadId) (v : α) : Pair α :=
  match h with
  | .a => { p with a := v }
  | .b => { p with b := v }

/-- A link of the three. -/
def Links.get (ls : Links) : LinkId → Link
  | .head .a => ls.a
  | .head .b => ls.b
  | .cell => ls.cell

/-- The links with one replaced. -/
def Links.set (ls : Links) (l : LinkId) (v : Link) : Links :=
  match l with
  | .head .a => { ls with a := v }
  | .head .b => { ls with b := v }
  | .cell => { ls with cell := v }

/-- What the part holds for a head. -/
def State.head (s : State) (h : HeadId) : Head := s.heads.get h

/-- The state with a head replaced. -/
def State.setHead (s : State) (h : HeadId) (v : Head) : State := { s with heads := s.heads.set h v }

/-- The state with a head changed. -/
def State.modHead (s : State) (h : HeadId) (f : Head → Head) : State := s.setHead h (f (s.head h))

/-- The link of that name. -/
def State.link (s : State) (l : LinkId) : Link := s.links.get l

/-- The state with a link replaced. -/
def State.setLink (s : State) (l : LinkId) (v : Link) : State := { s with links := s.links.set l v }

/-- The record of zone k; every k is below 16 where the rules name a zone. -/
def State.zone (s : State) (k : Nat) : Zone := s.zones.getD k Zone.reset

/-- The state with the record of zone k replaced. -/
def State.setZone (s : State) (k : Nat) (z : Zone) : State := { s with zones := s.zones.set k z }

/-- The park point of a head (R62). -/
def State.park (s : State) : HeadId → Point
  | .a => s.bed.parkA
  | .b => s.bed.parkB

/-- A job is open: CUTTING or CLOSING (R2). -/
def JobState.isOpen : JobState → Bool
  | .idle => false
  | .staged => false
  | .cutting => true
  | .closing => true

/-- A head is in service (R139). -/
def Head.inService (hd : Head) : Bool := decide (hd.service = .inService)

/-! ### Attention and the wait watch -/

/-- Attention causes join the set of a link (R162). -/
def State.raise (s : State) (l : LinkId) (causes : AttSet) : State :=
  s.setLink l { s.link l with attention := (s.link l).attention.union causes }

/-- A head's watch is emptied without raising WAIT-CLEARED (R74). -/
def State.emptyWatch (s : State) (h : HeadId) : State := s.modHead h fun hd => { hd with watch := Watch.empty }

/-- A watched reason has ceased: WAIT-CLEARED is raised on the head's link and the watch is emptied (R75). -/
def State.wake (s : State) (h : HeadId) : State := (s.raise (.head h) AttSet.ofWaitCleared).emptyWatch h

/-- A head's watch is told of an event; `ceases` says whether the watch holds a reason that the event ends (R75). -/
def State.tell (s : State) (h : HeadId) (ceases : Watch → Bool) : State :=
  if ceases (s.head h).watch then s.wake h else s

/-- Both watches are told of an event. -/
def State.tellBoth (s : State) (ceases : Watch → Bool) : State := (s.tell .a ceases).tell .b ceases

/-! ### Time -/

/-- A running timer after `d` microseconds: it stands at 0 when it is due. -/
def timerAfter (d : Nat) (t : Option Nat) : Option Nat := t.map (· - d)

/-- The channel accepts index pulses in this state (R110). -/
def ChState.accepts : ChState → Bool
  | .stopped => false
  | .spinup => true
  | .settling => true
  | .run => true
  | .retryWait => false
  | .faulted => false

/-- A channel after `d` microseconds in which nothing happened to it. -/
def Channel.elapse (d : Nat) (c : Channel) : Channel :=
  { c with
    since := if c.st.accepts then c.since + d else c.since
    watchLeft := timerAfter d c.watchLeft
    idleTimer := timerAfter d c.idleTimer
    stopTimer := timerAfter d c.stopTimer
    retryTimer := timerAfter d c.retryTimer }

/-- An overdue timer after `d` microseconds: elapsed time accrues while it is COUNTING, up to the allowance (R136). -/
def Overdue.elapse (d : Nat) (o : Overdue) : Overdue :=
  match o.st with
  | .counting => { o with elapsed := min o.allowance (o.elapsed + d) }
  | .stopped => o
  | .paused => o

/-- A head after `d` microseconds. -/
def Head.elapse (d : Nat) (hd : Head) : Head :=
  { hd with blade := hd.blade.elapse d, overdue := hd.overdue.elapse d, lapse := timerAfter d hd.lapse }

/-- A zone after `d` microseconds in which its input kept its level. -/
def Zone.elapse (d : Nat) (z : Zone) : Zone := { z with pull := timerAfter d z.pull, steady := z.steady + d }

/-- The whole part after `d` microseconds in which nothing happened: only timers move (log 1, log 2). -/
def State.elapse (d : Nat) (s : State) : State :=
  { s with
    heads := ⟨s.heads.a.elapse d, s.heads.b.elapse d⟩
    zones := s.zones.map (Zone.elapse d)
    mark := s.mark.map fun m => { m with left := m.left - d }
    resetHold := s.resetHold.map fun r => { r with left := r.left - d } }

/-- A time left in whole milliseconds; how a part of a millisecond is rounded is a free value (log 10). -/
def msLeft (us : Nat) : Nat :=
  us / 1000 + (if us % 1000 = 0 then 0 else if Config.roundsUp us then 1 else 0)

/-- The milliseconds left on a timer, 0 when it is stopped (R97, R118). -/
def timerMs : Option Nat → Nat
  | some us => msLeft us
  | none => 0

/-- The remaining time of an overdue timer in milliseconds (R136). -/
def Overdue.remaining (o : Overdue) : Nat :=
  match o.st with
  | .stopped => 0
  | .counting => msLeft (o.allowance - o.elapsed)
  | .paused => msLeft (o.allowance - o.elapsed)

/-! ### Inputs -/

/-- PRSk reads good vacuum through its polarity: an active-low input while its line is low, an active-high input while it
is high (R85). -/
def State.readsGood (s : State) (k : Nat) : Bool := decide (s.prs.getLsbD k = s.zoneSettings.activeHigh.getLsbD k)

/-- The divisor of the link rate (Table 10-1). -/
def LinkRate.divisor : LinkRate → Nat
  | ⟨false, false⟩ => 40
  | ⟨false, true⟩ => 20
  | ⟨true, false⟩ => 10
  | ⟨true, true⟩ => 5

/-- The rate of all three links in baud: the reference of 36.864 MHz, sixteen samples a bit, by the divisor (R156). -/
def LinkRate.baud (r : LinkRate) : Nat := 36864000 / 16 / r.divisor

/-! ### Outputs -/

/-- The transmitter of a link holds its line high: no reply is being sent, as throughout every reset hold (R156). While a
reply is being sent the line carries its characters. -/
def State.txHigh (s : State) (l : LinkId) : Bool := s.resetHold.isSome || !((s.link l).inFlight.any InFlight.begun)

/-- The valve of a zone is on (R83). -/
def ZoneState.on : ZoneState → Bool
  | .off => false
  | .pulling => true
  | .held => true
  | .lost => true
  | .fault => false

/-- FHOLD-A or FHOLD-B is asserted (R134). -/
def State.fhold (s : State) (h : HeadId) : Bool := (s.head h).hold.held

/-- The attention line of a link is asserted; all three are released during the reset hold (R162). -/
def State.atn (s : State) (l : LinkId) : Bool := s.resetHold.isNone && (s.link l).attention.any

/-- VACk is on (R83). -/
def State.vac (s : State) (k : Nat) : Bool := (s.zone k).st.on

/-- DRV-EN of a head is on (R100). -/
def State.drvEn (s : State) (h : HeadId) : Bool := (s.head h).blade.st.accepts

/-- DRV-BRK of a head is on (R100). -/
def State.drvBrk (s : State) (h : HeadId) : Bool := (s.head h).blade.brake

/-- The setpoint output of a head: the commanded rate in SPINUP, SETTLING and RUN, and 0 otherwise (R100). -/
def State.setpoint (s : State) (h : HeadId) : Nat :=
  if (s.head h).blade.st.accepts then (s.head h).blade.commanded else 0

end Sys2Proof.Machine
end

