-- ==== Sys2Proof/Machine/Governor.lean ====
section
/-! DEFINITION. The feed governor (Chapter 3): the nine stages that give a granted segment its feed limit, flags,
expected time and overdue allowance. All arithmetic is on whole numbers, rounded as each stage states. -/

namespace Sys2Proof.Machine

/-- The coefficient of a class; an undefined entry has none and is not read during a job (R5). -/
def Job.coef (j : Job) (cls : Nat) : Nat := (j.classes.getD cls none).getD 0

/-- The stack resistance S (R46). -/
def Job.resistance (j : Job) : Nat := (j.stack.map fun l => l.thickness * j.coef l.cls).sum

/-- The resistance index N (R46). -/
def Job.index (j : Job) : Nat := ceilDiv j.resistance 64

/-- The stack pitch P1 (R47). -/
def stackPitch (p : CutParams) (n : Nat) : Nat := p.pMax * 256 / (256 + n)

/-- The curved pitch P2 (R48). -/
def curvedPitch (p : CutParams) (seg : Segment) (p1 : Nat) : Nat :=
  match seg.kind with
  | .line => p1
  | .arcCw => p1 * seg.radius.getD 0 / (seg.radius.getD 0 + 4 * p.w)
  | .arcCcw => p1 * seg.radius.getD 0 / (seg.radius.getD 0 + 4 * p.w)
  | .air => p1

/-- The trimmed pitch P3 (R49). -/
def trimmedPitch (trim p2 : Nat) : Nat := p2 * trim / 16

/-- The expected time t_exp in milliseconds (R53). -/
def expectedTime (length feed : Nat) : Nat := ceilDiv (length * 6000) feed

/-- The pivot time t_piv in milliseconds (R54). -/
def pivotTime (p : CutParams) (e : Entry) : Nat :=
  match e.joint with
  | .pivot => if e.seg.kind = .air then 0 else ceilDiv (e.turn * p.pivot) 10
  | .smooth => 0
  | .free => 0

/-- The overdue allowance A in milliseconds, capped at 600000 (R55). -/
def allowanceOf (p : CutParams) (expected piv : Nat) : Nat := min 600000 (2 * (expected + piv) + p.grace)

/-- The feed limit of a cutting segment before the ceiling: floor(P3 × f_cut / 1000) (R51). -/
def rawFeed (fCut p3 : Nat) : Nat := p3 * fCut / 1000

/-- The governor's results for a segment (R44): the stack, the class table, the head's cut parameters, f_cut and T as
they stand. An AIR segment skips to its own feed (R52). -/
def govern (j : Job) (p : CutParams) (fCut trim : Nat) (e : Entry) : GrantResult :=
  if e.seg.kind = .air then
    { feed := p.fAir, heavy := false, ceiling := false, expected := expectedTime e.seg.length p.fAir
      allowance := allowanceOf p (expectedTime e.seg.length p.fAir) 0 }
  else
    let p3 := trimmedPitch trim (curvedPitch p e.seg (stackPitch p j.index))
    let heavy := decide (p3 < p.pMin)
    let f := rawFeed fCut (if heavy then p.pMin else p3)
    let ceiling := decide (p.fMax < f)
    let f := if ceiling then p.fMax else f
    let f := if f = 0 then 1 else f
    { feed := f, heavy := heavy, ceiling := ceiling, expected := expectedTime e.seg.length f
      allowance := allowanceOf p (expectedTime e.seg.length f) (pivotTime p e) }

end Sys2Proof.Machine
end

