-- ==== Sys2Proof/Machine/Blade.lean ====
section
/-! DEFINITION. The blade channel (Chapter 6): step rates, the moves between its states, the demand it works out and how
it acts on a change of demand. Every departure from RUN at CUT goes through `Channel.depart`. -/

namespace Sys2Proof.Machine

/-! ### Rates -/

/-- The percentage a step code names (06 section 6.2). Codes above 7 are refused by BLADE SET. -/
def stepPercent : Nat → Nat
  | 0 => 25
  | 1 => 40
  | 2 => 55
  | 3 => 70
  | 4 => 80
  | 5 => 90
  | 6 => 95
  | _ => 100

/-- The target rate of a level (R106). -/
def BladeParams.rateOf (p : BladeParams) : Level → Nat
  | .idle => p.fIdle
  | .cut => p.fCut

/-- The commanded rate of step `i` toward a level: the percentage of the target rate, rounded down, raised to 300 and
lowered to f_cut (R106). -/
def BladeParams.stepRate (p : BladeParams) (lvl : Level) (i : Nat) : Nat :=
  min p.fCut (max 300 (p.rateOf lvl * stepPercent (p.ramp.getD (i - 1) 7) / 100))

/-- The first step, from 1 to 8, whose rate toward CUT exceeds f_idle (R108). -/
def BladeParams.joinStep (p : BladeParams) : Option Nat :=
  [1, 2, 3, 4, 5, 6, 7, 8].find? fun i => decide (p.fIdle < p.stepRate .cut i)

/-- The expected period of a commanded rate, in microseconds (R110). -/
def expectedPeriod (rate : Nat) : Nat := 60000000 / rate

/-! ### Moves of a channel -/

/-- The channel is in RUN at CUT (R99). -/
def Channel.runAtCut (c : Channel) : Bool := decide (c.st = .run) && decide (c.target = .cut)

/-- The level of a running channel, absent in the other states (R99, R167). -/
def Channel.level (c : Channel) : Option Level := if c.st.accepts then some c.target else none

/-- What every departure clears: the run counts of the trim, the relief pause and the escalation count where the channel
was in RUN at CUT (R114 to R116), and the last RUN period (R119). R109 says that a channel that enters STOPPED keeps its
run counts, and R125 that one that enters RETRY-WAIT or FAULTED keeps its trim run counts; the model follows R114 and
clears them with the departure from RUN at CUT (log 17). -/
def Channel.depart (c : Channel) : Channel :=
  let clear := c.runAtCut
  { c with
    heavy := if clear then 0 else c.heavy
    light := if clear then 0 else c.light
    pause := if clear then 0 else c.pause
    escalation := if clear then 0 else c.escalation
    lastRunPeriod := none }

/-- The stroke watch of three expected periods, counted from the last accepted pulse (R111). Where no pulse has been
accepted since the entry to SPINUP the time left is a free value (log 21). -/
def Channel.strokeWatch (c : Channel) (rate : Nat) : Nat :=
  if c.pulseSeen then 3 * expectedPeriod rate - c.since else Config.noPulseWatch (expectedPeriod rate) c.since

/-- The channel enters STOPPED, with the brake as given (R100, R109). -/
def Channel.stop (brake : Bool) (c : Channel) : Channel :=
  { c.depart with
    st := .stopped, commanded := 0, measured := 0, strokes := 0, watchLeft := none, retryTimer := none
    missRun := 0, lockRun := 0, brake := brake }

/-- The channel enters SPINUP at step 1 from STOPPED or RETRY-WAIT (R107, R128). -/
def Channel.spinUp (p : BladeParams) (lvl : Level) (c : Channel) : Channel :=
  { c.depart with
    st := .spinup, target := lvl, step := 1, stepCount := 0, commanded := p.stepRate lvl 1, pulseSeen := false
    since := 0, watchLeft := some Config.startWindow, measured := 0, strokes := 0
    sampleSum := 0, sampleCount := 0, samplePeak := 0, retryTimer := none, missRun := 0, lockRun := 0, brake := false }

/-- The channel enters SETTLING at a level, or takes a new target within it: it commands the target rate and its counts
start at 0 (R107 to R109, R112). -/
def Channel.settle (p : BladeParams) (lvl : Level) (c : Channel) : Channel :=
  { c.depart with
    st := .settling, target := lvl, commanded := p.rateOf lvl, settleCount := 0, settleStrokes := 0
    watchLeft := some (c.strokeWatch (p.rateOf lvl)) }

/-- The channel is raised toward CUT from RUN at IDLE or from SETTLING toward IDLE (R108). -/
def Channel.raiseToCut (p : BladeParams) (c : Channel) : Channel :=
  match p.joinStep with
  | some i =>
    { c.depart with
      st := .spinup, target := .cut, step := i, stepCount := 0, commanded := p.stepRate .cut i
      watchLeft := some Config.startWindow, missRun := 0, brake := false }
  | none => c.settle p .cut

/-- The channel acts on a change of demand (Table 6-3). An entry to STOPPED turns the brake off here; ABORT gives the
brake of its stop action itself (R100, R130). -/
def Channel.act (p : BladeParams) (d : Demand) (c : Channel) : Channel :=
  match c.st, d with
  | .stopped, .idle => c.spinUp p .idle
  | .stopped, .cut => c.spinUp p .cut
  | .stopped, .off => c
  | .spinup, .off => c.stop false
  | .settling, .off => c.stop false
  | .run, .off => c.stop false
  | .spinup, .cut =>
    match c.target with
    | .idle => { c with target := .cut, commanded := p.stepRate .cut c.step }
    | .cut => c
  | .spinup, .idle =>
    match c.target with
    | .idle => c
    | .cut => c.settle p .idle
  | .settling, .cut =>
    match c.target with
    | .idle => c.raiseToCut p
    | .cut => c
  | .settling, .idle =>
    match c.target with
    | .idle => c
    | .cut => c.settle p .idle
  | .run, .cut =>
    match c.target with
    | .idle => c.raiseToCut p
    | .cut => c
  | .run, .idle =>
    match c.target with
    | .idle => c
    | .cut => c.settle p .idle
  | .retryWait, _ => c
  | .faulted, _ => c

/-- The demand of a channel becomes `d`; a change is acted on, no change does nothing (R103, R109). -/
def Channel.setDemand (p : BladeParams) (d : Demand) (c : Channel) : Channel :=
  if d = c.demand then c else { c.act p d with demand := d }

/-- A channel in STOPPED enters SPINUP where its demand is IDLE or CUT (R128, R129). -/
def Channel.climb (p : BladeParams) (c : Channel) : Channel :=
  match c.demand with
  | .off => c
  | .idle => c.spinUp p .idle
  | .cut => c.spinUp p .cut

/-! ### Demand -/

/-- A window entry is a cutting segment (R21). -/
def WinEntry.isCut (w : WinEntry) : Bool := decide (w.entry.seg.kind ≠ .air)

/-- The head's window holds a cutting segment. -/
def Head.holdsCut (hd : Head) : Bool := hd.window.any WinEntry.isCut

/-- The oldest entry of the head's window is a cutting segment (R114, R123). -/
def Head.oldestCuts (hd : Head) : Bool := hd.window.head?.any WinEntry.isCut

/-- The CUT condition of a head (R103). -/
def Head.cutCondition (hd : Head) : Bool := hd.holdsCut || hd.blade.idleTimer.isSome

/-- The job is open, the head in service, and its CUT condition does not hold: the condition of the stop-delay timer
(R105). -/
def Head.standsBy (jobOpen : Bool) (hd : Head) : Bool := jobOpen && hd.inService && !hd.cutCondition

/-- The demand of a head's channel, by the first case of R103 that applies. -/
def Head.demandOf (jobOpen : Bool) (hd : Head) : Demand :=
  if (!jobOpen || !hd.inService) = true then .off
  else if hd.cutCondition = true then (if hd.hold.overdue = true then .idle else .cut)
  else if hd.blade.stopTimer.isSome = true then .idle
  else .off

/-- The stop-delay timer after an event: stopped where the CUT condition holds or no open job has the head in service,
started afresh where `standsBy` holds now and did not before (R105). -/
def Head.stopTimerAfter (stoodBy jobOpen : Bool) (hd : Head) : Option Nat :=
  if hd.standsBy jobOpen = true then
    (if stoodBy = true then hd.blade.stopTimer else some (hd.bladeParams.stopDelay * 1000000))
  else none

/-- The blade channel after an event: the stop-delay timer, then the demand and what it brings about (R103, R105,
R109). `stoodBy` is `standsBy` as it was before the event. -/
def Head.reworkBlade (stoodBy jobOpen : Bool) (hd : Head) : Head :=
  let hd := { hd with blade := { hd.blade with stopTimer := hd.stopTimerAfter stoodBy jobOpen } }
  { hd with blade := hd.blade.setDemand hd.bladeParams (hd.demandOf jobOpen) }

end Sys2Proof.Machine
end

