-- ==== Sys2Proof/Machine/Guard.lean ====
section
/-! DEFINITION. What the end of a stroke does: the channel's own work (Chapter 6: spin-up count, settling, trim, relief)
and then the tests of the blade guard with their responses (Chapter 7), in the order of R124. -/

namespace Sys2Proof.Machine

/-! ### Fault responses -/

/-- The value of a kind. -/
def PerKind.get {α : Type} (v : PerKind α) : FaultKind → α
  | .strokeLost => v.strokeLost
  | .roughRate => v.roughRate
  | .noSettle => v.noSettle
  | .overload => v.overload
  | .bladeMissing => v.bladeMissing

/-- One of the five kind counts rises by one, saturating at 255 (R131). -/
def PerKind.count (v : PerKind Nat) (k : FaultKind) : PerKind Nat :=
  match k with
  | .strokeLost => { v with strokeLost := min 255 (v.strokeLost + 1) }
  | .roughRate => { v with roughRate := min 255 (v.roughRate + 1) }
  | .noSettle => { v with noSettle := min 255 (v.noSettle + 1) }
  | .overload => { v with overload := min 255 (v.overload + 1) }
  | .bladeMissing => { v with bladeMissing := min 255 (v.bladeMissing + 1) }

/-- A detection is recorded: the kind, the stroke count, measured rate and last average as they stand, and the kind's
count (R131). -/
def Channel.recordFault (k : FaultKind) (c : Channel) : Channel :=
  { c with
    record := { c.record with
      last := some k, strokes := c.strokes, rate := c.measured, average := c.lastAvg
      counts := c.record.counts.count k } }

/-- The channel enters RETRY-WAIT or FAULTED with the brake as given (R125). -/
def Channel.setAside (st : ChState) (brake : Bool) (c : Channel) : Channel :=
  { c.depart with
    st := st, commanded := 0, measured := 0, watchLeft := none, missRun := 0, lockRun := 0, brake := brake }

/-- A further retry is allowed: the limit is unlimited, or the count is below it (R127). -/
def retryAllowed (limit : RetryLimit) (count : Nat) : Bool :=
  match limit with
  | .upTo n => decide (count < n)
  | .unlimited => true

/-- A retry mode acts: RETRY-WAIT with the count raised and the retry timer started, or FAULTED at the limit (R127,
R128). -/
def Channel.retry (g : GuardSettings) (brake : Bool) (c : Channel) : Channel :=
  if retryAllowed g.retryLimit c.retries = true then
    { c.setAside .retryWait brake with
      retries := min 255 (c.retries + 1), retryTimer := some (g.retryTime * 1000) }
  else c.setAside .faulted brake

/-- The guard acts on a detected kind by its mode (Table 7-1, R131). -/
def Channel.respond (g : GuardSettings) (k : FaultKind) (c : Channel) : Channel :=
  match g.modes.get k with
  | .latchCoast => (c.recordFault k).setAside .faulted false
  | .latchBrake => (c.recordFault k).setAside .faulted true
  | .retryCoast => (c.recordFault k).retry g false
  | .retryBrake => (c.recordFault k).retry g true
  | .report => c.recordFault k
  | .ignore => c

/-- A kind is tested unless its mode is IGNORE (R119). -/
def GuardSettings.tests (g : GuardSettings) (k : FaultKind) : Bool := decide (g.modes.get k ≠ .ignore)

/-- STROKE-LOST: the stroke watch ran out (R120). In REPORT the watch starts afresh with the same length; in IGNORE the
kind is not tested and the watch stands stopped until the next accepted pulse (log 22). -/
def Channel.strokeLost (g : GuardSettings) (c : Channel) : Channel :=
  match g.modes.strokeLost with
  | .report =>
    { c.respond g .strokeLost with
      watchLeft := some (if c.st = .spinup then Config.startWindow else 3 * expectedPeriod c.commanded) }
  | .ignore => { c with watchLeft := none }
  | .latchCoast => c.respond g .strokeLost
  | .latchBrake => c.respond g .strokeLost
  | .retryCoast => c.respond g .strokeLost
  | .retryBrake => c.respond g .strokeLost

/-! ### The end of a stroke -/

/-- What the end of a stroke brought about. `ready`: the channel entered RUN at CUT; `bladeFault`: it entered RETRY-WAIT
or FAULTED. -/
structure StrokeEvents where
  stepDone   : Bool
  lockOn     : Bool
  ready      : Bool
  noSettle   : Bool
  trimDown   : Bool
  trimUp     : Bool
  pauseEnd   : Bool
  escalated  : Bool
  overload   : Bool
  missing    : Bool
  clean      : Bool
  bladeFault : Bool
deriving DecidableEq, Repr

/-- Nothing came about. -/
def StrokeEvents.none : StrokeEvents :=
  ⟨false, false, false, false, false, false, false, false, false, false, false, false⟩

/-- The measurements of the stroke that an accepted pulse ends, and what the guard needs of the moment it ended: the
state and level it ended in, whether the head was feeding through a cut, and its period, average and peak. -/
structure Stroke where
  st      : ChState
  level   : Level
  feeding : Bool
  period  : Nat
  average : Nat
  peak    : Nat
deriving DecidableEq, Repr

/-- The stroke ended in RUN at CUT. -/
def Stroke.atCut (k : Stroke) : Bool := decide (k.st = .run) && decide (k.level = .cut)

/-- An accepted pulse in SPINUP adds one to the step's count; at the step strokes the step is done (R107). -/
def Channel.countPulse (p : BladeParams) (c : Channel) : Channel × StrokeEvents :=
  ({ c with stepCount := c.stepCount + 1 },
    { StrokeEvents.none with stepDone := decide (p.stepStrokes ≤ c.stepCount + 1) })

/-- A stroke that ends in SETTLING: it is in band when 20 × |m − c| is at most c; at the settle count it completes lock-on
(R112). -/
def Channel.countSettling (p : BladeParams) (c : Channel) : Channel × StrokeEvents :=
  let inBand := decide (20 * absDiff c.measured c.commanded ≤ c.commanded)
  let n := if inBand then c.settleCount + 1 else 0
  ({ c with settleCount := n, settleStrokes := c.settleStrokes + 1 },
    { StrokeEvents.none with lockOn := decide (p.settle ≤ n) })

/-- The step that is done gives way to the next, or after step 8 to SETTLING (R107). -/
def Channel.nextStep (p : BladeParams) (c : Channel) : Channel :=
  if c.step < 8 then { c with step := c.step + 1, stepCount := 0, commanded := p.stepRate c.target (c.step + 1) }
  else c.settle p c.target

/-- The channel enters RUN at its target level (R112, R127). -/
def Channel.enterRun (c : Channel) : Channel := { c with st := .run, cleanRun := 0, lastRunPeriod := none }

/-- The move that the channel's own work makes, once the guard has tested the stroke (R124): none where the guard's response
has taken the channel to RETRY-WAIT or FAULTED; then neither the step nor the lock-on comes about. -/
def ownMove (p : BladeParams) (ce : Channel × StrokeEvents) : Channel × StrokeEvents :=
  if ce.2.bladeFault then (ce.1, { ce.2 with stepDone := false, lockOn := false })
  else if ce.2.stepDone then (ce.1.nextStep p, ce.2)
  else if ce.2.lockOn then (ce.1.enterRun, { ce.2 with ready := decide (ce.1.target = .cut) })
  else ce

/-- The trim judges a stroke that ended in RUN at CUT (R114). -/
def Channel.judgeTrim (p : BladeParams) (k : Stroke) (c : Channel) : Channel × StrokeEvents :=
  if k.feeding = false then ({ c with heavy := 0, light := 0 }, StrokeEvents.none)
  else if p.trimHigh < k.average then
    if 4 ≤ c.heavy + 1 then
      ({ c with heavy := 0, light := 0, trim := if c.trim ≤ 4 then c.trim else c.trim - 1 },
        { StrokeEvents.none with trimDown := true })
    else ({ c with heavy := c.heavy + 1, light := 0 }, StrokeEvents.none)
  else if k.average < p.trimLow then
    if 16 ≤ c.light + 1 then
      ({ c with heavy := 0, light := 0, trim := if 16 ≤ c.trim then c.trim else c.trim + 1 },
        { StrokeEvents.none with trimUp := true })
    else ({ c with heavy := 0, light := c.light + 1 }, StrokeEvents.none)
  else ({ c with heavy := 0, light := 0 }, StrokeEvents.none)

/-- The relief event count of the fault record rises (R115). -/
def Channel.countRelief (c : Channel) : Channel :=
  { c with record := { c.record with reliefs := min 255 (c.record.reliefs + 1) } }

/-- Relief judges a stroke that ended in RUN at CUT (R115, R116). -/
def Channel.relieve (g : GuardSettings) (k : Stroke) (ce : Channel × StrokeEvents) : Channel × StrokeEvents :=
  let c := ce.1
  match g.reliefMode with
  | .ignore => ce
  | .report => if g.peakLimit < k.peak then (c.countRelief, ce.2) else ce
  | .relief =>
    if g.peakLimit < k.peak then
      if g.escalation ≤ c.escalation + 1 then
        ({ c.countRelief with pause := g.reliefN, escalation := 0 }, { ce.2 with escalated := true })
      else ({ c.countRelief with pause := g.reliefN, escalation := c.escalation + 1 }, ce.2)
    else ({ c with pause := c.pause - 1, escalation := 0 }, { ce.2 with pauseEnd := decide (c.pause = 1) })

/-- The channel's own work on an ended stroke, in the state the stroke ended in, before any move it makes (R124). -/
def Channel.ownWork (p : BladeParams) (g : GuardSettings) (k : Stroke) (c : Channel) : Channel × StrokeEvents :=
  match k.st with
  | .spinup => c.countPulse p
  | .settling => c.countSettling p
  | .run => if k.atCut then Channel.relieve g k (c.judgeTrim p k) else (c, StrokeEvents.none)
  | .stopped => (c, StrokeEvents.none)
  | .retryWait => (c, StrokeEvents.none)
  | .faulted => (c, StrokeEvents.none)

/-! ### The guard's tests -/

/-- A kind has been detected on an ended stroke: the guard responds, and the events say whether the channel left the
states in which the guard tests (R124, R125). -/
def detect (g : GuardSettings) (kind : FaultKind) (c : Channel) (e : StrokeEvents) : Channel × StrokeEvents :=
  (c.respond g kind, { e with bladeFault := !(c.respond g kind).st.accepts })

/-- A stroke is rough against the last RUN period (R121). -/
def roughAgainst (ratio p : Nat) : Option Nat → Bool
  | some q => decide (ratio * min p q < max p q)
  | none => false

/-- The ROUGH-RATE test of a stroke that ended in RUN (R121). -/
def testRough (g : GuardSettings) (k : Stroke) (ce : Channel × StrokeEvents) : Channel × StrokeEvents :=
  if k.st = .run then
    let rough := g.tests .roughRate && roughAgainst g.rough k.period ce.1.lastRunPeriod
    let c := { ce.1 with lastRunPeriod := some k.period }
    if rough then detect g .roughRate c ce.2 else (c, ce.2)
  else ce

/-- The NO-SETTLE test of a stroke that ended in SETTLING: the 64th, without lock-on (R112, R120). -/
def testNoSettle (g : GuardSettings) (k : Stroke) (ce : Channel × StrokeEvents) : Channel × StrokeEvents :=
  if k.st = .settling ∧ ce.2.lockOn = false ∧ 64 ≤ ce.1.settleStrokes ∧ g.tests .noSettle = true then
    detect g .noSettle { ce.1 with settleStrokes := 0 } { ce.2 with noSettle := true }
  else ce

/-- The OVERLOAD test of any stroke: the lock run, or relief escalation (R122). -/
def testOverload (g : GuardSettings) (k : Stroke) (ce : Channel × StrokeEvents) : Channel × StrokeEvents :=
  if g.tests .overload = true then
    let n := if g.lockLimit < k.average then ce.1.lockRun + 1 else 0
    let locked := decide (g.lockStrokes ≤ n)
    let c := { ce.1 with lockRun := if locked then 0 else n }
    if locked || ce.2.escalated then detect g .overload c { ce.2 with overload := true } else (c, ce.2)
  else ce

/-- The BLADE-MISSING test: strokes that end in RUN at CUT while the head feeds through a cut are judged (R123). -/
def testMissing (g : GuardSettings) (k : Stroke) (ce : Channel × StrokeEvents) : Channel × StrokeEvents :=
  if g.tests .bladeMissing = true then
    if (k.atCut && k.feeding && decide (k.average < g.noBlade)) = true then
      if 32 ≤ ce.1.missRun + 1 then detect g .bladeMissing { ce.1 with missRun := 0 } { ce.2 with missing := true }
      else ({ ce.1 with missRun := ce.1.missRun + 1 }, ce.2)
    else ({ ce.1 with missRun := 0 }, ce.2)
  else ce

/-- A test is made unless an earlier one took the channel out of the states in which the guard tests (R124). -/
def unlessOut (test : Channel × StrokeEvents → Channel × StrokeEvents) (ce : Channel × StrokeEvents) :
    Channel × StrokeEvents :=
  if ce.2.bladeFault then ce else test ce

/-- The clean run count of a stroke that ended in RUN and left the channel in RUN (R127, log 19). -/
def countClean (k : Stroke) (ce : Channel × StrokeEvents) : Channel × StrokeEvents :=
  if k.st = .run then
    if 256 ≤ ce.1.cleanRun + 1 then ({ ce.1 with cleanRun := 0, retries := 0 }, { ce.2 with clean := true })
    else ({ ce.1 with cleanRun := ce.1.cleanRun + 1 }, ce.2)
  else ce

/-- The guard's tests in the order of R124: ROUGH-RATE, NO-SETTLE, OVERLOAD, BLADE-MISSING; then the clean run. -/
def guardTests (g : GuardSettings) (k : Stroke) (ce : Channel × StrokeEvents) : Channel × StrokeEvents :=
  unlessOut (countClean k) (unlessOut (testMissing g k) (unlessOut (testOverload g k)
    (unlessOut (testNoSettle g k) (testRough g k ce))))

/-! ### Index pulses -/

/-- The load samples taken since the last index pulse join the stroke in progress (R113). -/
def Channel.addSamples (samples : List Sample) (c : Channel) : Channel :=
  { c with
    sampleSum := c.sampleSum + (samples.map BitVec.toNat).sum
    sampleCount := c.sampleCount + samples.length
    samplePeak := (samples.map BitVec.toNat).foldl max c.samplePeak }

/-- A pulse now would be blanked: less than half the expected period has passed since the last accepted one (R110). -/
def Channel.blanks (c : Channel) : Bool := c.pulseSeen && decide (2 * c.since < expectedPeriod c.commanded)

/-- The stroke watch after an accepted pulse (R111). -/
def Channel.freshWatch (c : Channel) : Option Nat :=
  some (if c.st = .spinup then Config.startWindow else 3 * expectedPeriod c.commanded)

/-- What every accepted pulse does: the stroke count rises, and the next stroke begins (R110, R111, R113). -/
def Channel.acceptPulse (c : Channel) : Channel :=
  { c with
    pulseSeen := true, since := 0, strokes := min 65535 (c.strokes + 1), watchLeft := c.freshWatch
    sampleSum := 0, sampleCount := 0, samplePeak := 0 }

/-- The head feeds through a cut: the oldest window entry is a cutting segment and FHOLD is released (R114, R123). -/
def Head.feeding (hd : Head) : Bool := hd.oldestCuts && !hd.hold.held

/-- The stroke an accepted pulse ends (R110, R113). `noAvg` and `noPeak` give the average and peak of a stroke without
samples, the peak not below the average (log 11). -/
def Head.strokeEnded (noAvg noPeak : Nat) (hd : Head) : Stroke :=
  { st := hd.blade.st, level := hd.blade.target, feeding := hd.feeding, period := hd.blade.since
    average := if hd.blade.sampleCount = 0 then noAvg else hd.blade.sampleSum / hd.blade.sampleCount
    peak := if hd.blade.sampleCount = 0 then max noAvg noPeak else hd.blade.samplePeak }

/-- The channel with an ended stroke measured (R110, R113). -/
def Channel.measure (k : Stroke) (c : Channel) : Channel :=
  { c.acceptPulse with period := k.period, measured := 60000000 / k.period, lastAvg := k.average, lastPeak := k.peak }

/-- What an accepted pulse does to a head's channel. The first after an entry to SPINUP ends no stroke; every other
ends one: the channel's own work counts it, the guard tests it, and then the channel makes the move its work calls for
(R110, R124). -/
def Head.pulseWork (noAvg noPeak : Nat) (hd : Head) : Channel × StrokeEvents :=
  if hd.blade.pulseSeen then
    let k := hd.strokeEnded noAvg noPeak
    ownMove hd.bladeParams (guardTests hd.guard k ((hd.blade.measure k).ownWork hd.bladeParams hd.guard k))
  else if hd.blade.st = .spinup then ownMove hd.bladeParams (hd.blade.acceptPulse.countPulse hd.bladeParams)
  else (hd.blade.acceptPulse, StrokeEvents.none)

end Sys2Proof.Machine
end

