-- ==== Sys2Proof/Machine/Zones.lean ====
section
/-! DEFINITION. The zone controller (Chapter 5): zone need, the budget and its mark, starting, venting and faulting
zones, the zone request of a GRANT, and the orphan restart. -/

namespace Sys2Proof.Machine

/-! ### Zone ranges and need -/

/-- The zones an X span touches (00, Zones and spans). -/
def spanZones (lo hi : Nat) : ZoneRange := ⟨lo / Config.zoneWidth, hi / Config.zoneWidth⟩

/-- Zone k lies in the range. -/
def ZoneRange.has (r : ZoneRange) (k : Nat) : Bool := decide (r.first ≤ k) && decide (k ≤ r.last)

/-- The zones 0 to 15 that lie in the range, in ascending order. -/
def ZoneRange.list (r : ZoneRange) : List Nat := (List.range Config.zoneCount).filter r.has

/-- An optional range holds zone k. -/
def rangeHas (r : Option ZoneRange) (k : Nat) : Bool :=
  match r with
  | some r => r.has k
  | none => false

/-- A cutting entry of the head's window lies over zone k (R64, R86). -/
def Head.cutsOver (hd : Head) (k : Nat) : Bool := hd.window.any fun w => rangeHas w.zones k

/-- A SEVERED piece lies over zone k (R86). -/
def State.severedOver (s : State) (k : Nat) : Bool :=
  s.pieces.any fun p => decide (p.st = .severed) && (spanZones p.lo p.hi).has k

/-- Zone k, which is on, is needed (R86). -/
def State.needed (s : State) (k : Nat) : Bool :=
  s.heads.a.cutsOver k || s.heads.b.cutsOver k || rangeHas s.heads.a.pendingReq k || rangeHas s.heads.b.pendingReq k ||
    s.severedOver k

/-- The active count: the zones in PULLING, HELD or LOST (R89). -/
def State.activeCount (s : State) : Nat := s.zones.countP fun z => z.st.on

/-- Every zone of the range is HELD. -/
def State.allHeld (s : State) (r : ZoneRange) : Bool := r.list.all fun k => decide ((s.zone k).st = .held)

/-- The zones of the range that are OFF. -/
def State.offIn (s : State) (r : ZoneRange) : List Nat := r.list.filter fun k => decide ((s.zone k).st = .off)

/-! ### Starting, venting and faulting a zone -/

/-- A zone record on its entry to PULLING from OFF: the pull timer starts, and the debounced level is not good and its
deglitch timing begins afresh (R85, R87). -/
def Zone.start (cfg : ZoneSettings) (z : Zone) : Zone :=
  { z with st := .pulling, pull := some (cfg.pullTimeout * 1000), good := false, steady := 0 }

/-- A zone record that goes OFF: its valve closes and its pull timer stops (R86). -/
def Zone.vent (z : Zone) : Zone := { z with st := .off, pull := none }

/-- A zone record that goes to FAULT (R94). -/
def Zone.fail (z : Zone) : Zone := { z with st := .fault, pull := none, faults := min 255 (z.faults + 1) }

/-- Zone k goes from OFF to PULLING. -/
def State.startZone (s : State) (k : Nat) : State := s.setZone k ((s.zone k).start s.zoneSettings)

/-- The watches are told that zone k went OFF or to FAULT (R97): a watched ZONE-BUDGET ceases, and a watched
ZONES-SETTLING over the zone ceases if the zone was PULLING or LOST. -/
def State.zoneGone (s : State) (k : Nat) (was : ZoneState) : State :=
  s.tellBoth fun w => w.reasons.zoneBudget ||
    (w.reasons.zonesSettling && rangeHas w.range k && (decide (was = .pulling) || decide (was = .lost)))

/-- Zone k goes OFF at the end of its need (R86). -/
def State.ventZone (s : State) (k : Nat) : State :=
  (s.setZone k (s.zone k).vent).zoneGone k (s.zone k).st

/-- The orphan restart looks at zone k: it is started if it is OFF, lies under a cutting window entry, and the active
count is below the budget (R95). -/
def State.restartZone (s : State) (k : Nat) : State :=
  if (s.zone k).st = .off ∧ (s.heads.a.cutsOver k || s.heads.b.cutsOver k) = true ∧ s.activeCount < s.zoneSettings.budget
  then s.startZone k else s

/-- The orphan restart: the zones from 0 to 15 in ascending order (R95). -/
def State.orphanRestart (s : State) : State := (List.range Config.zoneCount).foldl State.restartZone s

/-- A zone that is on and no longer needed goes OFF (R86). -/
def State.ventIfUnneeded (s : State) (k : Nat) : State :=
  if ((s.zone k).st.on && !s.needed k) = true then s.ventZone k else s

/-- Need is re-evaluated (R86); if a zone went OFF, the orphan restart follows (R95). -/
def State.reevaluate (s : State) : State :=
  let t := (List.range Config.zoneCount).foldl State.ventIfUnneeded s
  if t.activeCount < s.activeCount then t.orphanRestart else t

/-! ### The budget and the budget mark -/

/-- The zones reserved for the mark's holder: the OFF zones of its pending request (R90). -/
def State.reservedZones (s : State) : List Nat :=
  match s.mark with
  | none => []
  | some m =>
    match (s.head m.holder).pendingReq with
    | none => []
    | some r => s.offIn r

/-- The reserved count of the mark (R90). -/
def State.reservedCount (s : State) : Nat := s.reservedZones.length

/-- The budget test of a zone request of head h over range r (R90): the other head's reserve counts, less the zones of
the request's own range. -/
def State.budgetTest (s : State) (h : HeadId) (r : ZoneRange) : Bool :=
  let reserve :=
    match s.mark with
    | none => 0
    | some m => if m.holder = h then 0 else (s.reservedZones.filter fun k => !r.has k).length
  decide (s.activeCount + (s.offIn r).length + reserve ≤ s.zoneSettings.budget)

/-- The mark held by head h is cleared for one of the reasons after which it passes to the other head if that head's
watch holds ZONE-BUDGET; the watch is then told (R91). -/
def State.dropMark (s : State) (h : HeadId) : State :=
  match s.mark with
  | none => s
  | some m =>
    if m.holder = h then
      if (s.head h.other).watch.reasons.zoneBudget then
        ({ s with mark := some ⟨h.other, Config.twoSeconds⟩ }).wake h.other
      else { s with mark := none }
    else s

/-! ### The zone request of a GRANT -/

/-- The outcome of a zone request (R87). -/
inductive ZoneOutcome where
  | satisfied
  | settling
  | budget
  | faulted
deriving DecidableEq, Repr

/-- The wait reason an outcome adds (R69). -/
def ZoneOutcome.reasons : ZoneOutcome → WaitSet
  | .satisfied => WaitSet.empty
  | .settling => { WaitSet.empty with zonesSettling := true }
  | .budget => { WaitSet.empty with zoneBudget := true }
  | .faulted => { WaitSet.empty with zoneFaulted := true }

/-- Head h asks for the zones of range r: the range becomes its pending request (R88), and the first case of R87 that
applies gives the outcome. A failed budget test gives the mark to a head that asks while neither holds it (R90). -/
def State.zoneRequest (s : State) (h : HeadId) (r : ZoneRange) : State × ZoneOutcome :=
  let s := s.modHead h fun hd => { hd with pendingReq := some r }
  if (r.list.any fun k => decide ((s.zone k).st = .fault)) = true then (s, .faulted)
  else if s.allHeld r = true then (s, .satisfied)
  else if (s.offIn r).isEmpty = true then (s, .settling)
  else if s.budgetTest h r = true then ((s.offIn r).foldl State.startZone s, .settling)
  else if s.mark.isNone = true then ({ s with mark := some ⟨h, Config.twoSeconds⟩ }, .budget)
  else (s, .budget)

end Sys2Proof.Machine
end

