-- ==== Sys2Proof/Machine/Events.lean ====
section
/-! DEFINITION. What every event ends with. A body changes what its rule names; `closeEvent` then brings the state that
the manual says "is re-worked at every event" up to date, once: the stop-delay timer and the demand (R103, R105), the
reason sets (R2, R96, R117, R133), the lapse timer (R88), HOLD-CHANGED and HEAD-HELD (R134, R75), the overdue timer's
pause (R136), and CLEARANCE (R60). -/

namespace Sys2Proof.Machine

/-- A zone under a cutting entry of the head's window is not HELD (R96). -/
def State.zoneHolds (s : State) (h : HeadId) : Bool :=
  (List.range Config.zoneCount).any fun k => (s.head h).cutsOver k && decide ((s.zone k).st ≠ .held)

/-- The blade holds the head (R117). -/
def Head.bladeHolds (hd : Head) : Bool := (hd.holdsCut && !hd.blade.runAtCut) || decide (0 < hd.blade.pause)

/-- The reason set as its owners' conditions give it (Table 8-1). CELL-HOLD and OVERDUE stand as they were set. -/
def State.holdNow (s : State) (h : HeadId) : HoldSet :=
  { noJob := !s.job.state.isOpen
    outOfService := !(s.head h).inService
    cellHold := (s.head h).hold.cellHold
    blade := (s.head h).bladeHolds
    zone := s.zoneHolds h
    overdue := (s.head h).hold.overdue }

/-- The lapse timer runs while a pending request is present and every zone of its range is HELD (R88). -/
def State.lapseNow (s : State) (h : HeadId) : Option Nat :=
  match (s.head h).pendingReq with
  | none => none
  | some r =>
    if s.allHeld r then
      match (s.head h).lapse with
      | some t => some t
      | none => some Config.twoSeconds
    else none

/-- An overdue timer follows the level of the line (R136). -/
def Overdue.follow (line : Bool) (o : Overdue) : Overdue :=
  match o.st with
  | .stopped => o
  | .counting => { o with st := if line then .paused else .counting }
  | .paused => { o with st := if line then .paused else .counting }

/-- The stop-delay timer, the demand and the channel after an event (R103, R105). -/
def State.closeBlade (before : State) (h : HeadId) (s : State) : State :=
  s.modHead h (Head.reworkBlade ((before.head h).standsBy before.job.state.isOpen) s.job.state.isOpen)

/-- The reason set after an event; a change raises HOLD-CHANGED once, and the overdue timer follows the line (R134,
R136). -/
def State.closeHold (before : State) (h : HeadId) (s : State) : State :=
  let now := s.holdNow h
  let t := s.modHead h fun hd => { hd with hold := now, overdue := hd.overdue.follow now.held }
  if now = (before.head h).hold then t else t.raise (.head h) AttSet.ofHoldChanged

/-- The lapse timer after an event (R88). -/
def State.closeLapse (h : HeadId) (s : State) : State := s.modHead h fun hd => { hd with lapse := s.lapseNow h }

/-- The watch after an event: HEAD-HELD ceases when no reason other than BLADE holds the head, and CLEARANCE when the
other head's claim has changed (R75, R134, R60). -/
def State.closeWatch (before : State) (h : HeadId) (s : State) : State :=
  s.tell h fun w => (w.reasons.headHeld && !(s.head h).hold.beyondBlade) ||
    (w.reasons.clearance && decide ((s.head h.other).claim ≠ (before.head h.other).claim))

/-- Everything an event ends with, for one head. -/
def State.closeHead (before : State) (h : HeadId) (s : State) : State :=
  State.closeWatch before h (State.closeLapse h (State.closeHold before h (State.closeBlade before h s)))

/-- Everything an event ends with. `before` is the state in which the event was taken. -/
def State.closeEvent (before s : State) : State := State.closeHead before .b (State.closeHead before .a s)

/-! ### Blade events -/

/-- A channel has taken a new state by an ended stroke or a detection: BLADE-FAULT goes to the head's link and the cell
link on an entry to RETRY-WAIT or FAULTED (R131), and a watched BLADE-NOT-READY ceases on an entry to RUN at CUT
(R112). -/
def State.bladeNews (h : HeadId) (ready bladeFault : Bool) (s : State) : State :=
  let s := if ready then s.tell h fun w => w.reasons.bladeNotReady else s
  if bladeFault then (s.raise (.head h) AttSet.ofBladeFault).raise .cell AttSet.ofBladeFault else s

/-- The state with a head's channel replaced. -/
def State.setBlade (s : State) (h : HeadId) (c : Channel) : State := s.modHead h fun hd => { hd with blade := c }

end Sys2Proof.Machine
end

