-- ==== Sys2Proof/Machine/Pieces.lean ====
section
/-! DEFINITION. The piece table (Chapter 9): declaring, crediting, taking, reading and scrapping pieces. -/

namespace Sys2Proof.Machine

/-- The record with an id (R145: no two records carry the same id). -/
def State.findPiece (s : State) (id : Nat) : Option Piece := s.pieces.find? fun p => decide (p.id = id)

/-- A piece still takes credits: it is DECLARED or PARTIAL (R147, R149). -/
def Piece.isOpen (p : Piece) : Bool := decide (p.st = .declared) || decide (p.st = .part)

/-- One credit to a piece; a piece that takes none is unchanged (R147, R149). -/
def Piece.credit (h : HeadId) (number : Nat) (p : Piece) : Piece :=
  if p.isOpen then
    { p with
      edges := p.edges + 1, contributors := p.contributors ++ [(h, number)]
      st := if p.edges + 1 = p.required then .severed else .part }
  else p

/-- A credit to this piece would sever it (R148). -/
def Piece.creditSevers (p : Piece) : Bool := p.isOpen && decide (p.edges + 1 = p.required)

/-- The piece named by a tag is credited; if that severs it, PIECE-SEVERED is raised on the cell link (R147, R148). -/
def State.creditTag (h : HeadId) (number : Nat) (s : State) (tag : Nat) : State :=
  let t := { s with pieces := s.pieces.map fun p => if p.id = tag then p.credit h number else p }
  if (s.pieces.any fun p => decide (p.id = tag) && p.creditSevers) = true then t.raise .cell AttSet.ofPieceSevered else t

/-- The tags of a completed segment are credited in their order (R147). -/
def State.credit (s : State) (h : HeadId) (number : Nat) (tags : List Nat) : State :=
  tags.foldl (State.creditTag h number) s

/-- A piece that can no longer be completed is scrapped (R152). -/
def Piece.scrap (p : Piece) : Piece := if p.isOpen then { p with st := .scrapped } else p

/-- Every DECLARED or PARTIAL piece becomes SCRAPPED (R152, R154). -/
def State.scrapPieces (s : State) : State := { s with pieces := s.pieces.map Piece.scrap }

/-- The number of records in a state. -/
def State.countPieces (s : State) (st : PieceState) : Nat := s.pieces.countP fun p => decide (p.st = st)

/-- The summary counts (R151). -/
def State.pieceCounts (s : State) : PieceCounts :=
  ⟨s.countPieces .declared, s.countPieces .part, s.countPieces .severed, s.countPieces .taken, s.countPieces .scrapped⟩

/-- An id outside 1 to 250 (R146, R150, R151). -/
def badPieceId (id : Nat) : Bool := decide (id = 0) || decide (250 < id)

/-- PIECE READ (R151): it changes nothing. -/
def State.pieceRead (s : State) (id : Option Byte) : Reply :=
  match id with
  | none => .accepted (.pieceSummary (s.pieces.map fun p => (p.id, p.st)))
  | some id =>
    if badPieceId id.toNat then .refused .badValue .none
    else
      match s.findPiece id.toNat with
      | none => .refused .unknownPiece .none
      | some p => .accepted (.piece p)

/-- The first failing test of PIECE DECLARE (R146). -/
def State.pieceDeclareRefusal (s : State) (p : PieceReq) : Option Reason :=
  if s.job.state = .idle then some .wrongJobState
  else if badPieceId p.id.toNat || decide (p.edges.toNat = 0) || decide (12 < p.edges.toNat) ||
      decide (Config.bedX < p.lo.toNat) || decide (Config.bedX < p.hi.toNat) || decide (p.hi.toNat < p.lo.toNat)
  then some .badValue
  else if (s.findPiece p.id.toNat).isSome then some .pieceExists
  else if 64 ≤ s.pieces.length then some .pieceTableFull
  else none

/-- The record PIECE DECLARE appends (R146). -/
def pieceRecord (p : PieceReq) : Piece :=
  { id := p.id.toNat, st := .declared, required := p.edges.toNat, edges := 0, lo := p.lo.toNat, hi := p.hi.toNat
    label := p.label, contributors := [] }

/-- The state after an accepted PIECE DECLARE (R146). -/
def State.pieceDeclared (s : State) (p : PieceReq) : State := { s with pieces := s.pieces ++ [pieceRecord p] }

/-- The first failing test of TAKE, with its detail (R150, Table 11-3). -/
def State.takeRefusal (s : State) (id : Nat) : Option (Reason × Detail) :=
  if badPieceId id then some (.badValue, .none)
  else
    match s.findPiece id with
    | none => some (.unknownPiece, .none)
    | some p => if p.st = .severed then none else some (.notSevered, .piece p.st)

/-- The body of an accepted TAKE: the piece is TAKEN and need is re-evaluated (R150). -/
def State.taken (s : State) (id : Nat) : State :=
  ({ s with pieces := s.pieces.map fun p : Piece => if p.id = id then { p with st := .taken } else p }).reevaluate

end Sys2Proof.Machine
end

