-- ==== Sys2Proof/Machine/Segments.lean ====
section
/-! DEFINITION. The segment queues (Chapter 2): the states of sequence numbers, the retired run list, the eleven checks of
SEGMENT, its acceptance, and FLUSH without what it hands to the job controller. -/

namespace Sys2Proof.Machine

/-! ### Sequence numbers and retired runs -/

/-- The sequence numbers of the head's window and then its queue (R37). -/
def Head.numbers (hd : Head) : List Nat :=
  (hd.window.map fun w => w.entry.seg.number) ++ (hd.queue.map fun e => e.seg.number)

/-- The fate of a run as a number's state (R22). -/
def Fate.state : Fate → NumState
  | .flushed => .flushed
  | .withdrawn => .withdrawn

/-- The state of a sequence number (R22). -/
def Head.numState (hd : Head) (n : Nat) : NumState :=
  if (hd.queue.any fun e => decide (e.seg.number = n)) = true then .queued
  else if (hd.window.any fun w => decide (w.entry.seg.number = n)) = true then .granted
  else if hd.nextSeq ≤ n then .notAccepted
  else if n < hd.floor then .done
  else
    match hd.runs.find? fun r => decide (r.first ≤ n) && decide (n ≤ r.last) with
    | some r => r.fate.state
    | none => .done

/-- The history floor after the given runs have been discarded (R23). -/
def floorAfter (floor : Nat) (discarded : List Run) : Nat :=
  match discarded.getLast? with
  | some r => r.last + 1
  | none => floor

/-- A run is added to the retired run list, in ascending order of first number; while the list holds 16 its lowest run
is discarded first (R23). -/
def Head.addRun (hd : Head) (r : Run) : Head :=
  let excess := hd.runs.length - 15
  let kept := hd.runs.drop excess
  { hd with
    runs := (kept.takeWhile fun q => decide (q.first < r.first)) ++
      r :: (kept.dropWhile fun q => decide (q.first < r.first))
    floor := floorAfter hd.floor (hd.runs.take excess) }

/-- The stretches of consecutive numbers of an ascending list (R23). -/
def stretches : List Nat → List (Nat × Nat)
  | [] => []
  | n :: rest =>
    match stretches rest with
    | [] => [(n, n)]
    | (a, b) :: more => if a = n + 1 then (n, b) :: more else (n, n) :: (a, b) :: more

/-- Every number of the queue and window is withdrawn: both are emptied and one WITHDRAWN run is added for each stretch
(R14, R23, R80). The stretches are added lowest first: DESIGN CHOICE (log 36), for R23 gives no order, and it decides
which runs a full list discards. -/
def Head.withdraw (hd : Head) : Head :=
  (stretches hd.numbers).foldl (fun hd r => hd.addRun ⟨r.1, r.2, .withdrawn⟩) { hd with queue := [], window := [] }

/-! ### The submitted record -/

/-- A segment kind from its code; codes above 3 name none (11.1). -/
def segKindOf (code : Byte) : Option SegKind :=
  if code = 0 then some .line
  else if code = 1 then some .arcCw
  else if code = 2 then some .arcCcw
  else if code = 3 then some .air
  else none

/-- The kind is one of the two arcs. -/
def SegKind.isArc : SegKind → Bool
  | .line => false
  | .arcCw => true
  | .arcCcw => true
  | .air => false

/-- A point of a request. -/
def pointOf (p : PointReq) : Point := ⟨p.x.toNat, p.y.toNat⟩

/-- A point lies within the bed (R9, R28, R79). -/
def inBed (p : Point) : Bool := decide (p.x ≤ Config.bedX) && decide (p.y ≤ Config.bedY)

/-- The segment record of a request of a given kind (R21). -/
def segmentOf (r : SegmentReq) (kind : SegKind) : Segment :=
  { number := r.number.toNat, kind := kind, first := pointOf r.first, last := pointOf r.last, xlo := r.xlo.toNat
    xhi := r.xhi.toNat, radius := r.radius.map BitVec.toNat, entry := r.entry.toNat, exit := r.exit.toNat
    length := r.length.toNat, tags := r.tags.map BitVec.toNat }

/-! ### The eleven checks of SEGMENT -/

/-- A REFUSED reply without detail. -/
def refuse (r : Reason) : Option Reply := some (.refused r .none)

/-- Check 1: the job is CUTTING and the head in service (R25). -/
def State.segCheck1 (s : State) (h : HeadId) : Option Reply :=
  if s.job.state ≠ .cutting then refuse .wrongJobState
  else if (s.head h).inService = false then refuse .headOutOfService
  else none

/-- Check 2: the number is the next expected (R26). -/
def Head.segCheck2 (hd : Head) (n : Nat) : Option Reply :=
  if n = 0 then refuse .badValue
  else if hd.nextSeq = 65536 then
    if n = 65535 ∨ hd.numbers.contains n = true then some (.already n (hd.numState n) hd.nextSeq)
    else refuse .sequenceExhausted
  else if n < hd.nextSeq then some (.already n (hd.numState n) hd.nextSeq)
  else if hd.nextSeq < n then some (.refused .sequenceGap (.next hd.nextSeq))
  else none

/-- Check 3: queue and window together hold fewer than 32 entries (R27). -/
def Head.segCheck3 (hd : Head) : Option Reply :=
  if 32 ≤ hd.queue.length + hd.window.length then refuse .queueFull else none

/-- Check 4, the field ranges (R28). -/
def segFieldsBad (r : SegmentReq) : Bool :=
  (match segKindOf r.kind with
    | none => true
    | some k => if k.isArc then decide (r.radius.getD 0 = 0) else r.radius.isSome) ||
  decide (3599 < r.entry.toNat) || decide (3599 < r.exit.toNat) || decide (r.length = 0) ||
  decide (r.xhi.toNat < r.xlo.toNat) || (r.tags.any fun t => badPieceId t.toNat)

/-- Check 4: field ranges first, then the bed (R28). -/
def segCheck4 (r : SegmentReq) : Option Reply :=
  if segFieldsBad r then refuse .badValue
  else if !inBed (pointOf r.first) || !inBed (pointOf r.last) || decide (Config.bedX < r.xlo.toNat) ||
      decide (Config.bedX < r.xhi.toNat)
  then refuse .outsideBed
  else none

/-- Check 5: the start point is the continuity reference point (R29). -/
def Head.segCheck5 (hd : Head) (g : Segment) : Option Reply :=
  if g.first = hd.ref.point then none else some (.refused .discontinuous (.reference hd.ref.point))

/-- Check 6: the X span agrees with the kind and the points (R30). -/
def segCheck6 (g : Segment) : Option Reply :=
  let good :=
    if g.kind.isArc then
      decide (g.xlo ≤ g.first.x) && decide (g.first.x ≤ g.xhi) && decide (g.xlo ≤ g.last.x) &&
        decide (g.last.x ≤ g.xhi) && decide (g.xhi - g.xlo ≤ 2 * g.radius.getD 0)
    else decide (g.xlo = min g.first.x g.last.x) && decide (g.xhi = max g.first.x g.last.x)
  if good then none else refuse .extentMismatch

/-- Check 7: LINE and AIR keep one heading (R31). -/
def segCheck7 (g : Segment) : Option Reply :=
  if g.kind.isArc = false ∧ g.entry ≠ g.exit then refuse .headingMismatch else none

/-- Check 8: the length is plausible (R32). -/
def segCheck8 (g : Segment) : Option Reply :=
  let dx := absDiff g.first.x g.last.x
  let dy := absDiff g.first.y g.last.y
  let top := if g.kind.isArc then ceilDiv (g.radius.getD 0 * 6284) 1000 else dx + dy
  if max dx dy ≤ g.length ∧ g.length ≤ top then none else refuse .lengthImplausible

/-- Check 9: an arc's radius is not less than the blade width (R33). -/
def Head.segCheck9 (hd : Head) (g : Segment) : Option Reply :=
  if g.kind.isArc = true ∧ g.radius.getD 0 < hd.cut.w then refuse .radiusTooSmall else none

/-- The magnitude of the joint turn from heading `exit` to heading `entry`, brought into −1800 to +1799 (R34). -/
def turnMagnitude (entry exit : Nat) : Nat :=
  let d := (entry + 3600 - exit) % 3600
  if d ≤ 1799 then d else 3600 - d

/-- The joint class and turn magnitude at the start of a segment (R34); the turn is 0 where there is no joint. -/
def Head.joint (hd : Head) (g : Segment) : JointClass × Nat :=
  if g.kind = .air ∨ hd.ref.kind ≠ .cutting then (.free, 0)
  else
    let t := turnMagnitude g.entry (hd.ref.heading.getD 0)
    (if t ≤ hd.cut.soft then .smooth else .pivot, t)

/-- Check 10: the joint turn is within the head's maximum (R34). -/
def Head.segCheck10 (hd : Head) (g : Segment) : Option Reply :=
  if hd.cut.maxTurn < (hd.joint g).2 then some (.refused .turnTooSharp (.turn (hd.joint g).2)) else none

/-- Check 11 on one tag (R35). -/
def State.tagRefusal (s : State) (tag : Nat) : Option Reply :=
  match s.findPiece tag with
  | none => some (.refused .unknownPiece (.tag tag))
  | some p => if p.isOpen then none else some (.refused .pieceClosed (.tag tag))

/-- Check 11: piece tags are allowed and open (R35). -/
def State.segCheck11 (s : State) (g : Segment) : Option Reply :=
  if g.kind = .air ∧ g.tags ≠ [] then refuse .airTagged
  else if ¬ g.tags.Nodup then refuse .pieceRepeated
  else g.tags.findSome? s.tagRefusal

/-- The first of several replies that is there. -/
def firstReply (rs : List (Option Reply)) : Option Reply := rs.findSome? fun r => r

/-- The reply of the first check of SEGMENT that fails (R24). -/
def State.segmentReply (s : State) (h : HeadId) (r : SegmentReq) : Option Reply :=
  let hd := s.head h
  let g := segmentOf r ((segKindOf r.kind).getD .line)
  firstReply [s.segCheck1 h, hd.segCheck2 r.number.toNat, hd.segCheck3, segCheck4 r, hd.segCheck5 g, segCheck6 g,
    segCheck7 g, segCheck8 g, hd.segCheck9 g, hd.segCheck10 g, s.segCheck11 g]

/-! ### Acceptance -/

/-- The queue entry of an accepted segment (R20, R36). -/
def Head.entryOf (hd : Head) (g : Segment) : Entry := ⟨g, (hd.joint g).1, (hd.joint g).2⟩

/-- The continuity reference an accepted segment leaves (R36, R39). -/
def Segment.reference (g : Segment) : Reference :=
  ⟨g.last, some g.exit, if g.kind = .air then .air else .cutting⟩

/-- The head's queue state after an accepted SEGMENT (R36). -/
def Head.enqueue (hd : Head) (g : Segment) : Head :=
  { hd with queue := hd.queue ++ [hd.entryOf g], nextSeq := g.number + 1, ref := g.reference }

/-- The state after an accepted SEGMENT (R36): a watched QUEUE-EMPTY ceases (R75). -/
def State.enqueue (s : State) (h : HeadId) (g : Segment) : State :=
  (s.modHead h fun hd => hd.enqueue g).tell h fun w => w.reasons.queueEmpty

/-- SEGMENT on a head link (R24, R36). -/
def State.segmentRequest (s : State) (h : HeadId) (r : SegmentReq) : State × Reply :=
  match s.segmentReply h r with
  | some reply => (s, reply)
  | none =>
    let g := segmentOf r ((segKindOf r.kind).getD .line)
    let e := (s.head h).entryOf g
    let t := State.closeEvent s (s.enqueue h g)
    (t, .accepted (.segment g.number e.joint e.turn ((t.head h).queue.length + (t.head h).window.length)))

/-! ### FLUSH -/

/-- The continuity reference after a FLUSH: the newest window entry, or the standing point (R39). -/
def Head.flushReference (hd : Head) : Reference :=
  match hd.window.getLast? with
  | some w => w.entry.seg.reference
  | none => ⟨hd.standing, none, .standing⟩

/-- The first and last numbers of a queue that is not empty. -/
def Head.queueEnds (hd : Head) : Option (Nat × Nat) :=
  match hd.queue.head?, hd.queue.getLast? with
  | some f, some l => some (f.seg.number, l.seg.number)
  | _, _ => none

/-- The head's queue state after a FLUSH of a non-empty queue (R39): one FLUSHED run, the reference moved back, the
watch emptied silently, the pending request absent (R88). -/
def Head.flush (hd : Head) : Head :=
  match hd.queueEnds with
  | some (f, l) =>
    { (hd.addRun ⟨f, l, .flushed⟩) with
      queue := [], ref := hd.flushReference, watch := Watch.empty, pendingReq := none }
  | none => hd

end Sys2Proof.Machine
end

