-- ==== Sys2Proof/Machine/Claims.lean ====
section
/-! DEFINITION. Standing points, claims and the separation between the gantries (04 sections 4.1 and 4.2). -/

namespace Sys2Proof.Machine

/-- The hull of a standing X and the spans of some segments (R60). -/
def hull (standing : Point) (segs : List Segment) : Claim :=
  segs.foldl (fun c g => ⟨min c.lo g.xlo, max c.hi g.xhi⟩) ⟨standing.x, standing.x⟩

/-- The segments of a grant window. -/
def Head.windowSegs (hd : Head) : List Segment := hd.window.map fun w => w.entry.seg

/-- The head with its claim recomputed from its standing point and window (R60). -/
def Head.reclaim (hd : Head) : Head := { hd with claim := hull hd.standing hd.windowSegs }

/-- Claim `a` ends at least the separation before claim `b` begins (R61). -/
def keepsApart (separation : Nat) (a b : Claim) : Bool := decide (a.hi + separation ≤ b.lo)

/-- Claim `c` of head h keeps the separation from the other head's claim as it stands (R67, R139). -/
def State.clearFor (s : State) (h : HeadId) (c : Claim) : Bool :=
  match h with
  | .a => keepsApart s.bed.separation c s.heads.b.claim
  | .b => keepsApart s.bed.separation s.heads.a.claim c

/-- The head placed at a point with the claim recomputed (R59, R60). -/
def Head.standAt (p : Point) (hd : Head) : Head := ({ hd with standing := p }).reclaim

/-- The continuity reference at a standing point: heading absent, kind STANDING (R38, R40). -/
def standingRef (p : Point) : Reference := ⟨p, none, .standing⟩

/-- The head's queue and window are both empty. -/
def Head.workless (hd : Head) : Bool := hd.queue.isEmpty && hd.window.isEmpty

/-- The first failing test of BED SET (R63). -/
def State.bedSetRefusal (s : State) (separation : Nat) (parkA parkB : Point) : Option Reason :=
  let effectiveA := if s.heads.a.inService then s.heads.a.standing.x else parkA.x
  let effectiveB := if s.heads.b.inService then s.heads.b.standing.x else parkB.x
  if s.job.state ≠ .idle then some .wrongJobState
  else if decide (separation < 2000) || decide (20000 < separation) || !inBed parkA || !inBed parkB
  then some .badValue
  else if ¬ parkA.x + separation ≤ parkB.x then some .parksTooClose
  else if ¬ effectiveA + separation ≤ effectiveB then some .clearance
  else none

/-- A head after an accepted BED SET: out of service, it moves to its new park point (R59, R63). -/
def Head.newPark (p : Point) (hd : Head) : Head := if hd.inService then hd else hd.standAt p

/-- The body of an accepted BED SET (R63). -/
def State.bedSet (s : State) (separation : Nat) (parkA parkB : Point) : State :=
  { s with
    bed := ⟨separation, parkA, parkB⟩
    heads := ⟨s.heads.a.newPark parkA, s.heads.b.newPark parkB⟩ }

/-- BED SET (R63). -/
def State.bedSetRequest (s : State) (separation : Half) (parkA parkB : PointReq) : State × Reply :=
  match s.bedSetRefusal separation.toNat (pointOf parkA) (pointOf parkB) with
  | some r => (s, .refused r .none)
  | none =>
    let t := State.closeEvent s (s.bedSet separation.toNat (pointOf parkA) (pointOf parkB))
    (t, .accepted (.bed t.bed))

end Sys2Proof.Machine
end

