-- ==== Sys2Proof/Machine/Job.lean ====
section
/-! DEFINITION. The job controller (Chapter 1): CLASS SET, BLOCK-LOAD, OPEN, CLOSE with the drain, and ABORT. NO-JOB, the
demand of both blades and the reasons of both heads follow the job state in `closeEvent`. -/

namespace Sys2Proof.Machine

/-- The state with another job state. -/
def State.setJobState (s : State) (j : JobState) : State := { s with job := { s.job with state := j } }

/-- A change of both heads. -/
def State.modBoth (s : State) (f : Head → Head) : State := { s with heads := ⟨f s.heads.a, f s.heads.b⟩ }

/-! ### CLASS SET and BLOCK-LOAD -/

/-- CLASS SET (R6). -/
def State.classSetRequest (s : State) (cls coef : Byte) : State × Reply :=
  if s.job.state ≠ .idle then (s, .refused .wrongJobState .none)
  else if 15 < cls.toNat ∨ coef.toNat = 0 then (s, .refused .badValue .none)
  else
    ({ s with job := { s.job with classes := s.job.classes.set cls.toNat (some coef.toNat) } }, .accepted .none)

/-- The layers of a BLOCK-LOAD, bottom first (R7). -/
def layersOf (layers : List LayerReq) : List Layer := layers.map fun l => ⟨l.thickness.toNat, l.cls.toNat⟩

/-- The thicknesses of a stack together (R4, R7). -/
def stackHeight (layers : List Layer) : Nat := (layers.map Layer.thickness).sum

/-- A layer's thickness and class number are in range (R7 test 2). -/
def Layer.inRange (l : Layer) : Bool := decide (1 ≤ l.thickness) && decide (l.thickness ≤ 400) && decide (l.cls ≤ 15)

/-- The first failing test of BLOCK-LOAD (R7). -/
def State.blockLoadRefusal (s : State) (layers : List Layer) : Option Reason :=
  if s.job.state ≠ .idle then some .wrongJobState
  else if decide (layers.length = 0) || decide (6 < layers.length) || !layers.all Layer.inRange then some .badValue
  else if 400 < stackHeight layers then some .stackTooTall
  else if (layers.all fun l => (s.job.classes.getD l.cls none).isSome) = false then some .classUndefined
  else none

/-- The body of an accepted BLOCK-LOAD (R8, R153, R154). -/
def State.blockLoad (s : State) (layers : List Layer) (label : Option Long) : State :=
  ({ s with
    job := { s.job with stack := layers, label := label, state := .staged }
    pieces := []
    retained := false }).reevaluate

/-- BLOCK-LOAD (R7, R8). -/
def State.blockLoadRequest (s : State) (layers : List LayerReq) (label : Option Long) : State × Reply :=
  match s.blockLoadRefusal (layersOf layers) with
  | some r => (s, .refused r .none)
  | none =>
    let t := State.closeEvent s (s.blockLoad (layersOf layers) label)
    (t, .accepted (.job t.job.state))

/-! ### OPEN -/

/-- The effective home point of a head (R9). -/
def State.home (s : State) (h : HeadId) (given : Point) : Point :=
  if (s.head h).inService then given else s.park h

/-- The first failing test of OPEN (R9). -/
def State.openRefusal (s : State) (homeA homeB : Point) : Option Reason :=
  if s.job.state ≠ .staged then some .wrongJobState
  else if (s.heads.a.inService && !inBed homeA) || (s.heads.b.inService && !inBed homeB) then some .badValue
  else if ¬ (s.home .a homeA).x + s.bed.separation ≤ (s.home .b homeB).x then some .homesTooClose
  else none

/-- A head at the opening of a job (R10, R22, R38). -/
def Head.openAt (p : Point) (hd : Head) : Head :=
  ({ hd with
    queue := [], window := [], nextSeq := 1, runs := [], floor := 1, ref := standingRef p
    blade := { hd.blade with trim := 16 } }).standAt p

/-- The body of an accepted OPEN (R10). -/
def State.openJob (s : State) (homeA homeB : Point) : State :=
  ({ s with
    heads := ⟨s.heads.a.openAt (s.home .a homeA), s.heads.b.openAt (s.home .b homeB)⟩ }).setJobState .cutting

/-- OPEN (R9, R10). -/
def State.openRequest (s : State) (homeA homeB : PointReq) : State × Reply :=
  match s.openRefusal (pointOf homeA) (pointOf homeB) with
  | some r => (s, .refused r .none)
  | none =>
    let t := State.closeEvent s (s.openJob (pointOf homeA) (pointOf homeB))
    (t, .accepted (.job t.job.state))

/-! ### Drain and CLOSE -/

/-- A head at drain completion: its watch is emptied silently, its idle-delay timer stopped, its pending request absent
(R12, R88, R103). -/
def Head.drained (hd : Head) : Head :=
  { hd with watch := Watch.empty, pendingReq := none, blade := { hd.blade with idleTimer := none } }

/-- Drain completion (R12): the job goes to IDLE, the mark is cleared and passes to neither head (R91), open pieces are
scrapped and need is re-evaluated (R152). -/
def State.drain (s : State) : State :=
  ({ ((s.modBoth Head.drained).setJobState .idle).scrapPieces with mark := none }).reevaluate

/-- All four queues and windows are empty. -/
def State.workless (s : State) : Bool := s.heads.a.workless && s.heads.b.workless

/-- The drain completes when a request leaves all four empty in CLOSING (R12). -/
def State.drainIfDone (s : State) : State :=
  if s.job.state = .closing ∧ s.workless = true then s.drain else s

/-- CLOSE (R11). -/
def State.closeRequest (s : State) : State × Reply :=
  if s.job.state ≠ .cutting then (s, .refused .wrongJobState .none)
  else
    let t := State.closeEvent s (if s.workless then s.drain else s.setJobState .closing)
    (t, .accepted (.job t.job.state))

/-! ### ABORT -/

/-- A channel at ABORT: from SPINUP, SETTLING or RUN it is stopped under the abort stop action; its demand is OFF and its
idle-delay timer stopped (R14, R15, R130). -/
def Channel.abortStop (action : StopAction) (c : Channel) : Channel :=
  { (if c.st.accepts then c.stop (decide (action = .brake)) else c) with demand := .off, idleTimer := none }

/-- A head at ABORT (R14, R15). -/
def Head.aborted (hd : Head) : Head :=
  let hd := hd.withdraw.reclaim
  { hd with
    overdue := ⟨.stopped, 0, 0⟩, hold := { hd.hold with overdue := false }, watch := Watch.empty, pendingReq := none
    blade := hd.blade.abortStop hd.guard.abortAction }

/-- The body of an accepted ABORT (R13 to R16). -/
def State.abort (s : State) : State :=
  ({ ((s.modBoth Head.aborted).setJobState .idle).scrapPieces with mark := none }).reevaluate

/-- ABORT (R13). -/
def State.abortRequest (s : State) : State × Reply :=
  if s.job.state = .idle then (s, .refused .wrongJobState .none)
  else
    let t := State.closeEvent s s.abort
    (t, .accepted (.job t.job.state))

/-! ### FLUSH -/

/-- The body of a FLUSH of a non-empty queue (R39): the mark is cleared if this head holds it, need is re-evaluated, and
the drain may complete. -/
def State.flush (s : State) (h : HeadId) : State :=
  (((s.modHead h Head.flush).dropMark h).reevaluate).drainIfDone

/-- FLUSH on a head link (R39). -/
def State.flushRequest (s : State) (h : HeadId) : State × Reply :=
  let hd := s.head h
  if hd.inService = false then (s, .refused .headOutOfService .none)
  else if hd.queue.isEmpty = true then (s, .accepted (.flush 0 none hd.ref))
  else
    let t := State.closeEvent s (s.flush h)
    (t, .accepted (.flush hd.queue.length hd.queueEnds (t.head h).ref))

end Sys2Proof.Machine
end

