-- ==== Sys2Proof/Machine/Grants.lean ====
section
/-! DEFINITION. The grant unit (Chapter 4): GRANT with its stop checks, clearance test and preparations, DONE and
RELEASE. -/

namespace Sys2Proof.Machine

/-! ### GRANT -/

/-- The zone range of a segment; an AIR segment has none (R64, R69). -/
def Entry.zones (e : Entry) : Option ZoneRange :=
  if e.seg.kind = .air then none else some (spanZones e.seg.xlo e.seg.xhi)

/-- What the stop checks of a GRANT come to (R66). -/
inductive GrantStop where
  | refused (r : Reason)
  | waits (reasons : WaitSet) (number : Nat) (range : Option ZoneRange)
  | passes (e : Entry)
deriving DecidableEq, Repr

/-- The stop checks, in their order (R66). -/
def State.grantStop (s : State) (h : HeadId) : GrantStop :=
  let hd := s.head h
  if s.job.state.isOpen = false then .refused .wrongJobState
  else if hd.inService = false then .refused .headOutOfService
  else
    match hd.queue with
    | [] => .waits { WaitSet.empty with queueEmpty := true } 0 none
    | e :: _ =>
      if 4 ≤ hd.window.length then .waits { WaitSet.empty with windowFull := true } e.seg.number e.zones
      else if hd.hold.beyondBlade then .waits { WaitSet.empty with headHeld := true } e.seg.number e.zones
      else .passes e

/-- What a GRANT taken on a head restarts: a running lapse timer (R88) and the expiry timer of a mark the head holds
(R91). -/
def State.grantTaken (s : State) (h : HeadId) : State :=
  let t := s.modHead h fun hd => { hd with lapse := hd.lapse.map fun _ => Config.twoSeconds }
  { t with mark := t.mark.map fun m : Mark => if m.holder = h then { m with left := Config.twoSeconds } else m }

/-- A WAIT reply sets the head's watch (R74). -/
def State.setWatch (s : State) (h : HeadId) (reasons : WaitSet) (range : Option ZoneRange) : State :=
  s.modHead h fun hd : Head => { hd with watch := ⟨reasons, range⟩ }

/-- The idle-delay timer starts afresh (R104). -/
def Head.startIdle (hd : Head) : Head :=
  { hd with blade := { hd.blade with idleTimer := some (hd.bladeParams.idleDelay * 1000) } }

/-- The claim the head would have with one more segment in its window (R67). -/
def Head.claimWith (hd : Head) (e : Entry) : Claim := hull hd.standing (hd.windowSegs ++ [e.seg])

/-- The overdue timer starts against an allowance in milliseconds (R136); its line level is settled by `closeEvent`. -/
def Overdue.start (allowance : Nat) : Overdue := ⟨.counting, allowance * 1000, 0⟩

/-- The governor's results for a segment of head h, from the inputs as they stand (R44). -/
def State.governed (s : State) (h : HeadId) (e : Entry) : GrantResult :=
  govern s.job (s.head h).cut (s.head h).bladeParams.fCut (s.head h).blade.trim e

/-- The head after a grant (R71): the segment passes from queue to window, its pending request ends (R88), its watch is
emptied, the idle-delay timer stops for a cutting segment, and the overdue timer starts if the window was empty. -/
def Head.granted (e : Entry) (r : GrantResult) (hd : Head) : Head :=
  ({ hd with
    queue := hd.queue.tail
    window := hd.window ++ [⟨e, r, e.zones⟩]
    pendingReq := none
    watch := Watch.empty
    blade := { hd.blade with idleTimer := if e.seg.kind = .air then hd.blade.idleTimer else none }
    overdue := if hd.window.isEmpty then Overdue.start r.allowance else hd.overdue } : Head).reclaim

/-- The body of a grant (R71): the mark held by this head is cleared (R91) and need is re-evaluated (R86). -/
def State.grant (s : State) (h : HeadId) (e : Entry) : State :=
  ((s.modHead h (Head.granted e (s.governed h e))).dropMark h).reevaluate

/-- The grant record (R56). -/
def grantRecord (e : Entry) (r : GrantResult) : GrantRecord :=
  ⟨e.seg.number, r.feed, r.heavy, r.ceiling, e.joint, e.turn, r.expected, r.allowance⟩

/-- The reasons that the preparations added together (R70). -/
def preparedReasons (ready : Bool) (z : ZoneOutcome) : WaitSet := { z.reasons with bladeNotReady := !ready }

/-- The preparations of a cutting segment: the idle-delay timer restarts, the blade is judged, and the zone request is
made whether or not the blade is ready (R68, R69). -/
def State.prepare (s : State) (h : HeadId) (r : ZoneRange) : State × WaitSet :=
  let ready := (s.head h).blade.runAtCut
  let z := (s.modHead h Head.startIdle).zoneRequest h r
  (z.1, preparedReasons ready z.2)

/-- A GRANT whose stop checks have passed for entry `e` (R67 to R71); a WAIT after the preparations re-evaluates need, as the
grant does (R86). `before` is the state in which it was taken and `s` that state with the timers of `grantTaken`
restarted. -/
def State.grantFor (before s : State) (h : HeadId) (e : Entry) : State × Reply :=
  if s.clearFor h ((s.head h).claimWith e) = false then
    (s.setWatch h { WaitSet.empty with clearance := true } e.zones,
      .wait { WaitSet.empty with clearance := true } e.seg.number)
  else
    let p := match e.zones with
      | none => (s, WaitSet.empty)
      | some r => s.prepare h r
    if p.2 = WaitSet.empty then
      (State.closeEvent before (p.1.grant h e), .accepted (.grant (grantRecord e (p.1.governed h e))))
    else (State.closeEvent before (p.1.reevaluate.setWatch h p.2 e.zones), .wait p.2 e.seg.number)

/-- GRANT on a head link (R66 to R71). -/
def State.grantRequest (s : State) (h : HeadId) : State × Reply :=
  match s.grantStop h with
  | .refused r => (s, .refused r .none)
  | .waits reasons n range => ((s.grantTaken h).setWatch h reasons range, .wait reasons n)
  | .passes e => State.grantFor s (s.grantTaken h) h e

/-! ### DONE -/

/-- The reply of a DONE that completes nothing (R76), or none where n is the oldest window entry. -/
def Head.doneReply (hd : Head) (n : Nat) : Option Reply :=
  if n = 0 then refuse .badValue
  else if (hd.window.head?.map fun w => w.entry.seg.number) = some n then none
  else
    match hd.numState n with
    | .granted => refuse .outOfOrder
    | .done => some (.already n .done hd.nextSeq)
    | .notAccepted => some (.refused .notGranted (.number .notAccepted))
    | .queued => some (.refused .notGranted (.number .queued))
    | .flushed => some (.refused .notGranted (.number .flushed))
    | .withdrawn => some (.refused .notGranted (.number .withdrawn))

/-- The head after its oldest window entry `w` is done (R77): the standing point and claim move, OVERDUE leaves, the
overdue timer starts for the new oldest entry, and the idle-delay timer starts if no cutting segment is left. -/
def Head.completed (w : WinEntry) (hd : Head) : Head :=
  let hd' := ({ hd with
    window := hd.window.tail
    overdue := match hd.window.tail with
      | [] => ⟨.stopped, 0, 0⟩
      | v :: _ => Overdue.start v.result.allowance
    hold := { hd.hold with overdue := false } } : Head).standAt w.entry.seg.last
  if hd.holdsCut && !hd'.holdsCut then hd'.startIdle else hd'

/-- The body of an accepted DONE (R77): a watched WINDOW-FULL ceases, the pieces are credited in tag order, then need is
re-evaluated, and the drain may complete. -/
def State.complete (s : State) (h : HeadId) (w : WinEntry) : State :=
  let t := (s.modHead h (Head.completed w)).tell h fun v => v.reasons.windowFull
  ((t.credit h w.entry.seg.number w.entry.seg.tags).reevaluate).drainIfDone

/-- DONE on a head link (R76, R77). -/
def State.doneRequest (s : State) (h : HeadId) (n : Half) : State × Reply :=
  match (s.head h).doneReply n.toNat with
  | some reply => (s, reply)
  | none =>
    match (s.head h).window with
    | [] => (s, .refused .notGranted (.number .notAccepted))
    | w :: _ =>
      let t := State.closeEvent s (s.complete h w)
      (t, .accepted (.done n.toNat (t.head h).standing (t.head h).claim))

/-! ### RELEASE -/

/-- A head from its code (11.1). -/
def headOf (code : Byte) : Option HeadId :=
  if code = 0 then some .a else if code = 1 then some .b else none

/-- The heads a selector names: A, B or BOTH (11.1). -/
def selectorOf (code : Byte) : Option (List HeadId) :=
  if code = 0 then some [.a] else if code = 1 then some [.b] else if code = 2 then some [.a, .b] else none

/-- The first failing test of RELEASE (R79). -/
def Head.releaseRefusal (hd : Head) (p : Point) : Option Reason :=
  if hd.inService = false then some .headOutOfService
  else if hd.hold.held = false then some .notHeld
  else if inBed p = false then some .badValue
  else if ¬ (hd.claim.lo ≤ p.x ∧ p.x ≤ hd.claim.hi) then some .positionOutsideClaim
  else none

/-- The head after an accepted RELEASE (R80). -/
def Head.released (p : Point) (hd : Head) : Head :=
  let hd' := hd.withdraw.standAt p
  let hd' := { hd' with
    ref := standingRef p, overdue := ⟨.stopped, 0, 0⟩, hold := { hd'.hold with overdue := false }
    watch := Watch.empty, pendingReq := none }
  if hd.holdsCut then hd'.startIdle else hd'

/-- The body of an accepted RELEASE (R80). -/
def State.release (s : State) (h : HeadId) (p : Point) : State :=
  (((s.modHead h (Head.released p)).dropMark h).reevaluate).drainIfDone

/-- RELEASE (R79, R80). -/
def State.releaseRequest (s : State) (head : Byte) (point : PointReq) : State × Reply :=
  match headOf head with
  | none => (s, .refused .badValue .none)
  | some h =>
    match (s.head h).releaseRefusal (pointOf point) with
    | some r => (s, .refused r .none)
    | none =>
      let t := State.closeEvent s (s.release h (pointOf point))
      (t, .accepted (.release (s.head h).numbers.length (t.head h).standing))

end Sys2Proof.Machine
end

