-- ==== Sys2Proof/Machine/Settings.lean ====
section
/-! DEFINITION. The settings requests: CUT SET (R43), ZONE SET (R84), BLADE SET (R102) and GUARD SET (R126). Each is taken
whole in IDLE or refused whole. -/

namespace Sys2Proof.Machine

/-- A value lies in a range. -/
def within (lo hi n : Nat) : Bool := decide (lo ≤ n) && decide (n ≤ hi)

/-- The selected heads are changed. -/
def State.modSelected (s : State) (hs : List HeadId) (f : Head → Head) : State := hs.foldl (fun s h => s.modHead h f) s

/-! ### CUT SET -/

/-- The cut parameters a CUT SET carries. -/
def cutParamsOf (p : CutReq) : CutParams :=
  ⟨p.pMax.toNat, p.pMin.toNat, p.w.toNat, p.fMax.toNat, p.fAir.toNat, p.soft.toNat, p.maxTurn.toNat, p.pivot.toNat,
    p.grace.toNat⟩

/-- Every value lies in its range of Table 3-1 and P_min does not exceed P_max (R43). -/
def CutParams.inRange (p : CutParams) : Bool :=
  within 100 4000 p.pMax && within 20 500 p.pMin && decide (p.pMin ≤ p.pMax) && within 20 300 p.w &&
    within 100 12000 p.fMax && within 100 30000 p.fAir && within 0 300 p.soft && within 300 1700 p.maxTurn &&
    within 2 100 p.pivot && within 200 10000 p.grace

/-- CUT SET (R43). -/
def State.cutSetRequest (s : State) (sel : Byte) (p : CutReq) : State × Reply :=
  if s.job.state ≠ .idle then (s, .refused .wrongJobState .none)
  else
    match selectorOf sel with
    | none => (s, .refused .badValue .none)
    | some hs =>
      if (cutParamsOf p).inRange = false then (s, .refused .badValue .none)
      else
        let t := s.modSelected hs fun hd => { hd with cut := cutParamsOf p }
        (t, .accepted (.cutSets t.heads.a.cut t.heads.b.cut))

/-! ### ZONE SET -/

/-- The settings a ZONE SET carries; what its polarity field says of each input is a free value (log 12). -/
def zoneSettingsOf (p : ZoneSetReq) : ZoneSettings :=
  ⟨p.budget.toNat, p.pullTimeout.toNat, p.deglitch.toNat, p.activeHigh⟩

/-- The ranges of R84 test 2. -/
def ZoneSettings.inRange (z : ZoneSettings) : Bool :=
  within 1 16 z.budget && within 100 5000 z.pullTimeout && within 5 200 z.deglitch

/-- The first failing test of ZONE SET (R84). -/
def State.zoneSetRefusal (s : State) (z : ZoneSettings) : Option Reason :=
  if s.job.state ≠ .idle then some .wrongJobState
  else if z.inRange = false then some .badValue
  else if s.activeCount ≠ 0 then some .budgetInUse
  else none

/-- A zone record whose input's polarity changed is judged again under the new polarity: its level becomes not good and
its deglitch timing begins afresh (R84). -/
def Zone.rejudge (z : Zone) : Zone := { z with good := false, steady := 0 }

/-- The state after an accepted ZONE SET (R84). The new deglitch time holds for the next change of every level, since
the timing of a zone is compared with the setting as it stands (`State.changeIn`). -/
def State.zoneSet (s : State) (cfg : ZoneSettings) : State :=
  let changed := s.zoneSettings.activeHigh ^^^ cfg.activeHigh
  { s with
    zoneSettings := cfg
    zones := s.zones.mapIdx fun k z => if changed.getLsbD k then z.rejudge else z }

/-- ZONE SET (R84). -/
def State.zoneSetRequest (s : State) (p : ZoneSetReq) : State × Reply :=
  match s.zoneSetRefusal (zoneSettingsOf p) with
  | some r => (s, .refused r .none)
  | none => (s.zoneSet (zoneSettingsOf p), .accepted (.zoneSettings (zoneSettingsOf p)))

/-! ### BLADE SET -/

/-- The blade parameters a BLADE SET carries. -/
def bladeParamsOf (p : BladeReq) : BladeParams :=
  ⟨p.fCut.toNat, p.fIdle.toNat, p.ramp.map BitVec.toNat, p.stepStrokes.toNat, p.settle.toNat, p.idleDelay.toNat,
    p.stopDelay.toNat, p.trimLow.toNat, p.trimHigh.toNat⟩

/-- Every value lies in its range of Table 6-1 (R102). -/
def BladeParams.inRange (p : BladeParams) : Bool :=
  within 600 3000 p.fCut && within 300 p.fCut p.fIdle && decide (p.ramp.length = 8) &&
    (p.ramp.all fun c => decide (c ≤ 7)) && within 1 64 p.stepStrokes && [4, 8, 16, 32].contains p.settle &&
    within 500 30000 p.idleDelay && within 5 600 p.stopDelay && within 0 4095 p.trimLow && within 0 4095 p.trimHigh &&
    decide (p.trimLow < p.trimHigh)

/-- BLADE SET (R102). -/
def State.bladeSetRequest (s : State) (sel : Byte) (p : BladeReq) : State × Reply :=
  if s.job.state ≠ .idle then (s, .refused .wrongJobState .none)
  else
    match selectorOf sel with
    | none => (s, .refused .badValue .none)
    | some hs =>
      if (bladeParamsOf p).inRange = false then (s, .refused .badValue .none)
      else
        let t := s.modSelected hs fun hd => { hd with bladeParams := bladeParamsOf p }
        (t, .accepted (.bladeSets t.heads.a.bladeParams t.heads.b.bladeParams))

/-! ### GUARD SET -/

/-- A retry limit of Table 7-2. -/
def retryListed : RetryLimit → Bool
  | .upTo n => [1, 2, 3, 5, 7, 10].contains n
  | .unlimited => true

/-- The guard settings a GUARD SET carries; none where a code names no listed value (R126). -/
def guardSettingsOf (p : GuardReq) : Option GuardSettings :=
  match p.strokeLost, p.roughRate, p.noSettle, p.overload, p.bladeMissing, p.retryLimit, p.abortAction, p.reliefMode with
  | some a, some b, some c, some d, some e, some limit, some action, some mode =>
    some { modes := ⟨a, b, c, d, e⟩, rough := p.rough.toNat, lockLimit := p.lockLimit.toNat
           lockStrokes := p.lockStrokes.toNat, noBlade := p.noBlade.toNat, retryTime := p.retryTime.toNat
           retryLimit := limit, abortAction := action, reliefMode := mode, peakLimit := p.peakLimit.toNat
           reliefN := p.reliefN.toNat, escalation := p.escalation.toNat }
  | _, _, _, _, _, _, _, _ => none

/-- Every value lies in its range or list of Table 7-2, and the no-blade threshold is below the lock limit (R126). -/
def GuardSettings.inRange (g : GuardSettings) : Bool :=
  [2, 3, 4, 6].contains g.rough && within 1 4095 g.lockLimit && within 1 64 g.lockStrokes && within 0 4094 g.noBlade &&
    decide (g.noBlade < g.lockLimit) && within 100 10000 g.retryTime && retryListed g.retryLimit &&
    within 1 4095 g.peakLimit && within 1 7 g.reliefN && within 1 32 g.escalation

/-- The settings of an acceptable GUARD SET, or none (R126). -/
def guardSetValues (p : GuardReq) : Option GuardSettings := (guardSettingsOf p).filter GuardSettings.inRange

/-- A named channel takes new guard settings and its retry count returns to 0 (R126, R127). -/
def Head.guardSet (g : GuardSettings) (hd : Head) : Head :=
  { hd with guard := g, blade := { hd.blade with retries := 0 } }

/-- GUARD SET (R126). -/
def State.guardSetRequest (s : State) (sel : Byte) (p : GuardReq) : State × Reply :=
  if s.job.state ≠ .idle then (s, .refused .wrongJobState .none)
  else
    match selectorOf sel, guardSetValues p with
    | some hs, some g =>
      let t := s.modSelected hs (Head.guardSet g)
      (t, .accepted (.guardSets t.heads.a.guard t.heads.b.guard))
    | some _, none => (s, .refused .badValue .none)
    | none, _ => (s, .refused .badValue .none)

end Sys2Proof.Machine
end

