-- ==== Sys2Proof/Machine/Supervision.lean ====
section
/-! DEFINITION. The cell master's hand on the heads (Chapter 8: HOLD, RESUME, SERVICE), its repairs (FAULT CLEAR, ZONE
CLEAR), the piece requests PIECE DECLARE and TAKE, and the reading requests: STATUS, IDENT, HEAD READ, ZONE READ. -/

namespace Sys2Proof.Machine

/-! ### HOLD and RESUME -/

/-- CELL-HOLD enters or leaves the set of a head (R135). -/
def Head.withCellHold (on : Bool) (hd : Head) : Head := { hd with hold := { hd.hold with cellHold := on } }

/-- HOLD (`on`) and RESUME (R135). The reply carries the set of each named head as the request left it. -/
def State.cellHoldRequest (on : Bool) (s : State) (sel : Byte) : State × Reply :=
  match selectorOf sel with
  | none => (s, .refused .badValue .none)
  | some hs =>
    let t := State.closeEvent s (s.modSelected hs (Head.withCellHold on))
    (t, .accepted (.holds (hs.map fun h => (h, (t.head h).hold))))

/-! ### SERVICE -/

/-- A direction of SERVICE from its code: the codes of the service state (11.1, log 14). -/
def directionOf (code : Byte) : Option Service :=
  if code = 0 then some .inService else if code = 1 then some .outOfService else none

/-- The claim a head has when it stands at its park point with an empty window (R139). -/
def State.parkClaim (s : State) (h : HeadId) : Claim := ⟨(s.park h).x, (s.park h).x⟩

/-- The first failing test of a SERVICE-out of a head in service (R139). -/
def State.serviceOutRefusal (s : State) (h : HeadId) : Option Reason :=
  if (s.head h).workless = false then some .headBusy
  else if s.clearFor h (s.parkClaim h) = false then some .clearance
  else none

/-- The failing test of a SERVICE-in of a head out of service (R139). -/
def State.serviceInRefusal (s : State) (h : HeadId) : Option Reason :=
  if s.clearFor h (s.parkClaim h) = false then some .clearance else none

/-- The head after an accepted SERVICE-out (R140). -/
def Head.takenOut (park : Point) (hd : Head) : Head :=
  ({ hd with
    service := .outOfService, ref := standingRef park, watch := Watch.empty, pendingReq := none
    blade := { hd.blade with idleTimer := none } } : Head).standAt park

/-- The body of an accepted SERVICE-out (R140). -/
def State.serviceOut (s : State) (h : HeadId) : State :=
  ((s.modHead h (Head.takenOut (s.park h))).dropMark h).reevaluate

/-- The head after an accepted SERVICE-in (R141). -/
def Head.takenIn (park : Point) (hd : Head) : Head :=
  ({ hd with service := .inService, ref := standingRef park } : Head).standAt park

/-- The body of an accepted SERVICE-in (R141); need is re-evaluated (R86). -/
def State.serviceIn (s : State) (h : HeadId) : State := (s.modHead h (Head.takenIn (s.park h))).reevaluate

/-- The reply of an accepted SERVICE (R140, R141). -/
def serviceReply (h : HeadId) (t : State) : State × Reply :=
  (t, .accepted (.service (t.head h).service (t.head h).standing))

/-- SERVICE with a head and a direction that exist (R139): where the direction is the state the head has already, it is
accepted and changes nothing. -/
def State.serviceHead (s : State) (h : HeadId) (d : Service) : State × Reply :=
  if (s.head h).service = d then serviceReply h s
  else
    match d with
    | .outOfService =>
      match s.serviceOutRefusal h with
      | some r => (s, .refused r .none)
      | none => serviceReply h (State.closeEvent s (s.serviceOut h))
    | .inService =>
      match s.serviceInRefusal h with
      | some r => (s, .refused r .none)
      | none => serviceReply h (State.closeEvent s (s.serviceIn h))

/-- SERVICE (R139). -/
def State.serviceRequest (s : State) (head direction : Byte) : State × Reply :=
  match headOf head, directionOf direction with
  | some h, some d => s.serviceHead h d
  | some _, none => (s, .refused .badValue .none)
  | none, _ => (s, .refused .badValue .none)

/-! ### FAULT CLEAR -/

/-- The channel a FAULT CLEAR leaves: STOPPED with its brake off and its retry count 0, and in SPINUP at once where the
demand asks for a level (R129). -/
def Channel.clearFault (p : BladeParams) (c : Channel) : Channel :=
  ({ c.stop false with retries := 0 } : Channel).climb p

/-- FAULT CLEAR (R129). -/
def State.faultClearRequest (s : State) (head : Byte) : State × Reply :=
  match headOf head with
  | none => (s, .refused .badValue .none)
  | some h =>
    if (s.head h).blade.st ≠ .faulted then (s, .refused .bladeNotLatched .none)
    else
      let t := State.closeEvent s
        (s.modHead h fun hd => { hd with blade := hd.blade.clearFault hd.bladeParams })
      (t, .accepted (.blade (t.head h).blade.st (t.head h).blade.demand))

/-! ### ZONE CLEAR -/

/-- The body of an accepted ZONE CLEAR (R94): the zone goes OFF and keeps its fault count, the watches are told (R97), and
the orphan restart follows (R95). -/
def State.zoneClear (s : State) (k : Nat) : State :=
  (((s.setZone k (s.zone k).vent).tellBoth fun w =>
    w.reasons.zoneBudget || (w.reasons.zoneFaulted && rangeHas w.range k))).orphanRestart

/-- ZONE CLEAR (R94): the reply carries the state and count as the restart left them. -/
def State.zoneClearRequest (s : State) (zone : Byte) : State × Reply :=
  if 15 < zone.toNat then (s, .refused .badValue .none)
  else if (s.zone zone.toNat).st ≠ .fault then (s, .refused .zoneNotFaulted .none)
  else
    let t := State.closeEvent s (s.zoneClear zone.toNat)
    (t, .accepted (.zone (t.zone zone.toNat).st (t.zone zone.toNat).faults))

/-! ### PIECE DECLARE and TAKE -/

/-- PIECE DECLARE (R146). -/
def State.pieceDeclareRequest (s : State) (p : PieceReq) : State × Reply :=
  match s.pieceDeclareRefusal p with
  | some r => (s, .refused r .none)
  | none => (s.pieceDeclared p, .accepted (.declared p.id.toNat (s.pieceDeclared p).pieces.length))

/-- TAKE (R150). -/
def State.takeRequest (s : State) (id : Byte) : State × Reply :=
  match s.takeRefusal id.toNat with
  | some r => (s, .refused r.1 r.2)
  | none => (State.closeEvent s (s.taken id.toNat), .accepted (.taken id.toNat))

/-! ### STATUS -/

/-- What the head link STATUS of head h reports (R143). -/
def State.headStatus (s : State) (h : HeadId) : HeadStatus :=
  let hd := s.head h
  { job := s.job.state, service := hd.service, hold := hd.hold, window := hd.window, queue := hd.queue.length
    nextSeq := hd.nextSeq, standing := hd.standing, claim := hd.claim, watch := hd.watch.reasons
    channel := hd.blade.st, level := hd.blade.level, demand := hd.blade.demand, timer := hd.overdue.st
    remaining := hd.overdue.remaining, attention := (s.link (.head h)).attention }

/-- The summary of a head in the cell link STATUS (R163). -/
def Head.summary (hd : Head) : HeadSummary :=
  { service := hd.service, hold := hd.hold, queue := hd.queue.length, window := hd.window.length
    channel := hd.blade.st, level := hd.blade.level, demand := hd.blade.demand, timer := hd.overdue.st }

/-- What the cell link STATUS reports (R163). -/
def State.cellStatus (s : State) : CellStatus :=
  { job := s.job.state, layers := s.job.stack.length, thickness := stackHeight s.job.stack, label := s.job.label
    heads := ⟨s.heads.a.summary, s.heads.b.summary⟩, active := s.activeCount, budget := s.zoneSettings.budget
    pieces := s.pieceCounts, cause := s.lastCause, attention := (s.link .cell).attention }

/-- A link's attention set is emptied (R162). -/
def State.emptyAttention (s : State) (l : LinkId) : State := s.setLink l { s.link l with attention := AttSet.empty }

/-- STATUS on a link (R143, R163): it reports and empties the link's attention set. -/
def State.statusRequest (s : State) (l : LinkId) : State × Reply :=
  (s.emptyAttention l,
    .accepted (match l with
      | .head h => .headStatus (s.headStatus h)
      | .cell => .cellStatus s.cellStatus))

/-! ### IDENT, HEAD READ, ZONE READ -/

/-- IDENT (R164). -/
def State.identReply (s : State) : Reply := .accepted (.ident s.lastCause s.retained)

/-- What HEAD READ reports of a head (R118). -/
def Head.detail (hd : Head) : HeadDetail :=
  let c := hd.blade
  { channel := c.st, level := c.level, demand := c.demand
    step := if c.st = .spinup then some (c.step, c.stepCount) else none
    commanded := c.commanded, measured := c.measured, strokes := c.strokes, lastAvg := c.lastAvg, lastPeak := c.lastPeak
    trim := c.trim, heavy := c.heavy, light := c.light, pausing := decide (0 < c.pause), pause := c.pause
    escalation := c.escalation, idleLeft := timerMs c.idleTimer, stopLeft := timerMs c.stopTimer, retries := c.retries
    record := c.record }

/-- HEAD READ on a link (R118): it changes nothing. -/
def State.headReadReply (s : State) (l : LinkId) (head : Byte) : Reply :=
  match headOf head with
  | none => .refused .badValue .none
  | some h =>
    if l = .cell ∨ l = .head h then .accepted (.headRead (s.head h).detail)
    else .refused .notOnThisLink .none

/-- What ZONE READ reports of zone k (R97). A severed piece needs a zone only while the zone is on (R86). -/
def State.zoneDetail (s : State) (k : Nat) : ZoneDetail :=
  let z := s.zone k
  { st := z.st, valve := z.st.on, good := z.good, pullLeft := timerMs z.pull, faults := z.faults
    windowA := s.heads.a.cutsOver k, windowB := s.heads.b.cutsOver k, pendingA := rangeHas s.heads.a.pendingReq k
    pendingB := rangeHas s.heads.b.pendingReq k, severed := s.severedOver k && z.st.on }

/-- ZONE READ (R97): it changes nothing. -/
def State.zoneReadReply (s : State) : Reply :=
  .accepted (.zones ((List.range Config.zoneCount).map s.zoneDetail) s.zoneSettings.budget s.activeCount
    (s.mark.map Mark.holder) s.reservedCount)

end Sys2Proof.Machine
end

