-- ==== Sys2Proof/Machine/Timers.lean ====
section
/-! DEFINITION. What happens at the expiry of each timer and at a change of pressure. An expiry brings the clock to the
timer's deadline and acts; where the timer does not run there is no expiry and nothing changes (log 2, log 28). -/

namespace Sys2Proof.Machine

/-- The event of a timer with `left` microseconds to run: the time passes, the body acts, and the event closes. -/
def State.expire (s : State) (left : Nat) (body : State → State) : State :=
  State.closeEvent (s.elapse left) (body (s.elapse left))

/-- The event of a timer that may be stopped. -/
def State.expireIf (s : State) (timer : Option Nat) (body : State → State) : State :=
  match timer with
  | none => s
  | some left => s.expire left body

/-! ### The head supervisor -/

/-- The body of an overdue expiry (R137): the timer is STOPPED, OVERDUE enters the set, HEAD-SUSPENDED goes to the head's
link and the cell link. -/
def State.suspend (h : HeadId) (s : State) : State :=
  ((s.modHead h fun hd => { hd with hold := { hd.hold with overdue := true }, overdue := ⟨.stopped, 0, 0⟩ }).raise
    (.head h) AttSet.ofHeadSuspended).raise .cell AttSet.ofHeadSuspended

/-- The time left on an overdue timer that can expire: only a COUNTING one does (R137). -/
def Overdue.left (o : Overdue) : Option Nat :=
  match o.st with
  | .counting => some (o.allowance - o.elapsed)
  | .stopped => none
  | .paused => none

/-- OVERDUE_EXPIRY (R137). -/
def State.overdueExpiry (s : State) (h : HeadId) : State := s.expireIf (s.head h).overdue.left (State.suspend h)

/-! ### The blade channels -/

/-- The body of an idle-delay expiry (R104): a watched BLADE-NOT-READY ceases. -/
def State.endIdleDelay (h : HeadId) (s : State) : State :=
  (s.modHead h fun hd => { hd with blade := { hd.blade with idleTimer := none } }).tell h fun w => w.reasons.bladeNotReady

/-- IDLE_DELAY_EXPIRY (R104). -/
def State.idleDelayExpiry (s : State) (h : HeadId) : State :=
  s.expireIf (s.head h).blade.idleTimer (State.endIdleDelay h)

/-- The body of a stop-delay expiry (R105). -/
def State.endStopDelay (h : HeadId) (s : State) : State :=
  s.modHead h fun hd => { hd with blade := { hd.blade with stopTimer := none } }

/-- STOP_DELAY_EXPIRY (R105). -/
def State.stopDelayExpiry (s : State) (h : HeadId) : State :=
  s.expireIf (s.head h).blade.stopTimer (State.endStopDelay h)

/-- A channel whose retry time has run out (R128): STOPPED with the brake as it stood, or a climb. -/
def Channel.endRetry (p : BladeParams) (c : Channel) : Channel :=
  match c.demand with
  | .off => c.stop c.brake
  | .idle => c.spinUp p .idle
  | .cut => c.spinUp p .cut

/-- The body of a retry expiry (R128). -/
def State.endRetry (h : HeadId) (s : State) : State :=
  s.modHead h fun hd => { hd with blade := hd.blade.endRetry hd.bladeParams }

/-- RETRY_TIME_EXPIRY (R128). -/
def State.retryExpiry (s : State) (h : HeadId) : State := s.expireIf (s.head h).blade.retryTimer (State.endRetry h)

/-- The body of a stroke watch that ran out (R111, R120). -/
def State.loseStroke (h : HeadId) (s : State) : State :=
  let c := (s.head h).blade.strokeLost (s.head h).guard
  State.bladeNews h false (!c.st.accepts) (s.setBlade h c)

/-- STROKE_WATCH_EXPIRY (R111, R120). -/
def State.strokeWatchExpiry (s : State) (h : HeadId) : State :=
  s.expireIf (s.head h).blade.watchLeft (State.loseStroke h)

/-! ### The zone controller -/

/-- The body of a lapse of a head's pending request (R88). -/
def State.lapseRequest (h : HeadId) (s : State) : State :=
  (s.modHead h fun hd => { hd with pendingReq := none }).reevaluate

/-- PENDING_REQUEST_LAPSE (R88). -/
def State.lapseExpiry (s : State) (h : HeadId) : State := s.expireIf (s.head h).lapse (State.lapseRequest h)

/-- The body of the mark's expiry (R91). -/
def State.endMark (h : HeadId) (s : State) : State := s.dropMark h

/-- BUDGET_MARK_EXPIRY (R91). -/
def State.markExpiry (s : State) : State :=
  match s.mark with
  | none => s
  | some m => s.expire m.left (State.endMark m.holder)

/-- The body of a pull timeout of zone k (R94): FAULT, ZONE-FAULT on the cell link, the watches told, and the orphan
restart. -/
def State.failZone (k : Nat) (s : State) : State :=
  (((s.setZone k (s.zone k).fail).raise .cell AttSet.ofZoneFault).zoneGone k (s.zone k).st).orphanRestart

/-- The time left on the pull timer of a zone that pulls (R92, R93). -/
def Zone.pullLeft (z : Zone) : Option Nat :=
  match z.st with
  | .pulling => z.pull
  | .lost => z.pull
  | .off => none
  | .held => none
  | .fault => none

/-- PULL_TIMEOUT of zone k (R94). -/
def State.pullTimeout (s : State) (k : Nat) : State := s.expireIf (s.zone k).pullLeft (State.failZone k)

/-- The record of a zone whose debounced level becomes good: PULLING and LOST go to HELD (R85, R92, R93). -/
def Zone.becomeGood (z : Zone) : Zone :=
  { z with
    good := true, steady := 0
    st := match z.st with
      | .off => .off
      | .pulling => .held
      | .held => .held
      | .lost => .held
      | .fault => .fault
    pull := match z.st with
      | .off => z.pull
      | .pulling => none
      | .held => z.pull
      | .lost => none
      | .fault => z.pull }

/-- The record of a zone whose debounced level becomes not good: HELD goes to LOST (R85, R93). -/
def Zone.becomeBad (cfg : ZoneSettings) (z : Zone) : Zone :=
  { z with
    good := false, steady := 0
    st := match z.st with
      | .off => .off
      | .pulling => .pulling
      | .held => .lost
      | .lost => .lost
      | .fault => .fault
    pull := match z.st with
      | .off => z.pull
      | .pulling => z.pull
      | .held => some (cfg.pullTimeout * 1000)
      | .lost => z.pull
      | .fault => z.pull }

/-- The watches are told that zone k became HELD: ZONES-SETTLING ceases where every zone of the range is now HELD (R92,
R97). -/
def State.zoneBecameHeld (k : Nat) (s : State) : State :=
  s.tellBoth fun w => w.reasons.zonesSettling && rangeHas w.range k &&
    (match w.range with
      | some r => s.allHeld r
      | none => false)

/-- The body of a debounced change to good (R85, R92, R93). -/
def State.pressureCome (k : Nat) (s : State) : State :=
  let was := (s.zone k).st
  let t := s.setZone k (s.zone k).becomeGood
  if was = .pulling ∨ was = .lost then t.zoneBecameHeld k else t

/-- The body of a debounced change to not good (R85, R93). -/
def State.pressureGone (k : Nat) (s : State) : State := s.setZone k ((s.zone k).becomeBad s.zoneSettings)

/-- The microseconds after which the debounced level of zone k changes if no line moves: what is left of the deglitch time,
where the input reads the other level (R84, R85). -/
def State.changeIn (s : State) (k : Nat) : Option Nat :=
  if s.readsGood k = (s.zone k).good then none else some (s.zoneSettings.deglitch * 1000 - (s.zone k).steady)

/-- The debounced level of zone k changes (R85, R92, R93). -/
def State.changeLevel (k : Nat) (s : State) : State :=
  State.closeEvent s (if (s.zone k).good then State.pressureGone k s else State.pressureCome k s)

/-- The debounced level of zone k changes, if its input has read the other level for the deglitch time (R85). -/
def State.takeLevel (k : Nat) (s : State) : State := if s.changeIn k = some 0 then State.changeLevel k s else s

/-! ### Time at the zones -/

/-- A moment at which a zone moves by itself, `left` microseconds away: its pull timeout, or a change of its level. -/
structure ZoneDeadline where
  left    : Nat
  zone    : Nat
  timeout : Bool
deriving DecidableEq, Repr

/-- The moments at which the zones move if no line does: the changes of level, then the pull timeouts, in the order of the
zones (R85, R92 to R94). -/
def State.zoneDeadlines (s : State) : List ZoneDeadline :=
  ((List.range Config.zoneCount).filterMap fun k => (s.changeIn k).map fun left => ⟨left, k, false⟩) ++
    (List.range Config.zoneCount).filterMap fun k => (s.zone k).pullLeft.map fun left => ⟨left, k, true⟩

/-- The earliest of several moments; of those that fall together the one that stands first. -/
def earliest : List ZoneDeadline → Option ZoneDeadline
  | [] => none
  | e :: es =>
    match earliest es with
    | none => some e
    | some f => some (if e.left ≤ f.left then e else f)

/-- The time to such a moment passes, and the zone moves. -/
def State.reach (e : ZoneDeadline) (s : State) : State :=
  if e.timeout then s.pullTimeout e.zone else State.changeLevel e.zone (s.elapse e.left)

/-- `d` microseconds pass in which no line moves. What the zones do before their end is taken, each at its own moment; what
falls at their end is not (log 2). -/
def State.passBy : Nat → Nat → State → State
  | 0, d, s => s.elapse d
  | fuel + 1, d, s =>
    match earliest s.zoneDeadlines with
    | none => s.elapse d
    | some e => if e.left < d then State.passBy fuel (d - e.left) (s.reach e) else s.elapse d

/-- `d` microseconds pass in which no line moves. Three moments a zone are enough: while no line moves and need stands, a zone
is started once at most, faults once at most, and its level changes once before it is started and once after. -/
def State.pass (d : Nat) (s : State) : State := State.passBy (3 * Config.zoneCount) d s

/-! ### The pressure rows -/

/-- Line PRSk changes over, and the timing of its level starts again (R85). -/
def State.flipLine (k : Nat) (s : State) : State :=
  { s.setZone k { s.zone k with steady := 0 } with prs := s.prs ^^^ BitVec.twoPow 16 k }

/-- An edge: the time before it passes, a change of level that is due at its moment comes first, and the line changes
over (R85). -/
def State.edge (s : State) (e : Edge) : State :=
  State.flipLine e.line.val (State.takeLevel e.line.val (State.pass e.after s))

/-- A pressure row: the edges come, each at its moment, and where the input of zone k then reads `good` and its level does
not, the time passes in which it becomes so (R85, log 25). During the reset hold it is none (log 27). -/
def State.pressure (s : State) (k : Nat) (good : Bool) (edges : List Edge) : State :=
  if s.resetHold.isSome = true then s
  else
    let t := edges.foldl State.edge s
    match t.changeIn k with
    | none => t
    | some d => if (t.zone k).good = good then t else State.takeLevel k (State.pass d t)

/-- PRESSURE_GOOD of zone k (R92). -/
def State.pressureGood (s : State) (k : Nat) (edges : List Edge) : State := s.pressure k true edges

/-- PRESSURE_LOSS of zone k (R93). -/
def State.pressureLoss (s : State) (k : Nat) (edges : List Edge) : State := s.pressure k false edges

end Sys2Proof.Machine
end

