-- ==== Sys2Proof/Machine/Reset.lean ====
section
/-! DEFINITION. Reset (R154, R165, R166): the internal reset hold on its three causes, what a warm reset keeps, and the
hold's end. -/

namespace Sys2Proof.Machine

/-- A channel after a warm reset: its trim and fault record are kept (R114, R131). -/
def Channel.warmReset (c : Channel) : Channel := Channel.reset c.trim c.record

/-- The part in a reset hold just begun by the pin or by the command (R165): every block at its reset values, but for what
a warm reset keeps. -/
def State.warmReset (cause : ResetCause) (s : State) : State :=
  { State.reset with
    pending := s.pending
    free := s.free
    resetHold := some ⟨cause, Config.resetHoldTime⟩
    lastCause := s.lastCause
    rate := s.rate
    prs := s.prs
    links := ⟨Link.reset, Link.reset, Link.reset⟩
    heads :=
      ⟨Head.reset BedGeometry.default.parkA s.heads.a.blade.trim s.heads.a.blade.record,
        Head.reset BedGeometry.default.parkB s.heads.b.blade.trim s.heads.b.blade.record⟩
    pieces := s.pieces.map Piece.scrap
    retained := !s.pieces.isEmpty }

/-- The part in a reset hold just begun at power-on (R165): every block at its power-on values. -/
def State.powerReset (s : State) : State :=
  { State.reset with
    pending := s.pending
    free := s.free
    resetHold := some ⟨.power, Config.resetHoldTime⟩
    lastCause := s.lastCause
    rate := s.rate
    prs := s.prs
    links := ⟨Link.reset, Link.reset, Link.reset⟩ }

/-- NRESET_TAKEN (R165): it begins a hold, or extends one that runs to at least 10 ms after its own taking and leaves the
hold's cause. -/
def State.nresetTaken (s : State) : State :=
  match s.resetHold with
  | none => s.warmReset .pin
  | some r => { s with resetHold := some { r with left := Config.resetHoldTime } }

/-- The hold ends: the straps are sampled, the cause is recorded, every receiver hunts, and of the
attention sets only the cell link's holds a cause, RESTARTED (R156, R162, R165). The zones have held their reset values, so
the deglitch timing begins now (log 23). -/
def State.endHold (rate : LinkRate) (cause : ResetCause) (s : State) : State :=
  { s with
    resetHold := none
    lastCause := cause
    rate := rate
    links := State.reset.links
    zones := s.zones.map fun z => { z with steady := 0 } }

/-- RESET_HOLD_END (R165): the time the hold still has to last passes, and the hold ends. Without a hold there is none to
end (log 28). -/
def State.resetHoldEnd (s : State) (rate : LinkRate) : State :=
  match s.resetHold with
  | none => s
  | some r => (s.elapse r.left).endHold rate r.cause

end Sys2Proof.Machine
end

