-- ==== Sys2Proof/Machine/EventCommands.lean ====
section
/-! DEFINITION. The meanings of the reset rows (R165), of the timer expiries and of the pressure rows. -/

namespace Sys2Proof.Machine

/-- POWER_ON (R165). -/
def execPowerOn (s : State) : Host.Outcome State Fault Refusal := .next s.powerReset

/-- NRESET_TAKEN (R165). -/
def execNresetTaken (s : State) : Host.Outcome State Fault Refusal := .next s.nresetTaken

/-- RESET_HOLD_END (R165), with the straps as they are sampled (R156). -/
def execResetHoldEnd (lrate1 lrate0 : Bool) (s : State) : Host.Outcome State Fault Refusal :=
  .next (s.resetHoldEnd ⟨lrate1, lrate0⟩)

/-- OVERDUE_EXPIRY (R137). -/
def execOverdueExpiry (h : HeadId) (s : State) : Host.Outcome State Fault Refusal := .next (s.overdueExpiry h)

/-- IDLE_DELAY_EXPIRY (R104). -/
def execIdleDelayExpiry (h : HeadId) (s : State) : Host.Outcome State Fault Refusal := .next (s.idleDelayExpiry h)

/-- STOP_DELAY_EXPIRY (R105). -/
def execStopDelayExpiry (h : HeadId) (s : State) : Host.Outcome State Fault Refusal := .next (s.stopDelayExpiry h)

/-- PENDING_REQUEST_LAPSE (R88). -/
def execPendingRequestLapse (h : HeadId) (s : State) : Host.Outcome State Fault Refusal := .next (s.lapseExpiry h)

/-- RETRY_TIME_EXPIRY (R128). -/
def execRetryTimeExpiry (h : HeadId) (s : State) : Host.Outcome State Fault Refusal := .next (s.retryExpiry h)

/-- STROKE_WATCH_EXPIRY (R111, R120). -/
def execStrokeWatchExpiry (h : HeadId) (s : State) : Host.Outcome State Fault Refusal := .next (s.strokeWatchExpiry h)

/-- BUDGET_MARK_EXPIRY (R91). -/
def execBudgetMarkExpiry (s : State) : Host.Outcome State Fault Refusal := .next s.markExpiry

/-- PULL_TIMEOUT (R94). -/
def execPullTimeout (zone : Fin 16) (s : State) : Host.Outcome State Fault Refusal := .next (s.pullTimeout zone.val)

/-- PRESSURE_GOOD (R92). -/
def execPressureGood (c : Chatter) (s : State) : Host.Outcome State Fault Refusal :=
  .next (s.pressureGood c.zone.val c.edges)

/-- PRESSURE_LOSS (R93). -/
def execPressureLoss (c : Chatter) (s : State) : Host.Outcome State Fault Refusal :=
  .next (s.pressureLoss c.zone.val c.edges)

end Sys2Proof.Machine
end

