-- ==== Sys2Proof/Machine/Operands.lean ====
section
/-! DEFINITION. The bytes of a request (11.1 to 11.3): reading the type and payload of a checked frame as a request, with
the length test of R161, and writing a request as those bytes. Fields stand in the order of their owning rule where
Chapter 11 does not draw the layout (log 13). -/

namespace Sys2Proof.Machine

/-! ### Fields -/

/-- Two bytes, least significant first (R167). -/
def halfOf (lo hi : Byte) : Half := hi ++ lo

/-- Four bytes, least significant first (R167). -/
def longOf (b0 b1 b2 b3 : Byte) : Long := (b3 ++ b2) ++ (b1 ++ b0)

/-- The two bytes of a 16-bit field. -/
def halfBytes (v : Half) : List Byte := [v.extractLsb' 0 8, v.extractLsb' 8 8]

/-- The four bytes of a 32-bit field. -/
def longBytes (v : Long) : List Byte :=
  [v.extractLsb' 0 8, v.extractLsb' 8 8, v.extractLsb' 16 8, v.extractLsb' 24 8]

/-- One byte and the rest. -/
def getByte : List Byte → Option (Byte × List Byte)
  | b :: rest => some (b, rest)
  | [] => none

/-- A 16-bit field and the rest. -/
def getHalf : List Byte → Option (Half × List Byte)
  | lo :: hi :: rest => some (halfOf lo hi, rest)
  | [_] => none
  | [] => none

/-- A 32-bit field and the rest. -/
def getLong : List Byte → Option (Long × List Byte)
  | b0 :: b1 :: b2 :: b3 :: rest => some (longOf b0 b1 b2 b3, rest)
  | _ => none

/-- A position and the rest. -/
def getPoint (p : List Byte) : Option (PointReq × List Byte) := do
  let (x, p) ← getHalf p
  let (y, p) ← getHalf p
  pure (⟨x, y⟩, p)

/-- A count of single bytes and the rest. -/
def getBytes : Nat → List Byte → Option (List Byte × List Byte)
  | 0, p => some ([], p)
  | n + 1, p => do
    let (b, p) ← getByte p
    let (bs, p) ← getBytes n p
    pure (b :: bs, p)

/-- The layers of a BLOCK-LOAD and the rest (11.2). -/
def getLayers : Nat → List Byte → Option (List LayerReq × List Byte)
  | 0, p => some ([], p)
  | n + 1, p => do
    let (t, p) ← getHalf p
    let (c, p) ← getByte p
    let (ls, p) ← getLayers n p
    pure (⟨t, c⟩ :: ls, p)

/-- A presence byte: 0 or 1, anything else makes the length test fail (R167). -/
def getPresence (p : List Byte) : Option (Bool × List Byte) := do
  let (b, p) ← getByte p
  if b = 0 then pure (false, p) else if b = 1 then pure (true, p) else none

/-- A field behind its presence (R167). -/
def getIf {α : Type} (present : Bool) (get : List Byte → Option (α × List Byte)) (p : List Byte) :
    Option (Option α × List Byte) :=
  if present then (get p).map fun r => (some r.1, r.2) else some (none, p)

/-- The request, if no byte is left over: the length agrees (R161). -/
def atEnd (p : List Byte) (r : Request) : Option Request := if p.isEmpty then some r else none

/-! ### Listed values

The manual gives no codes for the listed values of GUARD SET: a code byte names the value whose code, a free value, it is
(log 12). -/

/-- The response mode a code byte names (Table 7-1). -/
def modeOfCode (b : Byte) : Option FaultMode :=
  [FaultMode.latchCoast, .latchBrake, .retryCoast, .retryBrake, .report, .ignore].find? fun m =>
    decide (Config.codeOfMode m = b)

/-- The relief mode a code byte names (R115). -/
def reliefOfCode (b : Byte) : Option ReliefMode :=
  [ReliefMode.relief, .report, .ignore].find? fun m => decide (Config.codeOfRelief m = b)

/-- The abort stop action a code byte names (R126). -/
def stopActionOfCode (b : Byte) : Option StopAction :=
  [StopAction.coast, .brake].find? fun a => decide (Config.codeOfStopAction a = b)

/-- The retry limit a code byte names (Table 7-2). -/
def retryLimitOfCode (b : Byte) : Option RetryLimit :=
  [RetryLimit.upTo 1, .upTo 2, .upTo 3, .upTo 5, .upTo 7, .upTo 10, .unlimited].find? fun n =>
    decide (Config.codeOfRetryLimit n = b)

/-! ### Requests -/

/-- The flag byte of SEGMENT and what follows it (11.3). A flag byte with a bit set above bit 2, or a tag count of 3, makes
the length test fail (R167). -/
def getSegmentEnd (make : Option Half → List Byte → SegmentReq) (p : List Byte) : Option Request := do
  let (flags, p) ← getByte p
  if 6 ≤ flags.toNat then none
  else do
    let (radius, p) ← getIf (flags.getLsbD 0) getHalf p
    let (tags, p) ← getBytes (flags.toNat / 2) p
    atEnd p (.segment (make radius tags))

/-- SEGMENT (11.3). -/
def getSegment (p : List Byte) : Option Request := do
  let (number, p) ← getHalf p
  let (kind, p) ← getByte p
  let (first, p) ← getPoint p
  let (last, p) ← getPoint p
  let (xlo, p) ← getHalf p
  let (xhi, p) ← getHalf p
  let (entry, p) ← getHalf p
  let (exit, p) ← getHalf p
  let (length, p) ← getHalf p
  getSegmentEnd (fun radius tags => ⟨number, kind, first, last, xlo, xhi, entry, exit, length, radius, tags⟩) p

/-- BLOCK-LOAD: a count, the layers, the label's presence and the label (11.2). -/
def getBlockLoad (p : List Byte) : Option Request := do
  let (n, p) ← getByte p
  let (layers, p) ← getLayers n.toNat p
  let (present, p) ← getPresence p
  let (label, p) ← getIf present getLong p
  atEnd p (.blockLoad layers label)

/-- CUT SET: the selector and the values of Table 3-1. -/
def getCutSet (p : List Byte) : Option Request := do
  let (sel, p) ← getByte p
  let (pMax, p) ← getHalf p
  let (pMin, p) ← getHalf p
  let (w, p) ← getHalf p
  let (fMax, p) ← getHalf p
  let (fAir, p) ← getHalf p
  let (soft, p) ← getHalf p
  let (maxTurn, p) ← getHalf p
  let (pivot, p) ← getByte p
  let (grace, p) ← getHalf p
  atEnd p (.cutSet sel ⟨pMax, pMin, w, fMax, fAir, soft, maxTurn, pivot, grace⟩)

/-- ZONE SET: the settings of R84; what the polarity field says is a free value (log 12). -/
def getZoneSet (p : List Byte) : Option Request := do
  let (budget, p) ← getByte p
  let (pull, p) ← getHalf p
  let (deglitch, p) ← getByte p
  let (polarity, p) ← getHalf p
  atEnd p (.zoneSet ⟨budget, pull, deglitch, Config.activeHighOfBits polarity⟩)

/-- BLADE SET: the selector and the values of Table 6-1. -/
def getBladeSet (p : List Byte) : Option Request := do
  let (sel, p) ← getByte p
  let (fCut, p) ← getHalf p
  let (fIdle, p) ← getHalf p
  let (ramp, p) ← getBytes 8 p
  let (strokes, p) ← getByte p
  let (settle, p) ← getByte p
  let (idle, p) ← getHalf p
  let (stop, p) ← getHalf p
  let (low, p) ← getHalf p
  let (high, p) ← getHalf p
  atEnd p (.bladeSet sel ⟨fCut, fIdle, ramp, strokes, settle, idle, stop, low, high⟩)

/-- GUARD SET: the selector and the values of Table 7-2; the codes of its listed values are free values (log 12). -/
def getGuardSet (p : List Byte) : Option Request := do
  let (sel, p) ← getByte p
  let (m1, p) ← getByte p
  let (m2, p) ← getByte p
  let (m3, p) ← getByte p
  let (m4, p) ← getByte p
  let (m5, p) ← getByte p
  let (rough, p) ← getByte p
  let (lockLimit, p) ← getHalf p
  let (lockStrokes, p) ← getByte p
  let (noBlade, p) ← getHalf p
  let (retryTime, p) ← getHalf p
  let (limit, p) ← getByte p
  let (action, p) ← getByte p
  let (relief, p) ← getByte p
  let (peak, p) ← getHalf p
  let (n, p) ← getByte p
  let (e, p) ← getByte p
  atEnd p (.guardSet sel
    ⟨modeOfCode m1, modeOfCode m2, modeOfCode m3, modeOfCode m4, modeOfCode m5, rough,
      lockLimit, lockStrokes, noBlade, retryTime, retryLimitOfCode limit, stopActionOfCode action,
      reliefOfCode relief, peak, n, e⟩)

/-- PIECE DECLARE: id, edges required, extent, and the style label behind its presence (R146). -/
def getPieceDeclare (p : List Byte) : Option Request := do
  let (id, p) ← getByte p
  let (edges, p) ← getByte p
  let (lo, p) ← getHalf p
  let (hi, p) ← getHalf p
  let (present, p) ← getPresence p
  let (label, p) ← getIf present getHalf p
  atEnd p (.pieceDeclare ⟨id, edges, lo, hi, label⟩)

/-- BED SET: the separation and both park points (R63). -/
def getBedSet (p : List Byte) : Option Request := do
  let (separation, p) ← getHalf p
  let (parkA, p) ← getPoint p
  let (parkB, p) ← getPoint p
  atEnd p (.bedSet separation parkA parkB)

/-- OPEN: both home points (R9). -/
def getOpen (p : List Byte) : Option Request := do
  let (homeA, p) ← getPoint p
  let (homeB, p) ← getPoint p
  atEnd p (.openJob homeA homeB)

/-- RELEASE: a head and a position (R79). -/
def getRelease (p : List Byte) : Option Request := do
  let (head, p) ← getByte p
  let (point, p) ← getPoint p
  atEnd p (.release head point)

/-- A request of one byte. -/
def getOne (make : Byte → Request) (p : List Byte) : Option Request := do
  let (b, p) ← getByte p
  atEnd p (make b)

/-- A request of two bytes. -/
def getTwo (make : Byte → Byte → Request) (p : List Byte) : Option Request := do
  let (b, p) ← getByte p
  let (c, p) ← getByte p
  atEnd p (make b c)

/-- DONE: a sequence number. -/
def getDone (p : List Byte) : Option Request := do
  let (n, p) ← getHalf p
  atEnd p (.done n)

/-- PIECE READ: the length selects the form (11.2). -/
def getPieceRead : List Byte → Option Request
  | [] => some (.pieceRead none)
  | [id] => some (.pieceRead (some id))
  | _ => none

/-- The payload of a known type as a request; none where the length test fails (R161, Table 11-1). -/
def getRequest (type : Byte) (p : List Byte) : Option Request :=
  match type.toNat with
  | 0x01 => atEnd p .status
  | 0x02 => atEnd p .ident
  | 0x03 => getOne .headRead p
  | 0x04 => getPieceRead p
  | 0x10 => getSegment p
  | 0x11 => atEnd p .flush
  | 0x12 => atEnd p .grant
  | 0x13 => getDone p
  | 0x20 => getBlockLoad p
  | 0x21 => getOpen p
  | 0x22 => atEnd p .close
  | 0x23 => atEnd p .abort
  | 0x24 => getTwo .classSet p
  | 0x28 => getCutSet p
  | 0x29 => getBedSet p
  | 0x2A => getZoneSet p
  | 0x2B => getBladeSet p
  | 0x2C => getGuardSet p
  | 0x30 => getPieceDeclare p
  | 0x31 => getOne .take p
  | 0x38 => getRelease p
  | 0x39 => getOne .hold p
  | 0x3A => getOne .resume p
  | 0x3B => getTwo .service p
  | 0x3C => getOne .faultClear p
  | 0x3D => getOne .zoneClear p
  | 0x3E => atEnd p .zoneRead
  | 0x3F => atEnd p .reset
  | _ => none

/-- What the first two tests of R161 make of a checked frame. -/
inductive Parsed where
  | unknown
  | malformed (type : Byte)
  | request (r : Request)
deriving DecidableEq, Repr

/-- The type and payload bytes of a checked frame, judged by tests 1 and 2 of R161. -/
def parse (body : List Byte) : Parsed :=
  match body with
  | [] => .unknown
  | type :: payload =>
    if requestCodes.contains type = true then
      match getRequest type payload with
      | some r => .request r
      | none => .malformed type
    else .unknown

/-! ### Writing a request -/

/-- The type code of a request (Table 11-1). -/
def requestCode : Request → Byte
  | .status => 0x01
  | .ident => 0x02
  | .headRead _ => 0x03
  | .pieceRead _ => 0x04
  | .segment _ => 0x10
  | .flush => 0x11
  | .grant => 0x12
  | .done _ => 0x13
  | .blockLoad _ _ => 0x20
  | .openJob _ _ => 0x21
  | .close => 0x22
  | .abort => 0x23
  | .classSet _ _ => 0x24
  | .cutSet _ _ => 0x28
  | .bedSet _ _ _ => 0x29
  | .zoneSet _ => 0x2A
  | .bladeSet _ _ => 0x2B
  | .guardSet _ _ => 0x2C
  | .pieceDeclare _ => 0x30
  | .take _ => 0x31
  | .release _ _ => 0x38
  | .hold _ => 0x39
  | .resume _ => 0x3A
  | .service _ _ => 0x3B
  | .faultClear _ => 0x3C
  | .zoneClear _ => 0x3D
  | .zoneRead => 0x3E
  | .reset => 0x3F

/-- The four bytes of a position. -/
def pointBytes (p : PointReq) : List Byte := halfBytes p.x ++ halfBytes p.y

/-- The flag byte of SEGMENT (11.3). -/
def segmentFlags (r : SegmentReq) : Byte := BitVec.ofNat 8 ((if r.radius.isSome then 1 else 0) + 2 * r.tags.length)

/-- The bytes of an optional field without its presence byte. -/
def optBytes {α : Type} (bytes : α → List Byte) : Option α → List Byte
  | some v => bytes v
  | none => []

/-- A presence byte (R167). -/
def presence {α : Type} (v : Option α) : Byte := if v.isSome then 1 else 0

/-- The payload of SEGMENT (11.3). -/
def segmentPayload (r : SegmentReq) : List Byte :=
  halfBytes r.number ++ (r.kind :: (pointBytes r.first ++ (pointBytes r.last ++ (halfBytes r.xlo ++ (halfBytes r.xhi ++
    (halfBytes r.entry ++ (halfBytes r.exit ++ (halfBytes r.length ++ (segmentFlags r ::
      (optBytes halfBytes r.radius ++ r.tags))))))))))

/-- The three bytes of a layer (11.2). -/
def layerBytes (l : LayerReq) : List Byte := halfBytes l.thickness ++ [l.cls]

/-- The payload of BLOCK-LOAD (11.2). -/
def blockLoadPayload (layers : List LayerReq) (label : Option Long) : List Byte :=
  BitVec.ofNat 8 layers.length :: (layers.flatMap layerBytes ++ (presence label :: optBytes longBytes label))

/-- The payload of CUT SET. -/
def cutSetPayload (sel : Byte) (p : CutReq) : List Byte :=
  sel :: (halfBytes p.pMax ++ (halfBytes p.pMin ++ (halfBytes p.w ++ (halfBytes p.fMax ++ (halfBytes p.fAir ++
    (halfBytes p.soft ++ (halfBytes p.maxTurn ++ (p.pivot :: halfBytes p.grace))))))))

/-- The payload of BLADE SET. -/
def bladeSetPayload (sel : Byte) (p : BladeReq) : List Byte :=
  sel :: (halfBytes p.fCut ++ (halfBytes p.fIdle ++ (p.ramp ++ (p.stepStrokes :: p.settle :: (halfBytes p.idleDelay ++
    (halfBytes p.stopDelay ++ (halfBytes p.trimLow ++ halfBytes p.trimHigh)))))))

/-- The payload of PIECE DECLARE. -/
def pieceDeclarePayload (p : PieceReq) : List Byte :=
  p.id :: p.edges :: (halfBytes p.lo ++ (halfBytes p.hi ++ (presence p.label :: optBytes halfBytes p.label)))

/-- The payload of a request (Table 11-1). ZONE SET and GUARD SET have none: the manual gives no bytes for the polarities
and for the listed values (log 12). -/
def requestPayload : Request → Option (List Byte)
  | .status => some []
  | .ident => some []
  | .headRead head => some [head]
  | .pieceRead id => some id.toList
  | .segment r => some (segmentPayload r)
  | .flush => some []
  | .grant => some []
  | .done n => some (halfBytes n)
  | .blockLoad layers label => some (blockLoadPayload layers label)
  | .openJob homeA homeB => some (pointBytes homeA ++ pointBytes homeB)
  | .close => some []
  | .abort => some []
  | .classSet cls coef => some [cls, coef]
  | .cutSet sel p => some (cutSetPayload sel p)
  | .bedSet separation parkA parkB => some (halfBytes separation ++ (pointBytes parkA ++ pointBytes parkB))
  | .zoneSet _ => none
  | .bladeSet sel p => some (bladeSetPayload sel p)
  | .guardSet _ _ => none
  | .pieceDeclare p => some (pieceDeclarePayload p)
  | .take id => some [id]
  | .release head point => some (head :: pointBytes point)
  | .hold sel => some [sel]
  | .resume sel => some [sel]
  | .service head direction => some [head, direction]
  | .faultClear head => some [head]
  | .zoneClear zone => some [zone]
  | .zoneRead => some []
  | .reset => some []

/-- The type and payload bytes of a request. -/
def requestBody (r : Request) : Option (List Byte) := (requestPayload r).map (requestCode r :: ·)

end Sys2Proof.Machine
end

