-- ==== Sys2Proof/Machine/Records.lean ====
section
/-! DEFINITION. The bytes of replies (11.1, 11.4 to 11.7): codes, payloads, the frame check and the frame a link sends. Where
Chapter 11 does not draw a layout, the fields stand in the order of their owning rule, encoded as 11.1 says (log 15). -/

namespace Sys2Proof.Machine

/-! ### Codes (11.1, 11.7) -/

/-- A number as one byte. -/
def byteOf (n : Nat) : Byte := BitVec.ofNat 8 n

/-- A number as a 16-bit field; 65536 is sent as 0 (R167). -/
def le16 (n : Nat) : List Byte := halfBytes (BitVec.ofNat 16 n)

/-- A number as a 32-bit field. -/
def le32 (n : Nat) : List Byte := longBytes (BitVec.ofNat 32 n)

/-- The code of a job state. -/
def JobState.code : JobState → Byte
  | .idle => 0
  | .staged => 1
  | .cutting => 2
  | .closing => 3

/-- The code of a segment kind. -/
def SegKind.code : SegKind → Byte
  | .line => 0
  | .arcCw => 1
  | .arcCcw => 2
  | .air => 3

/-- The code of a number state. -/
def NumState.code : NumState → Byte
  | .notAccepted => 0
  | .queued => 1
  | .granted => 2
  | .done => 3
  | .flushed => 4
  | .withdrawn => 5

/-- The code of a joint class. -/
def JointClass.code : JointClass → Byte
  | .smooth => 0
  | .pivot => 1
  | .free => 2

/-- The code of a service state. -/
def Service.code : Service → Byte
  | .inService => 0
  | .outOfService => 1

/-- The code of a channel state. -/
def ChState.code : ChState → Byte
  | .stopped => 0
  | .spinup => 1
  | .settling => 2
  | .run => 3
  | .retryWait => 4
  | .faulted => 5

/-- The code of a level, 0 where there is none (R167). -/
def levelCode : Option Level → Byte
  | none => 0
  | some .idle => 1
  | some .cut => 2

/-- The code of a demand. -/
def Demand.code : Demand → Byte
  | .off => 0
  | .idle => 1
  | .cut => 2

/-- The code of an overdue timer's state. -/
def TimerState.code : TimerState → Byte
  | .stopped => 0
  | .counting => 1
  | .paused => 2

/-- The code of a piece state. -/
def PieceState.code : PieceState → Byte
  | .declared => 0
  | .part => 1
  | .severed => 2
  | .taken => 3
  | .scrapped => 4

/-- The code of a reset cause. -/
def ResetCause.code : ResetCause → Byte
  | .power => 0
  | .pin => 1
  | .command => 2

/-- The code of a head. -/
def headCode : HeadId → Byte
  | .a => 0
  | .b => 1

/-- The refusal reason codes (11.7). -/
def Reason.code : Reason → Byte
  | .notOnThisLink => 0x01
  | .unknownRequest => 0x02
  | .malformed => 0x03
  | .badValue => 0x10
  | .wrongJobState => 0x11
  | .headOutOfService => 0x12
  | .headBusy => 0x13
  | .queueFull => 0x20
  | .sequenceGap => 0x21
  | .sequenceExhausted => 0x22
  | .discontinuous => 0x23
  | .extentMismatch => 0x25
  | .headingMismatch => 0x26
  | .lengthImplausible => 0x27
  | .radiusTooSmall => 0x28
  | .turnTooSharp => 0x29
  | .outsideBed => 0x2A
  | .unknownPiece => 0x30
  | .pieceClosed => 0x31
  | .pieceRepeated => 0x32
  | .airTagged => 0x33
  | .pieceTableFull => 0x34
  | .pieceExists => 0x35
  | .notSevered => 0x36
  | .notGranted => 0x40
  | .outOfOrder => 0x41
  | .notHeld => 0x42
  | .positionOutsideClaim => 0x43
  | .classUndefined => 0x50
  | .stackTooTall => 0x51
  | .homesTooClose => 0x52
  | .parksTooClose => 0x53
  | .budgetInUse => 0x54
  | .clearance => 0x55
  | .zoneNotFaulted => 0x60
  | .bladeNotLatched => 0x61

/-- The code of a zone state: a free value, for 11.1 lists none (log 15). -/
def ZoneState.code : ZoneState → Byte
  | .off => Config.codeOfZone 0
  | .pulling => Config.codeOfZone 1
  | .held => Config.codeOfZone 2
  | .lost => Config.codeOfZone 3
  | .fault => Config.codeOfZone 4

/-- The code of the kind of a continuity reference: a free value, for 11.1 lists none (log 15). -/
def RefKind.code : RefKind → Byte
  | .cutting => Config.codeOfReference 0
  | .air => Config.codeOfReference 1
  | .standing => Config.codeOfReference 2

/-- A yes or no as one byte, as a presence byte is (R167). -/
def flagByte (b : Bool) : Byte := if b then 1 else 0

/-- The grant flags byte (11.1). -/
def grantFlags (heavy ceiling : Bool) : Byte := bitsToByte [heavy, ceiling]

/-! ### Payloads after the status byte -/

/-- A position. -/
def Point.bytes (p : Point) : List Byte := le16 p.x ++ le16 p.y

/-- The detail field of a refusal (Table 11-3). -/
def Detail.bytes : Detail → List Byte
  | .none => []
  | .next n => le16 n
  | .reference p => p.bytes
  | .turn delta => le16 delta
  | .tag id => [byteOf id]
  | .number s => [s.code]
  | .piece s => [s.code]

/-- The grant record (Table 11-2). -/
def GrantRecord.bytes (r : GrantRecord) : List Byte :=
  le16 r.number ++ le16 r.feed ++ [grantFlags r.heavy r.ceiling, r.joint.code] ++ le16 r.turn ++ le32 r.expected ++
    le32 r.allowance

/-- A window entry of the head link STATUS (11.5). -/
def WinEntry.bytes (w : WinEntry) : List Byte :=
  le16 w.entry.seg.number ++ [w.entry.seg.kind.code] ++ le16 w.result.feed ++
    [grantFlags w.result.heavy w.result.ceiling] ++ le32 w.result.expected ++ le32 w.result.allowance

/-- The head link STATUS (11.5). -/
def HeadStatus.bytes (v : HeadStatus) : List Byte :=
  [v.job.code, v.service.code, v.hold.byte, byteOf v.window.length] ++ v.window.flatMap WinEntry.bytes ++
    [byteOf v.queue] ++ le16 v.nextSeq ++ v.standing.bytes ++ le16 v.claim.lo ++ le16 v.claim.hi ++
    [v.watch.byte, v.channel.code, levelCode v.level, v.demand.code, v.timer.code] ++ le32 v.remaining ++
    [v.attention.byte]

/-- A head's eight bytes in the cell link STATUS (11.5). -/
def HeadSummary.bytes (v : HeadSummary) : List Byte :=
  [v.service.code, v.hold.byte, byteOf v.queue, byteOf v.window, v.channel.code, levelCode v.level, v.demand.code,
    v.timer.code]

/-- An optional label with its presence byte, sent as 0 where it is absent (R167). -/
def labelBytes {w : Nat} (bytes : BitVec w → List Byte) (v : Option (BitVec w)) : List Byte :=
  presence v :: bytes (v.getD 0)

/-- The cell link STATUS (11.5). -/
def CellStatus.bytes (v : CellStatus) : List Byte :=
  [v.job.code, byteOf v.layers] ++ le16 v.thickness ++ labelBytes longBytes v.label ++ v.heads.a.bytes ++
    v.heads.b.bytes ++ [byteOf v.active, byteOf v.budget, byteOf v.pieces.declared, byteOf v.pieces.part,
      byteOf v.pieces.severed, byteOf v.pieces.taken, byteOf v.pieces.scrapped, v.cause.code, v.attention.byte]

/-- The IDENT reply (11.5). -/
def identBytes (cause : ResetCause) (retained : Bool) : List Byte :=
  le16 Config.vendorCode ++ le16 Config.partNumber ++ [byteOf Config.revision, cause.code, if retained then 1 else 0]

/-- A piece record (11.6). -/
def Piece.bytes (p : Piece) : List Byte :=
  [byteOf p.id, p.st.code, byteOf p.required, byteOf p.edges] ++ le16 p.lo ++ le16 p.hi ++ labelBytes halfBytes p.label ++
    [byteOf p.contributors.length] ++ p.contributors.flatMap fun c => headCode c.1 :: le16 c.2

/-- The summary form of PIECE READ (11.6). -/
def summaryBytes (rows : List (Nat × PieceState)) : List Byte :=
  byteOf rows.length :: rows.flatMap fun r => [byteOf r.1, r.2.code]

/-! ### Payloads the manual does not draw (log 15) -/

/-- A field behind its presence byte, sent only where it is present (R167). -/
def optionBytes {α : Type} (bytes : α → List Byte) : Option α → List Byte
  | none => [0]
  | some v => 1 :: bytes v

/-- The cut parameters of a head, in the order of Table 3-1 (R43). -/
def CutParams.bytes (p : CutParams) : List Byte :=
  le16 p.pMax ++ le16 p.pMin ++ le16 p.w ++ le16 p.fMax ++ le16 p.fAir ++ le16 p.soft ++ le16 p.maxTurn ++
    [byteOf p.pivot] ++ le16 p.grace

/-- The bed geometry: the separation and both park points (R62). -/
def BedGeometry.bytes (g : BedGeometry) : List Byte := le16 g.separation ++ g.parkA.bytes ++ g.parkB.bytes

/-- The four settings of the zone controller, in the order of R84. -/
def ZoneSettings.bytes (z : ZoneSettings) : List Byte :=
  [byteOf z.budget] ++ le16 z.pullTimeout ++ [byteOf z.deglitch] ++ halfBytes (Config.bitsOfActiveHigh z.activeHigh)

/-- The blade parameters of a head, in the order of Table 6-1 (R102). -/
def BladeParams.bytes (p : BladeParams) : List Byte :=
  le16 p.fCut ++ le16 p.fIdle ++ p.ramp.map byteOf ++ [byteOf p.stepStrokes, byteOf p.settle] ++ le16 p.idleDelay ++
    le16 p.stopDelay ++ le16 p.trimLow ++ le16 p.trimHigh

/-- The guard settings of a head, in the order of Table 7-2 (R126). -/
def GuardSettings.bytes (g : GuardSettings) : List Byte :=
  [Config.codeOfMode g.modes.strokeLost, Config.codeOfMode g.modes.roughRate, Config.codeOfMode g.modes.noSettle,
    Config.codeOfMode g.modes.overload, Config.codeOfMode g.modes.bladeMissing, byteOf g.rough] ++ le16 g.lockLimit ++
    [byteOf g.lockStrokes] ++ le16 g.noBlade ++ le16 g.retryTime ++
    [Config.codeOfRetryLimit g.retryLimit, Config.codeOfStopAction g.abortAction, Config.codeOfRelief g.reliefMode] ++
    le16 g.peakLimit ++ [byteOf g.reliefN, byteOf g.escalation]

/-- The continuity reference: the point, the heading behind its presence, the kind (R19, R39). -/
def Reference.bytes (r : Reference) : List Byte := r.point.bytes ++ optionBytes le16 r.heading ++ [r.kind.code]

/-- The fault record, in the order of R131. -/
def FaultRecord.bytes (r : FaultRecord) : List Byte :=
  [Config.codeOfFault r.last] ++ le16 r.strokes ++ le16 r.rate ++ le16 r.average ++
    [byteOf r.counts.strokeLost, byteOf r.counts.roughRate, byteOf r.counts.noSettle, byteOf r.counts.overload,
      byteOf r.counts.bladeMissing, byteOf r.reliefs]

/-- HEAD READ, in the order of R118. The time left on the stop-delay timer may exceed 65535 ms (Table 6-1). -/
def HeadDetail.bytes (v : HeadDetail) : List Byte :=
  [v.channel.code, levelCode v.level, v.demand.code] ++ optionBytes (fun p => [byteOf p.1, byteOf p.2]) v.step ++
    le16 v.commanded ++ le16 v.measured ++ le16 v.strokes ++ le16 v.lastAvg ++ le16 v.lastPeak ++
    [byteOf v.trim, byteOf v.heavy, byteOf v.light, flagByte v.pausing, byteOf v.pause, byteOf v.escalation] ++
    le16 v.idleLeft ++ le32 v.stopLeft ++ [byteOf v.retries] ++ v.record.bytes

/-- A zone in ZONE READ, in the order of R97; the sources of its need are a set byte, the first source in bit 0. -/
def ZoneDetail.bytes (v : ZoneDetail) : List Byte :=
  [v.st.code, flagByte v.valve, flagByte v.good] ++ le16 v.pullLeft ++
    [byteOf v.faults, bitsToByte [v.windowA, v.windowB, v.pendingA, v.pendingB, v.severed]]

/-- The content of an ACCEPTED reply (R168). -/
def Content.bytes : Content → List Byte
  | .none => []
  | .headStatus v => v.bytes
  | .cellStatus v => v.bytes
  | .ident cause retained => identBytes cause retained
  | .headRead v => v.bytes
  | .piece p => p.bytes
  | .pieceSummary rows => summaryBytes rows
  | .segment number joint turn entries => le16 number ++ [joint.code] ++ le16 turn ++ [byteOf entries]
  | .flush removed numbers ref =>
    [byteOf removed] ++ optionBytes (fun n => le16 n.1 ++ le16 n.2) numbers ++ ref.bytes
  | .grant r => r.bytes
  | .done number standing claim => le16 number ++ standing.bytes ++ le16 claim.lo ++ le16 claim.hi
  | .job s => [s.code]
  | .cutSets a b => a.bytes ++ b.bytes
  | .bed g => g.bytes
  | .zoneSettings z => z.bytes
  | .bladeSets a b => a.bytes ++ b.bytes
  | .guardSets a b => a.bytes ++ b.bytes
  | .declared id records => [byteOf id, byteOf records]
  | .taken id => [byteOf id, PieceState.taken.code]
  | .release withdrawn standing => [byteOf withdrawn] ++ standing.bytes
  | .holds sets => sets.map fun p => p.2.byte
  | .service s standing => [s.code] ++ standing.bytes
  | .blade s d => [s.code, d.code]
  | .zone s faults => [s.code, byteOf faults]
  | .zones rows budget active holder reserved =>
    rows.flatMap ZoneDetail.bytes ++ [byteOf budget, byteOf active] ++ optionBytes (fun h => [headCode h]) holder ++
      [byteOf reserved]

/-- The payload of a reply: the status byte and what follows it (R168). -/
def Reply.payload : Reply → List Byte
  | .accepted c => 0x00 :: c.bytes
  | .wait reasons number => [0x01, reasons.byte] ++ le16 number
  | .refused r d => 0x02 :: r.code :: d.bytes
  | .already number st next => [0x03] ++ le16 number ++ [st.code] ++ le16 next

/-! ### Frames -/

/-- One bit of the frame check, most significant bit first: x^16 + x^12 + x^5 + 1 (00, Byte order and check). -/
def crcStepMsb (r : Half) : Half := if r.getLsbD 15 then (r <<< 1) ^^^ 0x1021 else r <<< 1

/-- One bit of the frame check, least significant bit first. -/
def crcStepLsb (r : Half) : Half := if r.getLsbD 0 then (r >>> 1) ^^^ 0x8408 else r >>> 1

/-- One byte of the frame check; the order of its bits is a free value (log 9). -/
def crcByte (lsbFirst : Bool) (r : Half) (b : Byte) : Half :=
  if lsbFirst then (List.range 8).foldl (fun r _ => crcStepLsb r) (r ^^^ b.zeroExtend 16)
  else (List.range 8).foldl (fun r _ => crcStepMsb r) (r ^^^ (b.zeroExtend 16 <<< 8))

/-- The CRC-16 over the length, type and payload bytes: initial value FFFF hex, no final inversion. -/
def crc16 (bytes : List Byte) : Half := bytes.foldl (crcByte Config.crcLsbFirst) 0xFFFF

/-- The frame around a type and payload (R158). -/
def frameOf (body : List Byte) : List Byte :=
  let counted := byteOf body.length :: body
  Config.leadByte :: (counted ++ halfBytes (crc16 counted))

/-- The type of the reply to a request type; FF hex for an unknown type (R160, R161). -/
def replyType (request : Byte) : Byte := if requestCodes.contains request = true then request + 0x80 else 0xFF

/-- The frame of the reply a link holds (R158, R160). -/
def InFlight.frame (f : InFlight) : List Byte := frameOf (replyType f.request :: f.reply.payload)

end Sys2Proof.Machine
end

