-- ==== Sys2Proof/Machine/Requests.lean ====
section
/-! DEFINITION. Taking a request (R160, R161): which link may send which request, handing a request to its owning block, and
the link's request buffer. -/

namespace Sys2Proof.Machine

/-- A request type that only a head link takes (Table 10-2). -/
def headOnly : Request → Bool
  | .segment _ | .flush | .grant | .done _ => true
  | .status | .ident | .headRead _ | .pieceRead _ | .blockLoad _ _ | .openJob _ _ | .close | .abort | .classSet _ _
  | .cutSet _ _ | .bedSet _ _ _ | .zoneSet _ | .bladeSet _ _ | .guardSet _ _ | .pieceDeclare _ | .take _ | .release _ _
  | .hold _ | .resume _ | .service _ _ | .faultClear _ | .zoneClear _ | .zoneRead | .reset => false

/-- A request type that every link takes (Table 10-2). -/
def everyLink : Request → Bool
  | .status | .ident | .headRead _ | .pieceRead _ => true
  | .segment _ | .flush | .grant | .done _ | .blockLoad _ _ | .openJob _ _ | .close | .abort | .classSet _ _
  | .cutSet _ _ | .bedSet _ _ _ | .zoneSet _ | .bladeSet _ _ | .guardSet _ _ | .pieceDeclare _ | .take _ | .release _ _
  | .hold _ | .resume _ | .service _ _ | .faultClear _ | .zoneClear _ | .zoneRead | .reset => false

/-- The type is permitted on the link (R161 test 3, Table 10-2). -/
def permitted (l : LinkId) (r : Request) : Bool :=
  match l with
  | .head _ => everyLink r || headOnly r
  | .cell => !headOnly r

/-- A request that concerns the link's own head; on the cell link test 3 has refused it before. -/
def onHeadLink (s : State) (l : LinkId) (act : HeadId → State × Reply) : State × Reply :=
  match l with
  | .head h => act h
  | .cell => (s, .refused .notOnThisLink .none)

/-- A request acted on by its owning block (R160, R161): the state it leaves and the reply. -/
def State.run (s : State) (l : LinkId) : Request → State × Reply
  | .status => s.statusRequest l
  | .ident => (s, s.identReply)
  | .headRead head => (s, s.headReadReply l head)
  | .pieceRead id => (s, s.pieceRead id)
  | .segment r => onHeadLink s l fun h => s.segmentRequest h r
  | .flush => onHeadLink s l fun h => s.flushRequest h
  | .grant => onHeadLink s l fun h => s.grantRequest h
  | .done n => onHeadLink s l fun h => s.doneRequest h n
  | .blockLoad layers label => s.blockLoadRequest layers label
  | .openJob homeA homeB => s.openRequest homeA homeB
  | .close => s.closeRequest
  | .abort => s.abortRequest
  | .classSet cls coef => s.classSetRequest cls coef
  | .cutSet sel p => s.cutSetRequest sel p
  | .bedSet separation parkA parkB => s.bedSetRequest separation parkA parkB
  | .zoneSet p => s.zoneSetRequest p
  | .bladeSet sel p => s.bladeSetRequest sel p
  | .guardSet sel p => s.guardSetRequest sel p
  | .pieceDeclare p => s.pieceDeclareRequest p
  | .take id => s.takeRequest id
  | .release head point => s.releaseRequest head point
  | .hold sel => s.cellHoldRequest true sel
  | .resume sel => s.cellHoldRequest false sel
  | .service head direction => s.serviceRequest head direction
  | .faultClear head => s.faultClearRequest head
  | .zoneClear zone => s.zoneClearRequest zone
  | .zoneRead => (s, s.zoneReadReply)
  | .reset => (s, .accepted .none)

/-- A request judged by test 3 of R161 and, if it passes, acted on. -/
def State.judge (s : State) (l : LinkId) (r : Request) : State × Reply :=
  if permitted l r = true then s.run l r else (s, .refused .notOnThisLink .none)

/-- The link's receiver looks for a lead byte again. -/
def State.toLead (s : State) (l : LinkId) : State := s.setLink l { s.link l with asm := .lead }

/-- A reply is taken into the link's buffer, not yet begun: the link is busy (R160). -/
def State.replyWith (s : State) (l : LinkId) (type : Byte) (reply : Reply) : State :=
  s.setLink l { s.link l with inFlight := some ⟨type, reply, false⟩ }

/-- The link can take a request: it is idle, hunting, and the part is not in its reset hold (R157, R160, R165). -/
def State.listens (s : State) (l : LinkId) : Bool :=
  s.resetHold.isNone && decide ((s.link l).rx = .hunting) && (s.link l).inFlight.isNone

/-- The link can receive characters: it is hunting, and the part is not in its reset hold (R157, R165). -/
def State.receives (s : State) (l : LinkId) : Bool := s.resetHold.isNone && decide ((s.link l).rx = .hunting)

/-- A checked frame with outcome `r` completes on link l (R160): taken at once if the link is idle, else discarded. -/
def State.takeFrame (s : State) (l : LinkId) (type : Byte) (act : State → State × Reply) : State :=
  if s.listens l = true then
    let r := act (s.toLead l)
    r.1.replyWith l type r.2
  else if s.receives l = true then s.toLead l
  else s

/-- A checked frame that carries request `r` completes on link l (R160, R161). -/
def State.serve (s : State) (l : LinkId) (r : Request) : State :=
  s.takeFrame l (requestCode r) fun t => t.judge l r

/-- A checked frame of an unknown type completes on link l (R161). -/
def State.serveUnknown (s : State) (l : LinkId) (type : Byte) : State :=
  s.takeFrame l type fun t => (t, .refused .unknownRequest .none)

/-- A checked frame whose length does not agree with its type completes on link l (R161). -/
def State.serveMalformed (s : State) (l : LinkId) (type : Byte) : State :=
  s.takeFrame l type fun t => (t, .refused .malformed .none)

end Sys2Proof.Machine
end

