-- ==== Sys2Proof/Machine/Receive.lean ====
section
/-! DEFINITION. Characters, frames, breaks and replies on a link (R157 to R160, R166). During the reset hold every link is
deaf (R165). -/

namespace Sys2Proof.Machine

/-- A link is changed, unless the part is in its reset hold. -/
def State.onLink (s : State) (l : LinkId) (f : Link → Link) : State :=
  if s.resetHold.isSome = true then s else s.setLink l (f (s.link l))

/-! ### Frame assembly -/

/-- The assembly takes a character: the assembly after it, and the bytes of a frame that is complete, from its length byte
to its second check byte (R158). -/
def Assembly.receive (c : Byte) : Assembly → Assembly × Option (List Byte)
  | .lead => (if c = Config.leadByte then .length else .lead, none)
  | .length => (if c = 0 ∨ 250 < c.toNat then .lead else .gather c [], none)
  | .gather len got =>
    if got.length + 1 < len.toNat + 2 then (.gather len (got ++ [c]), none) else (.lead, some (len :: (got ++ [c])))

/-- The counted bytes of a complete frame and its check bytes agree (R158). -/
def frameChecks (bytes : List Byte) : Bool :=
  let n := bytes.length - 2
  decide (bytes.drop n = halfBytes (crc16 (bytes.take n)))

/-- The type and payload bytes of a complete frame. -/
def frameBody (bytes : List Byte) : List Byte := (bytes.take (bytes.length - 2)).drop 1

/-- The type byte of a type and payload. -/
def bodyType (body : List Byte) : Byte := body.headD 0

/-- A checked frame is judged and dispatched (R160, R161). -/
def State.dispatch (s : State) (l : LinkId) (body : List Byte) : State :=
  match parse body with
  | .unknown => s.serveUnknown l (bodyType body)
  | .malformed type => s.serveMalformed l type
  | .request r => s.serve l r

/-- CHARACTER_RECEIVED (R157, R158): a character passes to the frame assembly; a frame it completes is checked, and taken if
its check passes. -/
def State.character (s : State) (l : LinkId) (c : Byte) : State :=
  if s.receives l = true then
    let r := (s.link l).asm.receive c
    let t := s.setLink l { s.link l with asm := r.1 }
    match r.2 with
    | none => t
    | some bytes => if frameChecks bytes = true then t.dispatch l (frameBody bytes) else t
  else s

/-- The receiver drops what it was receiving and looks for a lead byte (R158). -/
def Link.dropFrame (k : Link) : Link := { k with asm := .lead }

/-- FRAME_CHECK_FAILED (R158): the frame is discarded and leaves no state behind. -/
def State.checkFailed (s : State) (l : LinkId) : State := s.onLink l Link.dropFrame

/-- FRAME_DISCARDED_BUSY (R160): a checked frame completes on a busy link and is discarded. On a link that is not busy there
is no such frame (log 28). -/
def State.discardedBusy (s : State) (l : LinkId) : State :=
  if (s.link l).inFlight.isSome = true then s.onLink l Link.dropFrame else s

/-- FRAME_GAP_TIMEOUT (R158): the frame under reception is discarded. -/
def State.gapTimeout (s : State) (l : LinkId) : State := s.onLink l Link.dropFrame

/-- The receiver waits for the line to return high, the frame under reception dropped (R157, R159). -/
def Link.awaitHigh (k : Link) : Link := { k with rx := .waitHigh, asm := .lead }

/-- FRAMING_ERROR (R157). -/
def State.framingError (s : State) (l : LinkId) : State := s.onLink l Link.awaitHigh

/-- LINE_RETURNS_HIGH (R157, R159): the receiver hunts again. -/
def State.lineHigh (s : State) (l : LinkId) : State := s.onLink l fun k => { k with rx := .hunting }

/-! ### Replies -/

/-- The reply of the link begins (R160). -/
def Link.beginReply (k : Link) : Link := { k with inFlight := k.inFlight.map fun f : InFlight => { f with begun := true } }

/-- REPLY_BEGIN (R160). -/
def State.replyBegin (s : State) (l : LinkId) : State := s.onLink l Link.beginReply

/-- The causes a reply carried: those of a STATUS (R162). -/
def carriedCauses : Reply → AttSet
  | .accepted (.headStatus v) => v.attention
  | .accepted (.cellStatus v) => v.attention
  | .accepted _ => AttSet.empty
  | .wait _ _ => AttSet.empty
  | .refused _ _ => AttSet.empty
  | .already _ _ _ => AttSet.empty

/-- The reply answers an accepted RESET (R166). -/
def InFlight.resets (f : InFlight) : Bool := decide (f.request = requestCode .reset) && decide (f.reply = .accepted .none)

/-- The link is no longer busy with reply f; an accepted RESET's hold begins (R166). -/
def State.replyGone (s : State) (l : LinkId) (f : InFlight) : State :=
  let t := s.setLink l { s.link l with inFlight := none }
  if f.resets = true then t.warmReset .command else t

/-- A reply not yet begun is cancelled: the causes it carried go back into the set, joined with any raised since (R162). -/
def State.cancelReply (s : State) (l : LinkId) (f : InFlight) : State := (s.raise l (carriedCauses f.reply)).replyGone l f

/-- REPLY_COMPLETE (R160, R166): the last stop bit of a reply that has begun is sent. -/
def State.replyComplete (s : State) (l : LinkId) : State :=
  match (s.link l).inFlight with
  | none => s
  | some f => if s.resetHold.isNone && f.begun then s.replyGone l f else s

/-- BREAK (R159): the frame under reception is discarded, a reply taken but not begun is cancelled, and the receiver waits
for the line to return high. -/
def State.lineBreak (s : State) (l : LinkId) : State :=
  if s.resetHold.isSome = true then s
  else
    let t := s.setLink l (s.link l).awaitHigh
    match (s.link l).inFlight with
    | none => t
    | some f => if f.begun then t else t.cancelReply l f

end Sys2Proof.Machine
end

