-- ==== Sys2Proof/Machine/LinkCommands.lean ====
section
/-! DEFINITION. The meanings of the link event rows (R157 to R160). -/

namespace Sys2Proof.Machine

/-- FRAME_CHECK_FAILED (R158). -/
def execFrameCheckFailed (l : LinkId) (s : State) : Host.Outcome State Fault Refusal := .next (s.checkFailed l)

/-- FRAME_DISCARDED_BUSY (R160). -/
def execFrameDiscardedBusy (l : LinkId) (s : State) : Host.Outcome State Fault Refusal := .next (s.discardedBusy l)

/-- FRAMING_ERROR (R157). -/
def execFramingError (l : LinkId) (s : State) : Host.Outcome State Fault Refusal := .next (s.framingError l)

/-- FRAME_GAP_TIMEOUT (R158). -/
def execFrameGapTimeout (l : LinkId) (s : State) : Host.Outcome State Fault Refusal := .next (s.gapTimeout l)

/-- BREAK (R159). -/
def execBreakDetected (l : LinkId) (s : State) : Host.Outcome State Fault Refusal := .next (s.lineBreak l)

/-- REPLY_BEGIN (R160). -/
def execReplyBegin (l : LinkId) (s : State) : Host.Outcome State Fault Refusal := .next (s.replyBegin l)

/-- REPLY_COMPLETE (R160, R166). -/
def execReplyComplete (l : LinkId) (s : State) : Host.Outcome State Fault Refusal := .next (s.replyComplete l)

/-- CHARACTER_RECEIVED (R157, R158). -/
def execCharacterReceived (l : LinkId) (c : Byte) (s : State) : Host.Outcome State Fault Refusal :=
  .next (s.character l c)

/-- LINE_RETURNS_HIGH (R157, R159). -/
def execLineReturnsHigh (l : LinkId) (s : State) : Host.Outcome State Fault Refusal := .next (s.lineHigh l)

end Sys2Proof.Machine
end

