-- ==== Sys2Proof/Machine/Pulses.lean ====
section
/-! DEFINITION. An index pulse (R110): the time before it, in which the stroke watch may run out (R120), and the work on the
stroke it ends (R124). -/

namespace Sys2Proof.Machine

/-- `d` microseconds pass without an accepted pulse of head h. A stroke watch that runs out on the way is STROKE-LOST at its
own moment, and in REPORT mode it starts afresh and may run out again (R111, R120). Each expiry but the first takes some of
the time, so that `fuel` of `d` is enough. -/
def State.awaitPulse (h : HeadId) : Nat → Nat → State → State
  | 0, d, s => s.elapse d
  | fuel + 1, d, s =>
    match (s.head h).blade.watchLeft with
    | none => s.elapse d
    | some left =>
      if (s.head h).blade.st.accepts = true ∧ left < d then State.awaitPulse h fuel (d - left) (s.strokeWatchExpiry h)
      else s.elapse d

/-- The state in which an index pulse arrives. -/
def State.beforePulse (s : State) (h : HeadId) (p : Pulse) : State := State.awaitPulse h p.after p.after s

/-- What an index pulse brings about, after the time before it has passed (R110): nothing where the channel disregards or
blanks it. -/
def State.pulseEvents (s : State) (h : HeadId) (p : Pulse) : StrokeEvents :=
  let hd := (s.beforePulse h p).head h
  let c := hd.blade.addSamples p.samples
  if hd.blade.st.accepts && !c.blanks then
    (({ hd with blade := c }).pulseWork (Config.noSampleAverage s.free).toNat (Config.noSamplePeak s.free).toNat).2
  else StrokeEvents.none

/-- The state after an index pulse (R110, R124): time passes; a channel in STOPPED, RETRY-WAIT or FAULTED disregards
it; a blanked pulse leaves its samples to the stroke; an accepted one is worked. A stroke without samples uses up a
free value. -/
def State.pulse (s : State) (h : HeadId) (p : Pulse) : State :=
  let s1 := s.beforePulse h p
  let hd := s1.head h
  let c := hd.blade.addSamples p.samples
  if hd.blade.st.accepts = false then s1
  else if c.blanks = true then s1.setBlade h c
  else
    let r := ({ hd with blade := c }).pulseWork (Config.noSampleAverage s.free).toNat (Config.noSamplePeak s.free).toNat
    let s2 := { s1 with free := if hd.blade.pulseSeen && decide (c.sampleCount = 0) then s.free + 1 else s.free }
    State.closeEvent s1 (State.bladeNews h r.2.ready r.2.bladeFault (s2.setBlade h r.1))

end Sys2Proof.Machine
end

