-- ==== Sys2Proof/Machine/PulseCommands.lean ====
section
/-! DEFINITION. The meanings of the index pulse rows. INDEX_PULSE is any edge of the stroke index; the other rows name what
a pulse brings about, and carry the pulse that does (log 5): a pulse that does not is none of theirs (log 28). -/

namespace Sys2Proof.Machine

/-- An index pulse that brings about what `what` looks for (log 5). -/
def State.pulseThat (what : StrokeEvents → Bool) (s : State) (h : HeadId) (p : Pulse) : State :=
  if what (s.pulseEvents h p) = true then s.pulse h p else s

/-- INDEX_PULSE (R110). -/
def execIndexPulse (h : HeadId) (p : Pulse) (s : State) : Host.Outcome State Fault Refusal := .next (s.pulse h p)

/-- SPINUP_STEP_COMPLETE (R107). -/
def execSpinupStepComplete (h : HeadId) (p : Pulse) (s : State) : Host.Outcome State Fault Refusal :=
  .next (State.pulseThat StrokeEvents.stepDone s h p)

/-- LOCK_ON (R112). -/
def execLockOn (h : HeadId) (p : Pulse) (s : State) : Host.Outcome State Fault Refusal :=
  .next (State.pulseThat StrokeEvents.lockOn s h p)

/-- NO_SETTLE (R120). -/
def execNoSettle (h : HeadId) (p : Pulse) (s : State) : Host.Outcome State Fault Refusal :=
  .next (State.pulseThat StrokeEvents.noSettle s h p)

/-- TRIM_STEP_DOWN (R114). -/
def execTrimStepDown (h : HeadId) (p : Pulse) (s : State) : Host.Outcome State Fault Refusal :=
  .next (State.pulseThat StrokeEvents.trimDown s h p)

/-- TRIM_STEP_UP (R114). -/
def execTrimStepUp (h : HeadId) (p : Pulse) (s : State) : Host.Outcome State Fault Refusal :=
  .next (State.pulseThat StrokeEvents.trimUp s h p)

/-- RELIEF_PAUSE_END (R115). -/
def execReliefPauseEnd (h : HeadId) (p : Pulse) (s : State) : Host.Outcome State Fault Refusal :=
  .next (State.pulseThat StrokeEvents.pauseEnd s h p)

/-- OVERLOAD (R122). -/
def execOverload (h : HeadId) (p : Pulse) (s : State) : Host.Outcome State Fault Refusal :=
  .next (State.pulseThat StrokeEvents.overload s h p)

/-- BLADE_MISSING (R123). -/
def execBladeMissing (h : HeadId) (p : Pulse) (s : State) : Host.Outcome State Fault Refusal :=
  .next (State.pulseThat StrokeEvents.missing s h p)

/-- CLEAN_RUN_COMPLETE (R127). -/
def execCleanRunComplete (h : HeadId) (p : Pulse) (s : State) : Host.Outcome State Fault Refusal :=
  .next (State.pulseThat StrokeEvents.clean s h p)

end Sys2Proof.Machine
end

