-- ==== Sys2Proof/Machine/RequestCommands.lean ====
section
/-! DEFINITION. The meanings of the request rows: each is a checked frame that completes on a link (R160, R161, log 4). -/

namespace Sys2Proof.Machine

/-- STATUS (R143, R163). -/
def execStatus (l : LinkId) (s : State) : Host.Outcome State Fault Refusal := .next (s.serve l .status)

/-- IDENT (R164). -/
def execIdent (l : LinkId) (s : State) : Host.Outcome State Fault Refusal := .next (s.serve l .ident)

/-- HEAD_READ (R118). -/
def execHeadRead (l : LinkId) (head : Byte) (s : State) : Host.Outcome State Fault Refusal :=
  .next (s.serve l (.headRead head))

/-- PIECE_READ (R151). -/
def execPieceRead (l : LinkId) (id : Option Byte) (s : State) : Host.Outcome State Fault Refusal :=
  .next (s.serve l (.pieceRead id))

/-- SEGMENT (R24, R36). -/
def execSegment (l : LinkId) (r : SegmentReq) (s : State) : Host.Outcome State Fault Refusal :=
  .next (s.serve l (.segment r))

/-- FLUSH (R39). -/
def execFlush (l : LinkId) (s : State) : Host.Outcome State Fault Refusal := .next (s.serve l .flush)

/-- GRANT (R66 to R71). -/
def execGrant (l : LinkId) (s : State) : Host.Outcome State Fault Refusal := .next (s.serve l .grant)

/-- DONE (R76, R77). -/
def execDone (l : LinkId) (n : Half) (s : State) : Host.Outcome State Fault Refusal := .next (s.serve l (.done n))

/-- BLOCK_LOAD (R7, R8). -/
def execBlockLoad (l : LinkId) (layers : List LayerReq) (label : Option Long) (s : State) :
    Host.Outcome State Fault Refusal :=
  .next (s.serve l (.blockLoad layers label))

/-- OPEN (R9, R10). -/
def execOpenJob (l : LinkId) (homeA homeB : PointReq) (s : State) : Host.Outcome State Fault Refusal :=
  .next (s.serve l (.openJob homeA homeB))

/-- CLOSE (R11). -/
def execClose (l : LinkId) (s : State) : Host.Outcome State Fault Refusal := .next (s.serve l .close)

/-- ABORT (R13 to R16). -/
def execAbort (l : LinkId) (s : State) : Host.Outcome State Fault Refusal := .next (s.serve l .abort)

/-- CLASS_SET (R6). -/
def execClassSet (l : LinkId) (cls coef : Byte) (s : State) : Host.Outcome State Fault Refusal :=
  .next (s.serve l (.classSet cls coef))

/-- CUT_SET (R43). -/
def execCutSet (l : LinkId) (sel : Byte) (p : CutReq) (s : State) : Host.Outcome State Fault Refusal :=
  .next (s.serve l (.cutSet sel p))

/-- BED_SET (R63). -/
def execBedSet (l : LinkId) (separation : Half) (parkA parkB : PointReq) (s : State) :
    Host.Outcome State Fault Refusal :=
  .next (s.serve l (.bedSet separation parkA parkB))

/-- ZONE_SET (R84). -/
def execZoneSet (l : LinkId) (p : ZoneSetReq) (s : State) : Host.Outcome State Fault Refusal :=
  .next (s.serve l (.zoneSet p))

/-- BLADE_SET (R102). -/
def execBladeSet (l : LinkId) (sel : Byte) (p : BladeReq) (s : State) : Host.Outcome State Fault Refusal :=
  .next (s.serve l (.bladeSet sel p))

/-- GUARD_SET (R126). -/
def execGuardSet (l : LinkId) (sel : Byte) (p : GuardReq) (s : State) : Host.Outcome State Fault Refusal :=
  .next (s.serve l (.guardSet sel p))

/-- PIECE_DECLARE (R146). -/
def execPieceDeclare (l : LinkId) (p : PieceReq) (s : State) : Host.Outcome State Fault Refusal :=
  .next (s.serve l (.pieceDeclare p))

/-- TAKE (R150). -/
def execTake (l : LinkId) (id : Byte) (s : State) : Host.Outcome State Fault Refusal := .next (s.serve l (.take id))

/-- RELEASE (R79, R80). -/
def execRelease (l : LinkId) (head : Byte) (point : PointReq) (s : State) : Host.Outcome State Fault Refusal :=
  .next (s.serve l (.release head point))

/-- HOLD (R135). -/
def execHold (l : LinkId) (sel : Byte) (s : State) : Host.Outcome State Fault Refusal := .next (s.serve l (.hold sel))

/-- RESUME (R135). -/
def execResume (l : LinkId) (sel : Byte) (s : State) : Host.Outcome State Fault Refusal :=
  .next (s.serve l (.resume sel))

/-- SERVICE_OUT: SERVICE with direction OUT (R139, R140, log 14). -/
def execServiceOut (l : LinkId) (head : Byte) (s : State) : Host.Outcome State Fault Refusal :=
  .next (s.serve l (.service head 1))

/-- SERVICE_IN: SERVICE with direction IN (R139, R141, log 14). -/
def execServiceIn (l : LinkId) (head : Byte) (s : State) : Host.Outcome State Fault Refusal :=
  .next (s.serve l (.service head 0))

/-- FAULT_CLEAR (R129). -/
def execFaultClear (l : LinkId) (head : Byte) (s : State) : Host.Outcome State Fault Refusal :=
  .next (s.serve l (.faultClear head))

/-- ZONE_CLEAR (R94). -/
def execZoneClear (l : LinkId) (zone : Byte) (s : State) : Host.Outcome State Fault Refusal :=
  .next (s.serve l (.zoneClear zone))

/-- ZONE_READ (R97). -/
def execZoneRead (l : LinkId) (s : State) : Host.Outcome State Fault Refusal := .next (s.serve l .zoneRead)

/-- RESET (R166): the reply is taken; the hold begins when it has gone. -/
def execReset (l : LinkId) (s : State) : Host.Outcome State Fault Refusal := .next (s.serve l .reset)

/-- UNKNOWN_REQUEST (R161): a checked frame whose type is no request type of the part. A type of Table 11-1 is none of
these, and such a command changes nothing (log 28). -/
def execUnknownRequest (l : LinkId) (type : Byte) (s : State) : Host.Outcome State Fault Refusal :=
  .next (if requestCodes.contains type = true then s else s.serveUnknown l type)

end Sys2Proof.Machine
end

