-- ==== Sys2Proof/Machine/Dispatch.lean ====
section
/-! DEFINITION. The effect of every command on the state: one arm per row of spec/opcode_table.json. -/

namespace Sys2Proof.Machine

def exec (i : Instr) (s : State) : Host.Outcome State Fault Refusal :=
  match i with
  | .status l => Sys2Proof.Machine.execStatus l s
  | .ident l => Sys2Proof.Machine.execIdent l s
  | .headRead l head => Sys2Proof.Machine.execHeadRead l head s
  | .pieceRead l id => Sys2Proof.Machine.execPieceRead l id s
  | .segment l r => Sys2Proof.Machine.execSegment l r s
  | .flush l => Sys2Proof.Machine.execFlush l s
  | .grant l => Sys2Proof.Machine.execGrant l s
  | .done l n => Sys2Proof.Machine.execDone l n s
  | .blockLoad l layers label => Sys2Proof.Machine.execBlockLoad l layers label s
  | .openJob l homeA homeB => Sys2Proof.Machine.execOpenJob l homeA homeB s
  | .close l => Sys2Proof.Machine.execClose l s
  | .abort l => Sys2Proof.Machine.execAbort l s
  | .classSet l cls coef => Sys2Proof.Machine.execClassSet l cls coef s
  | .cutSet l sel p => Sys2Proof.Machine.execCutSet l sel p s
  | .bedSet l separation parkA parkB => Sys2Proof.Machine.execBedSet l separation parkA parkB s
  | .zoneSet l p => Sys2Proof.Machine.execZoneSet l p s
  | .bladeSet l sel p => Sys2Proof.Machine.execBladeSet l sel p s
  | .guardSet l sel p => Sys2Proof.Machine.execGuardSet l sel p s
  | .pieceDeclare l p => Sys2Proof.Machine.execPieceDeclare l p s
  | .take l id => Sys2Proof.Machine.execTake l id s
  | .release l head point => Sys2Proof.Machine.execRelease l head point s
  | .hold l sel => Sys2Proof.Machine.execHold l sel s
  | .resume l sel => Sys2Proof.Machine.execResume l sel s
  | .serviceOut l head => Sys2Proof.Machine.execServiceOut l head s
  | .serviceIn l head => Sys2Proof.Machine.execServiceIn l head s
  | .faultClear l head => Sys2Proof.Machine.execFaultClear l head s
  | .zoneClear l zone => Sys2Proof.Machine.execZoneClear l zone s
  | .zoneRead l => Sys2Proof.Machine.execZoneRead l s
  | .reset l => Sys2Proof.Machine.execReset l s
  | .unknownRequest l type => Sys2Proof.Machine.execUnknownRequest l type s
  | .frameCheckFailed l => Sys2Proof.Machine.execFrameCheckFailed l s
  | .frameDiscardedBusy l => Sys2Proof.Machine.execFrameDiscardedBusy l s
  | .framingError l => Sys2Proof.Machine.execFramingError l s
  | .frameGapTimeout l => Sys2Proof.Machine.execFrameGapTimeout l s
  | .breakDetected l => Sys2Proof.Machine.execBreakDetected l s
  | .replyBegin l => Sys2Proof.Machine.execReplyBegin l s
  | .replyComplete l => Sys2Proof.Machine.execReplyComplete l s
  | .powerOn => Sys2Proof.Machine.execPowerOn s
  | .nresetTaken => Sys2Proof.Machine.execNresetTaken s
  | .resetHoldEnd lrate1 lrate0 => Sys2Proof.Machine.execResetHoldEnd lrate1 lrate0 s
  | .overdueExpiry h => Sys2Proof.Machine.execOverdueExpiry h s
  | .idleDelayExpiry h => Sys2Proof.Machine.execIdleDelayExpiry h s
  | .stopDelayExpiry h => Sys2Proof.Machine.execStopDelayExpiry h s
  | .pullTimeout zone => Sys2Proof.Machine.execPullTimeout zone s
  | .pressureGood zone => Sys2Proof.Machine.execPressureGood zone s
  | .pressureLoss zone => Sys2Proof.Machine.execPressureLoss zone s
  | .pendingRequestLapse h => Sys2Proof.Machine.execPendingRequestLapse h s
  | .budgetMarkExpiry => Sys2Proof.Machine.execBudgetMarkExpiry s
  | .retryTimeExpiry h => Sys2Proof.Machine.execRetryTimeExpiry h s
  | .strokeWatchExpiry h => Sys2Proof.Machine.execStrokeWatchExpiry h s
  | .indexPulse h p => Sys2Proof.Machine.execIndexPulse h p s
  | .spinupStepComplete h p => Sys2Proof.Machine.execSpinupStepComplete h p s
  | .lockOn h p => Sys2Proof.Machine.execLockOn h p s
  | .noSettle h p => Sys2Proof.Machine.execNoSettle h p s
  | .trimStepDown h p => Sys2Proof.Machine.execTrimStepDown h p s
  | .trimStepUp h p => Sys2Proof.Machine.execTrimStepUp h p s
  | .reliefPauseEnd h p => Sys2Proof.Machine.execReliefPauseEnd h p s
  | .overload h p => Sys2Proof.Machine.execOverload h p s
  | .bladeMissing h p => Sys2Proof.Machine.execBladeMissing h p s
  | .cleanRunComplete h p => Sys2Proof.Machine.execCleanRunComplete h p s
  | .characterReceived l c => Sys2Proof.Machine.execCharacterReceived l c s
  | .lineReturnsHigh l => Sys2Proof.Machine.execLineReturnsHigh l s

end Sys2Proof.Machine
end

