-- ==== Sys2Proof/Machine/Idle.lean ====
section
/-! DEFINITION. What the block does when no command waits: a microsecond passes, and an expiry or a change of pressure that is due
joins the queue (log 1). Of several that are due at once the one taken first is a free value (log 3). -/

namespace Sys2Proof.Machine

/-- The command, if a timer is due. -/
def dueIf (timer : Option Nat) (c : Instr) : List Instr := if timer = some 0 then [c] else []

/-- The expiries of a head that are due. -/
def State.dueOf (s : State) (h : HeadId) : List Instr :=
  let hd := s.head h
  dueIf hd.overdue.left (.overdueExpiry h) ++ dueIf hd.blade.idleTimer (.idleDelayExpiry h) ++
    dueIf hd.blade.stopTimer (.stopDelayExpiry h) ++ dueIf hd.lapse (.pendingRequestLapse h) ++
    dueIf hd.blade.retryTimer (.retryTimeExpiry h) ++ dueIf hd.blade.watchLeft (.strokeWatchExpiry h)

/-- The pressure row of zone k, if its input has read the other level for the deglitch time (R85). -/
def State.duePressure (s : State) (k : Fin 16) : List Instr :=
  if s.resetHold.isNone && decide (s.changeIn k.val = some 0) then
    [if (s.zone k.val).good then .pressureLoss ⟨k, []⟩ else .pressureGood ⟨k, []⟩]
  else []

/-- The expiries and the changes of pressure that are due. -/
def State.due (s : State) : List Instr :=
  s.dueOf .a ++ s.dueOf .b ++ dueIf (s.mark.map Mark.left) .budgetMarkExpiry ++
    (List.finRange 16).flatMap fun k => dueIf (s.zone k.val).pullLeft (.pullTimeout k) ++ s.duePressure k

/-- The idle step (log 1). -/
def State.idle (s : State) : State :=
  match s.due with
  | [] => s.elapse 1
  | c :: cs =>
    { s with
      pending := [(c :: cs).getD (Config.tieBreak s.free % (c :: cs).length) c]
      free := s.free + 1 }

end Sys2Proof.Machine
end

