-- ==== Sys2Proof/Safety.lean ====
section
/-! DEFINITION. What the manual says holds at every moment, as predicates of a state: the separation of the gantries, the
vacuum budget, the zone need, the limits of trim and retries, the order of the queues, the piece table, the settings, the
demand, the feed hold, the overdue timer, the lapse timer and the attention sets. -/

namespace Sys2Proof.Machine

/-! ### Windows and queues -/

/-- No job is open, so no window holds an entry (R2, R12, R14, R38). -/
def NoWorkOutsideJob (s : State) : Prop :=
  s.job.state.isOpen = false → s.heads.a.window = [] ∧ s.heads.b.window = []

/-- The end point of a segment lies within its X span, as check 6 asks (R30). -/
def Segment.EndsInSpan (g : Segment) : Prop := g.xlo ≤ g.last.x ∧ g.last.x ≤ g.xhi

/-- Every segment of the head's queue and window ends within its span. -/
def Head.EndsInSpan (hd : Head) : Prop :=
  (∀ w ∈ hd.window, w.entry.seg.EndsInSpan) ∧ (∀ e ∈ hd.queue, e.seg.EndsInSpan)

/-- The window holds at most four entries (R64), and queue and window together at most 32 (R27). -/
def Head.WithinCapacity (hd : Head) : Prop := hd.window.length ≤ 4 ∧ hd.queue.length + hd.window.length ≤ 32

/-- The sequence numbers of the window and then the queue ascend (R37), from 1 to below the next expected number, which is
at most 65536 (R19). -/
def Head.InOrder (hd : Head) : Prop :=
  hd.numbers.Pairwise (· < ·) ∧ (∀ n ∈ hd.numbers, 1 ≤ n ∧ n < hd.nextSeq) ∧ 1 ≤ hd.nextSeq ∧ hd.nextSeq ≤ 65536

/-! ### The gantries -/

/-- The head's claim is the hull of its standing X and the spans of its window (R60). -/
def Head.ClaimIsHull (hd : Head) : Prop := hd.claim = hull hd.standing hd.windowSegs

/-- A head out of service stands at its park point with an empty window (R59, R139). -/
def State.ParkedWhenOut (s : State) (h : HeadId) : Prop :=
  (s.head h).inService = false → (s.head h).window = [] ∧ (s.head h).standing = s.park h

/-- The claim of head A ends at least the separation before the claim of head B begins (R61). -/
def GantriesApart (s : State) : Prop := s.heads.a.claim.hi + s.bed.separation ≤ s.heads.b.claim.lo

/-- The separation with what keeps it: claims are hulls, segments end in their spans, no window entry without an open job,
and a head out of service is parked. -/
def ClearanceKept (s : State) : Prop :=
  GantriesApart s ∧ NoWorkOutsideJob s ∧
    ∀ h, (s.head h).ClaimIsHull ∧ (s.head h).EndsInSpan ∧ s.ParkedWhenOut h

/-! ### The zones -/

/-- The active count is within the budget (R89). -/
def WithinBudget (s : State) : Prop := s.activeCount ≤ s.zoneSettings.budget

/-- There are sixteen zones, and every zone that is on is needed (R83, R86). -/
def OnZonesNeeded (s : State) : Prop :=
  NoWorkOutsideJob s ∧ s.zones.length = Config.zoneCount ∧
    ∀ k < Config.zoneCount, (s.zone k).st.on = true → s.needed k = true

/-- A head's lapse timer runs exactly while its pending request is present and every zone of it is HELD (R88). -/
def State.LapseRunsWhenHeld (s : State) (h : HeadId) : Prop :=
  (s.head h).lapse.isSome = (match (s.head h).pendingReq with
    | none => false
    | some r => s.allHeld r)

/-! ### The blades -/

/-- The trim lies from 4 to 16 (R49, R114). -/
def Channel.TrimInRange (c : Channel) : Prop := 4 ≤ c.trim ∧ c.trim ≤ 16

/-- The retry count is within the retry limit (R127), and is at most 255. -/
def Head.RetriesWithinLimit (hd : Head) : Prop :=
  match hd.guard.retryLimit with
  | .upTo n => hd.blade.retries ≤ n
  | .unlimited => hd.blade.retries ≤ 255

/-- The demand is the one its cases give (R103), a channel whose demand is OFF does not run (R109), and the stop-delay timer
runs only while an open job has the head in service and the CUT condition does not hold (R105). -/
def State.DemandFollows (s : State) (h : HeadId) : Prop :=
  (s.head h).blade.demand = (s.head h).demandOf s.job.state.isOpen ∧
    ((s.head h).blade.demand = .off → (s.head h).blade.st.accepts = false) ∧
    ((s.head h).blade.stopTimer.isSome = true → (s.head h).standsBy s.job.state.isOpen = true)

/-- The commanded rate is 0 in the three states in which the drive is off (R99, R100). -/
def Head.CommandedWhenOn (hd : Head) : Prop := hd.blade.st.accepts = false → hd.blade.commanded = 0

/-- In SPINUP, SETTLING and RUN the commanded rate lies from 300 spm to the head's f_cut (R100). -/
def Head.RateInRange (hd : Head) : Prop :=
  hd.blade.st.accepts = true → 300 ≤ hd.blade.commanded ∧ hd.blade.commanded ≤ hd.bladeParams.fCut

/-- The run counts of a channel are 0 where no stroke can have counted: the trim and relief counts out of RUN at CUT (R114
to R116), the missing run count in the off states and where BLADE-MISSING is not tested (R119), and all of them in RUN before
its first stroke has ended, which leaves a last RUN period (R121). -/
def Head.CountsFollow (hd : Head) : Prop :=
  (hd.blade.runAtCut = false → hd.blade.heavy = 0 ∧ hd.blade.light = 0 ∧ hd.blade.pause = 0 ∧ hd.blade.escalation = 0) ∧
    (hd.blade.st.accepts = false ∨ hd.guard.modes.bladeMissing = .ignore → hd.blade.missRun = 0) ∧
    (hd.blade.st = .run → hd.blade.lastRunPeriod = none →
      hd.blade.heavy = 0 ∧ hd.blade.light = 0 ∧ hd.blade.pause = 0 ∧ hd.blade.escalation = 0 ∧ hd.blade.missRun = 0 ∧
        hd.blade.cleanRun = 0)

/-- The settings of a head lie in their ranges (Tables 3-1, 6-1, 7-2). -/
def Head.SettingsInRange (hd : Head) : Prop :=
  hd.cut.inRange = true ∧ hd.bladeParams.inRange = true ∧ hd.guard.inRange = true

/-- The settings shared by both heads lie in their ranges (R62, R84). -/
def State.SettingsInRange (s : State) : Prop :=
  s.zoneSettings.inRange = true ∧ 2000 ≤ s.bed.separation ∧ s.bed.separation ≤ 20000 ∧
    inBed s.bed.parkA = true ∧ inBed s.bed.parkB = true ∧ s.heads.a.SettingsInRange ∧ s.heads.b.SettingsInRange

/-! ### The head supervisors -/

/-- The reason set is the one its owners' conditions give (Table 8-1). -/
def State.HoldFollows (s : State) (h : HeadId) : Prop := (s.head h).hold = s.holdNow h

/-- The overdue timer is STOPPED exactly when the window is empty or OVERDUE stands; otherwise it times the oldest entry's
allowance, COUNTING while the line is released and PAUSED while it is asserted; OVERDUE stands only over a window entry
(R82, R136, R137). -/
def Head.OverdueFollows (hd : Head) : Prop :=
  match hd.window with
  | [] => hd.overdue.st = .stopped ∧ hd.hold.overdue = false
  | w :: _ =>
    if hd.hold.overdue = true then hd.overdue.st = .stopped
    else
      hd.overdue.st = (if hd.hold.held then .paused else .counting) ∧
        hd.overdue.allowance = w.result.allowance * 1000 ∧ hd.overdue.elapsed ≤ hd.overdue.allowance

/-- A watched HEAD-HELD is a reason that stands (R74, R75). -/
def Head.WatchFollows (hd : Head) : Prop := hd.watch.reasons.headHeld = true → hd.hold.beyondBlade = true

/-- Both reason sets, both overdue timers and both watches follow their rules, and no window entry is there without an open
job. -/
def SupervisionKept (s : State) : Prop :=
  NoWorkOutsideJob s ∧ ∀ h, s.HoldFollows h ∧ (s.head h).OverdueFollows ∧ (s.head h).WatchFollows

/-- What the manual has re-worked at every event stands as it would be re-worked now: the reason set, the overdue timer, the
watch, the demand and the lapse timer of a head. Every state that a run reaches is so (Obligations.SupervisionIsKept,
BladesFollowTheirDemand, ZonesStayWithinNeedAndBudget). -/
def State.Steady (s : State) (h : HeadId) : Prop :=
  s.HoldFollows h ∧ (s.head h).OverdueFollows ∧ (s.head h).WatchFollows ∧ s.DemandFollows h ∧ s.LapseRunsWhenHeld h

/-! ### The piece table -/

/-- A piece record agrees with its state: one contributor for each credit, no more credits than required, all of them where
the piece is SEVERED or TAKEN, fewer where it is open, and none where it is DECLARED (R145 to R150). -/
def Piece.Consistent (p : Piece) : Prop :=
  p.contributors.length = p.edges ∧ p.edges ≤ p.required ∧ 1 ≤ p.id ∧ p.id ≤ 250 ∧ 1 ≤ p.required ∧ p.required ≤ 12 ∧
    p.lo ≤ p.hi ∧ p.hi ≤ Config.bedX ∧
    ((p.st = .severed ∨ p.st = .taken) → p.edges = p.required) ∧
    (p.isOpen = true → p.edges < p.required) ∧ (p.st = .declared → p.edges = 0)

/-- The piece table: at most 64 records, no two with one id, each consistent (R145). -/
def PieceTableKept (s : State) : Prop :=
  s.pieces.length ≤ 64 ∧ (s.pieces.map Piece.id).Nodup ∧ ∀ p ∈ s.pieces, p.Consistent

/-! ### The links -/

/-- Causes that a head link's set may hold (R162). -/
def AttSet.OfHeadLink (t : AttSet) : Prop := t.zoneFault = false ∧ t.pieceSevered = false ∧ t.restarted = false

/-- Causes that the cell link's set may hold (R162). -/
def AttSet.OfCellLink (t : AttSet) : Prop := t.waitCleared = false ∧ t.holdChanged = false

/-- The causes that the reply in progress of a link carries, which a break may put back (R162). -/
def Link.carried (k : Link) : AttSet :=
  match k.inFlight with
  | some f => carriedCauses f.reply
  | none => AttSet.empty

/-- Every link's set, and what its reply carries, holds only the causes R162 gives that link. -/
def AttentionKept (s : State) : Prop :=
  (∀ h, (s.link (.head h)).attention.OfHeadLink ∧ (s.link (.head h)).carried.OfHeadLink) ∧
    (s.link .cell).attention.OfCellLink ∧ (s.link .cell).carried.OfCellLink

/-! ### Frames -/

/-- The link a command comes from (Table 10-2, R157 to R160). -/
def linkOf : Instr → Option LinkId
  | .status l => some l
  | .ident l => some l
  | .headRead l _ => some l
  | .pieceRead l _ => some l
  | .segment l _ => some l
  | .flush l => some l
  | .grant l => some l
  | .done l _ => some l
  | .blockLoad l _ _ => some l
  | .openJob l _ _ => some l
  | .close l => some l
  | .abort l => some l
  | .classSet l _ _ => some l
  | .cutSet l _ _ => some l
  | .bedSet l _ _ _ => some l
  | .zoneSet l _ => some l
  | .bladeSet l _ _ => some l
  | .guardSet l _ _ => some l
  | .pieceDeclare l _ => some l
  | .take l _ => some l
  | .release l _ _ => some l
  | .hold l _ => some l
  | .resume l _ => some l
  | .serviceOut l _ => some l
  | .serviceIn l _ => some l
  | .faultClear l _ => some l
  | .zoneClear l _ => some l
  | .zoneRead l => some l
  | .reset l => some l
  | .unknownRequest l _ => some l
  | .frameCheckFailed l => some l
  | .frameDiscardedBusy l => some l
  | .framingError l => some l
  | .frameGapTimeout l => some l
  | .breakDetected l => some l
  | .replyBegin l => some l
  | .replyComplete l => some l
  | .characterReceived l _ => some l
  | .lineReturnsHigh l => some l
  | .powerOn | .nresetTaken | .resetHoldEnd _ _ | .overdueExpiry _ | .idleDelayExpiry _ | .stopDelayExpiry _
  | .pullTimeout _ | .pressureGood _ | .pressureLoss _ | .pendingRequestLapse _ | .budgetMarkExpiry
  | .retryTimeExpiry _ | .strokeWatchExpiry _ | .indexPulse _ _ | .spinupStepComplete _ _ | .lockOn _ _
  | .noSettle _ _ | .trimStepDown _ _ | .trimStepUp _ _ | .reliefPauseEnd _ _ | .overload _ _ | .bladeMissing _ _
  | .cleanRunComplete _ _ => none

/-- The request a request row carries, and its link (Table 10-2). -/
def requestOf : Instr → Option (LinkId × Request)
  | .status l => some (l, .status)
  | .ident l => some (l, .ident)
  | .headRead l head => some (l, .headRead head)
  | .pieceRead l id => some (l, .pieceRead id)
  | .segment l r => some (l, .segment r)
  | .flush l => some (l, .flush)
  | .grant l => some (l, .grant)
  | .done l n => some (l, .done n)
  | .blockLoad l layers label => some (l, .blockLoad layers label)
  | .openJob l homeA homeB => some (l, .openJob homeA homeB)
  | .close l => some (l, .close)
  | .abort l => some (l, .abort)
  | .classSet l cls coef => some (l, .classSet cls coef)
  | .cutSet l sel p => some (l, .cutSet sel p)
  | .bedSet l separation parkA parkB => some (l, .bedSet separation parkA parkB)
  | .zoneSet l p => some (l, .zoneSet p)
  | .bladeSet l sel p => some (l, .bladeSet sel p)
  | .guardSet l sel p => some (l, .guardSet sel p)
  | .pieceDeclare l p => some (l, .pieceDeclare p)
  | .take l id => some (l, .take id)
  | .release l head point => some (l, .release head point)
  | .hold l sel => some (l, .hold sel)
  | .resume l sel => some (l, .resume sel)
  | .serviceOut l head => some (l, .service head 1)
  | .serviceIn l head => some (l, .service head 0)
  | .faultClear l head => some (l, .faultClear head)
  | .zoneClear l zone => some (l, .zoneClear zone)
  | .zoneRead l => some (l, .zoneRead)
  | .reset l => some (l, .reset)
  | .unknownRequest _ _ | .frameCheckFailed _ | .frameDiscardedBusy _ | .framingError _ | .frameGapTimeout _
  | .breakDetected _ | .replyBegin _ | .replyComplete _ | .powerOn | .nresetTaken | .resetHoldEnd _ _
  | .overdueExpiry _ | .idleDelayExpiry _ | .stopDelayExpiry _ | .pullTimeout _ | .pressureGood _
  | .pressureLoss _ | .pendingRequestLapse _ | .budgetMarkExpiry | .retryTimeExpiry _ | .strokeWatchExpiry _
  | .indexPulse _ _ | .spinupStepComplete _ _ | .lockOn _ _ | .noSettle _ _ | .trimStepDown _ _ | .trimStepUp _ _
  | .reliefPauseEnd _ _ | .overload _ _ | .bladeMissing _ _ | .cleanRunComplete _ _ | .characterReceived _ _
  | .lineReturnsHigh _ => none

/-- The rows that carry an index pulse and the time before it, on the way of which the stroke watch may run out (log 2). -/
def CarriesPulse (c : Instr) : Prop :=
  ∃ h p, c = .indexPulse h p ∨ c = .spinupStepComplete h p ∨ c = .lockOn h p ∨ c = .noSettle h p ∨ c = .trimStepDown h p ∨
    c = .trimStepUp h p ∨ c = .reliefPauseEnd h p ∨ c = .overload h p ∨ c = .bladeMissing h p ∨ c = .cleanRunComplete h p

/-- What no event of a job touches: the queue of commands, the free values, the reset state, the rate, the bed, the zone
settings, the block's description, and the settings of both heads. -/
def SameSettings (s t : State) : Prop :=
  t.pending = s.pending ∧ t.free = s.free ∧ t.resetHold = s.resetHold ∧ t.lastCause = s.lastCause ∧ t.rate = s.rate ∧
    t.prs = s.prs ∧ t.bed = s.bed ∧ t.zoneSettings = s.zoneSettings ∧ t.job.stack = s.job.stack ∧ t.job.label = s.job.label ∧
    t.job.classes = s.job.classes ∧
    ∀ h, (t.head h).cut = (s.head h).cut ∧ (t.head h).bladeParams = (s.head h).bladeParams ∧
      (t.head h).guard = (s.head h).guard

/-- The zones and the budget mark are as they were. -/
def SameZones (s t : State) : Prop := t.zones = s.zones ∧ t.mark = s.mark

/-- The piece table is as it was. -/
def SamePieces (s t : State) : Prop := t.pieces = s.pieces ∧ t.retained = s.retained

/-- A head's numbering is as it was: next expected number, retired runs, history floor. -/
def SameNumbering (s t : State) (h : HeadId) : Prop :=
  (t.head h).nextSeq = (s.head h).nextSeq ∧ (t.head h).runs = (s.head h).runs ∧ (t.head h).floor = (s.head h).floor

/-- A head's place on the rail is as it was. -/
def SamePlace (s t : State) (h : HeadId) : Prop :=
  (t.head h).standing = (s.head h).standing ∧ (t.head h).claim = (s.head h).claim

/-- A head's path is as it was: queue, window, numbering, reference, place, service state. -/
def SamePath (s t : State) (h : HeadId) : Prop :=
  (t.head h).queue = (s.head h).queue ∧ (t.head h).window = (s.head h).window ∧ (t.head h).ref = (s.head h).ref ∧
    (t.head h).service = (s.head h).service ∧ SameNumbering s t h ∧ SamePlace s t h

/-- A link's receiver, assembly and reply are as they were; its attention set may have gained causes. -/
def SameLine (s t : State) (l : LinkId) : Prop :=
  (t.link l).rx = (s.link l).rx ∧ (t.link l).asm = (s.link l).asm ∧ (t.link l).inFlight = (s.link l).inFlight

/-- Of the attention causes, only those of `u` may have joined a set, and none has left one (R162). -/
def RaisesOnly (s t : State) (u : AttSet) : Prop :=
  ∀ l, (t.link l).attention.union (s.link l).attention = (t.link l).attention ∧
    ((s.link l).attention.union u).union (t.link l).attention = (s.link l).attention.union u

/-- The head is as it was, but for its wait watch, which an event of the other head may end (R60, R75). -/
def SameHead (s t : State) (h : HeadId) : Prop := t.head h = { s.head h with watch := (t.head h).watch }

/-- The zones that are on and are needed by no window entry, no pending request and no severed piece have gone OFF, and with
no zone to start again under a window entry the others are as they were (R86, R95). -/
def VentsUnneeded (s t : State) : Prop :=
  ∀ k < Config.zoneCount,
    t.zone k = if (s.zone k).st.on = true ∧ t.needed k = false then { s.zone k with st := .off, pull := none } else s.zone k

/-- No link's receiver, assembly or reply is touched: an event that is no link's. -/
def LinesQuiet (s t : State) : Prop := ∀ l, SameLine s t l

/-- Link l holds the reply to a request of that type, not yet begun, and looks for a lead byte; the lines of the other links
are as they were (R160). -/
def Answers (s t : State) (l : LinkId) (type : Byte) (reply : Reply) : Prop :=
  (t.link l).rx = (s.link l).rx ∧ (t.link l).asm = .lead ∧ (t.link l).inFlight = some ⟨type, reply, false⟩ ∧
    ∀ m, m ≠ l → SameLine s t m

/-- The state in which nothing but the buffer of link l has changed: it holds that reply (R160). -/
def State.answering (s : State) (l : LinkId) (type : Byte) (reply : Reply) : State :=
  s.setLink l { s.link l with asm := .lead, inFlight := some ⟨type, reply, false⟩ }

/-- The head is named by a selector: A, B or BOTH (11.1). -/
def Named (sel : Byte) (h : HeadId) : Prop := sel = 2 ∨ (sel = 0 ∧ h = .a) ∨ (sel = 1 ∧ h = .b)

/-- A number of a head lies in a WITHDRAWN run (R22, R23). -/
def Head.Withdrew (hd : Head) (n : Nat) : Prop := ∃ r ∈ hd.runs, r.fate = .withdrawn ∧ r.first ≤ n ∧ n ≤ r.last

/-- Claim `c` of head h would keep the separation from the other head's claim (R61, R67). -/
def State.Clear (s : State) (h : HeadId) (c : Claim) : Prop :=
  match h with
  | .a => c.hi + s.bed.separation ≤ s.heads.b.claim.lo
  | .b => s.heads.a.claim.hi + s.bed.separation ≤ c.lo

/-- A request type that the link does not take (Table 10-2): on a head link all but 01 to 04 and 10 to 13 hex, on the cell
link 10 to 13 hex. -/
def WrongLink (l : LinkId) (code : Byte) : Prop :=
  match l with
  | .head _ => code ∉ [0x01, 0x02, 0x03, 0x04, 0x10, 0x11, 0x12, 0x13]
  | .cell => code ∈ [0x10, 0x11, 0x12, 0x13]

/-- A reset begins with that command: power-on; the pin, outside a hold; or the end of the reply to RESET, sent or cancelled,
outside a hold (R165, R166). -/
def BeginsReset (s : State) : Instr → Option ResetCause
  | .powerOn => some .power
  | .nresetTaken => if s.resetHold.isSome = true then none else some .pin
  | .replyComplete l =>
    if s.resetHold = none ∧ (s.link l).inFlight = some ⟨0x3F, .accepted .none, true⟩ then some .command else none
  | .breakDetected l =>
    if s.resetHold = none ∧ (s.link l).inFlight = some ⟨0x3F, .accepted .none, false⟩ then some .command else none
  | _ => none

/-- The mark of head h is cleared for a reason after which it passes to the other head, if that head's watch holds ZONE-BUDGET
(R91). -/
def State.markPassed (s : State) (h : HeadId) : Option Mark :=
  match s.mark with
  | none => none
  | some m =>
    if m.holder = h then
      (if (s.head h.other).watch.reasons.zoneBudget = true then some ⟨h.other, 2000000⟩ else none)
    else some m

/-- No zone under a cutting window entry is OFF, so that no zone waits for the orphan restart (R95). -/
def NoOrphans (s : State) : Prop :=
  ∀ k < Config.zoneCount, s.heads.a.cutsOver k = true ∨ s.heads.b.cutsOver k = true → (s.zone k).st ≠ .off

/-- The drain that a request brings about when the job is CLOSING and nothing is left of it: the job is IDLE, both heads hold
NO-JOB, demand no blade, and have an empty watch and no pending request; the mark is cleared and no piece is open (R12). -/
def Drained (t : State) : Prop :=
  t.job.state = .idle ∧ t.mark = none ∧ (∀ p ∈ t.pieces, p.st ≠ .declared ∧ p.st ≠ .part) ∧
    ∀ h, (t.head h).hold.noJob = true ∧ (t.head h).blade.demand = .off ∧ (t.head h).blade.st.accepts = false ∧
      (t.head h).watch = Watch.empty ∧ (t.head h).pendingReq = none

/-! ### Frames of characters -/

/-- The length byte Table 11-1 requires of a type whose length is fixed. -/
def tableLength (type : Byte) : Option Nat :=
  match type.toNat with
  | 0x01 => some 1
  | 0x02 => some 1
  | 0x03 => some 2
  | 0x11 => some 1
  | 0x12 => some 1
  | 0x13 => some 3
  | 0x21 => some 9
  | 0x22 => some 1
  | 0x23 => some 1
  | 0x24 => some 3
  | 0x28 => some 19
  | 0x29 => some 11
  | 0x2A => some 7
  | 0x2B => some 24
  | 0x2C => some 22
  | 0x31 => some 2
  | 0x38 => some 6
  | 0x39 => some 2
  | 0x3A => some 2
  | 0x3B => some 3
  | 0x3C => some 2
  | 0x3D => some 2
  | 0x3E => some 1
  | 0x3F => some 1
  | _ => none

/-- So many steps, stopping at the first fault or refusal. -/
def runFor : Nat → State → Host.Outcome State Fault Refusal
  | 0, s => .next s
  | n + 1, s =>
    match step s with
    | .next t => runFor n t
    | .fault f => .fault f
    | .refused r => .refused r

/-- What the characters of the frame of a type and payload bring about, sent to link l one after the other (R157, R158). -/
def State.afterFrame (s : State) (l : LinkId) (body : List Byte) : Host.Outcome State Fault Refusal :=
  runFor (frameOf body).length { s with pending := (frameOf body).map (Instr.characterReceived l) }

/-- The type and payload do not agree in length: not the length of the table where it is fixed, and otherwise not the bytes
of any request (R161 test 2, R167). -/
def Misfit (type : Byte) (payload : List Byte) : Prop :=
  match tableLength type with
  | some n => payload.length + 1 ≠ n
  | none => ∀ r : Request, r.wf = true → requestBody r ≠ some (type :: payload)

/-! ### The bytes of fields -/

/-- A number in two bytes, the least significant first (11.1). -/
def twoBytes (n : Nat) : List Byte := [BitVec.ofNat 8 n, BitVec.ofNat 8 (n / 256)]

/-- A number in four bytes, the least significant first (11.1). -/
def fourBytes (n : Nat) : List Byte :=
  [BitVec.ofNat 8 n, BitVec.ofNat 8 (n / 256), BitVec.ofNat 8 (n / 65536), BitVec.ofNat 8 (n / 16777216)]

/-- A bit of a set byte (11.1). -/
def bitValue (b : Bool) (place : Nat) : Nat := if b = true then 2 ^ place else 0

/-! ### The checks of SEGMENT, in the manual's words -/

/-- A field of the SEGMENT lies outside its own range (R28, what is refused with BAD-VALUE). -/
def SegOutOfRange (r : SegmentReq) : Prop :=
  segKindOf r.kind = none ∨
    (∃ k, segKindOf r.kind = some k ∧
      (((k = .arcCw ∨ k = .arcCcw) ∧ r.radius.getD 0 = 0) ∨ ((k = .line ∨ k = .air) ∧ r.radius.isSome = true))) ∨
    3599 < r.entry.toNat ∨ 3599 < r.exit.toNat ∨ r.length = 0 ∨ r.xhi.toNat < r.xlo.toNat ∨
    ∃ t ∈ r.tags, t.toNat = 0 ∨ 250 < t.toNat

/-- A position of the SEGMENT lies off the bed (R28, what is refused with OUTSIDE-BED). -/
def SegOffBed (r : SegmentReq) : Prop :=
  31999 < r.first.x.toNat ∨ 20999 < r.first.y.toNat ∨ 31999 < r.last.x.toNat ∨ 20999 < r.last.y.toNat ∨
    31999 < r.xlo.toNat ∨ 31999 < r.xhi.toNat

/-- Checks 1 to 3 (R25 to R27). -/
def State.SegTaken (s : State) (h : HeadId) (g : Segment) : Prop :=
  s.job.state = .cutting ∧ (s.head h).service = .inService ∧ g.number = (s.head h).nextSeq ∧ 1 ≤ g.number ∧
    (s.head h).queue.length + (s.head h).window.length < 32

/-- Check 4 (R28): the field ranges and the bed. -/
def Segment.InRanges (g : Segment) : Prop :=
  (match g.kind with
    | .line => g.radius = none
    | .air => g.radius = none
    | .arcCw => ∃ r ∈ g.radius, 1 ≤ r
    | .arcCcw => ∃ r ∈ g.radius, 1 ≤ r) ∧
  g.entry ≤ 3599 ∧ g.exit ≤ 3599 ∧ 1 ≤ g.length ∧ g.xlo ≤ g.xhi ∧ (∀ t ∈ g.tags, 1 ≤ t ∧ t ≤ 250) ∧
  g.first.x ≤ 31999 ∧ g.first.y ≤ 20999 ∧ g.last.x ≤ 31999 ∧ g.last.y ≤ 20999 ∧ g.xhi ≤ 31999

/-- The kind is an arc. -/
def Segment.Arc (g : Segment) : Prop := g.kind = .arcCw ∨ g.kind = .arcCcw

/-- Checks 5 and 6 (R29, R30). -/
def Head.SegPlaced (hd : Head) (g : Segment) : Prop :=
  g.first = hd.ref.point ∧
    (g.Arc → g.xlo ≤ g.first.x ∧ g.first.x ≤ g.xhi ∧ g.xlo ≤ g.last.x ∧ g.last.x ≤ g.xhi ∧
      g.xhi - g.xlo ≤ 2 * g.radius.getD 0) ∧
    (¬ g.Arc → g.xlo = min g.first.x g.last.x ∧ g.xhi = max g.first.x g.last.x)

/-- Check 7 (R31). -/
def Segment.OneHeading (g : Segment) : Prop := ¬ g.Arc → g.entry = g.exit

/-- Check 8 (R32): the length lies from the greater of the point differences to their sum, or on an arc to the full circle. -/
def Segment.PlausibleLength (g : Segment) : Prop :=
  absDiff g.first.x g.last.x ≤ g.length ∧ absDiff g.first.y g.last.y ≤ g.length ∧
    (g.Arc → g.length ≤ (g.radius.getD 0 * 6284 + 999) / 1000) ∧
    (¬ g.Arc → g.length ≤ absDiff g.first.x g.last.x + absDiff g.first.y g.last.y)

/-- Check 9 (R33). -/
def Head.WideEnough (hd : Head) (g : Segment) : Prop := g.Arc → hd.cut.w ≤ g.radius.getD 0

/-- A joint is classed at the start of the segment (R34). -/
def Head.Jointed (hd : Head) (g : Segment) : Prop := g.kind ≠ .air ∧ hd.ref.kind = .cutting

/-- The joint turn is Δ: the entry heading less the reference heading, brought into −1800 to +1799 (R34). -/
def Head.Turns (hd : Head) (g : Segment) (delta : Int) : Prop :=
  -1800 ≤ delta ∧ delta ≤ 1799 ∧ (3600 : Int) ∣ (g.entry : Int) - (hd.ref.heading.getD 0 : Nat) - delta

/-- Check 11 (R35). -/
def State.TagsOpen (s : State) (g : Segment) : Prop :=
  (g.kind = .air → g.tags = []) ∧ g.tags.Nodup ∧
    ∀ t ∈ g.tags, ∃ p, s.findPiece t = some p ∧ (p.st = .declared ∨ p.st = .part)

/-- A segment that passes all checks but the tenth. -/
def State.SegPasses (s : State) (h : HeadId) (g : Segment) : Prop :=
  s.SegTaken h g ∧ g.InRanges ∧ (s.head h).SegPlaced g ∧ g.OneHeading ∧ g.PlausibleLength ∧ (s.head h).WideEnough g

/-! ### The tables of settings -/

/-- The ranges of R84 test 2. -/
def zoneInTable (p : ZoneSetReq) : Prop :=
  1 ≤ p.budget.toNat ∧ p.budget.toNat ≤ 16 ∧ 100 ≤ p.pullTimeout.toNat ∧ p.pullTimeout.toNat ≤ 5000 ∧
    5 ≤ p.deglitch.toNat ∧ p.deglitch.toNat ≤ 200

/-- The ranges of R63 test 2. -/
def bedInTable (separation : Half) (pa pb : PointReq) : Prop :=
  2000 ≤ separation.toNat ∧ separation.toNat ≤ 20000 ∧ pa.x.toNat ≤ 31999 ∧ pa.y.toNat ≤ 20999 ∧ pb.x.toNat ≤ 31999 ∧
    pb.y.toNat ≤ 20999

/-- The ranges of Table 3-1, with P_min not above P_max (R43). -/
def cutInTable (p : CutReq) : Prop :=
  100 ≤ p.pMax.toNat ∧ p.pMax.toNat ≤ 4000 ∧ 20 ≤ p.pMin.toNat ∧ p.pMin.toNat ≤ 500 ∧ p.pMin.toNat ≤ p.pMax.toNat ∧
    20 ≤ p.w.toNat ∧ p.w.toNat ≤ 300 ∧ 100 ≤ p.fMax.toNat ∧ p.fMax.toNat ≤ 12000 ∧ 100 ≤ p.fAir.toNat ∧
    p.fAir.toNat ≤ 30000 ∧ p.soft.toNat ≤ 300 ∧ 300 ≤ p.maxTurn.toNat ∧ p.maxTurn.toNat ≤ 1700 ∧ 2 ≤ p.pivot.toNat ∧
    p.pivot.toNat ≤ 100 ∧ 200 ≤ p.grace.toNat ∧ p.grace.toNat ≤ 10000

/-- The ranges of Table 6-1 (R102). -/
def bladeInTable (p : BladeReq) : Prop :=
  600 ≤ p.fCut.toNat ∧ p.fCut.toNat ≤ 3000 ∧ 300 ≤ p.fIdle.toNat ∧ p.fIdle.toNat ≤ p.fCut.toNat ∧ p.ramp.length = 8 ∧
    (∀ c ∈ p.ramp, c.toNat ≤ 7) ∧ 1 ≤ p.stepStrokes.toNat ∧ p.stepStrokes.toNat ≤ 64 ∧
    p.settle.toNat ∈ [4, 8, 16, 32] ∧ 500 ≤ p.idleDelay.toNat ∧ p.idleDelay.toNat ≤ 30000 ∧ 5 ≤ p.stopDelay.toNat ∧
    p.stopDelay.toNat ≤ 600 ∧ p.trimHigh.toNat ≤ 4095 ∧ p.trimLow.toNat < p.trimHigh.toNat

/-- The ranges of Table 7-2 (R126). -/
def guardInTable (g : GuardSettings) : Prop :=
  g.rough ∈ [2, 3, 4, 6] ∧ 1 ≤ g.lockLimit ∧ g.lockLimit ≤ 4095 ∧ 1 ≤ g.lockStrokes ∧ g.lockStrokes ≤ 64 ∧
    g.noBlade < g.lockLimit ∧ 100 ≤ g.retryTime ∧ g.retryTime ≤ 10000 ∧
    (∀ n, g.retryLimit = .upTo n → n ∈ [1, 2, 3, 5, 7, 10]) ∧ 1 ≤ g.peakLimit ∧ g.peakLimit ≤ 4095 ∧ 1 ≤ g.reliefN ∧
    g.reliefN ≤ 7 ∧ 1 ≤ g.escalation ∧ g.escalation ≤ 32

/-! ### Times in replies -/

/-- So many whole milliseconds stand for a time in microseconds: exactly where it is whole, and the number below or above it
where it is not (log 10). -/
def MsOf (us ms : Nat) : Prop := us / 1000 ≤ ms ∧ ms ≤ us / 1000 + 1 ∧ (us % 1000 = 0 → ms = us / 1000)

/-! ### Time at the zones -/

/-- No zone moves by itself before `d` microseconds have passed: no change of level and no pull timeout falls before
then (R85, R94). -/
def ZonesQuietFor (d : Nat) (s : State) : Prop :=
  ∀ j < 16, (∀ left ∈ s.changeIn j, d ≤ left) ∧ ∀ left ∈ (s.zone j).pullLeft, d ≤ left

/-- A pressure row is one event at most: it carries no edge, and no zone moves before the change that it names. Of any other
command this says nothing (log 2, log 25). -/
def OneChange (s : State) (c : Instr) : Prop :=
  ∀ x, c = .pressureGood x ∨ c = .pressureLoss x → x.edges = [] ∧ ∀ d ∈ s.changeIn x.zone, ZonesQuietFor d s

/-! ### Strokes -/

/-- The period of the stroke that a pulse now ends (R110). -/
def Head.strokePeriod (hd : Head) (p : Pulse) : Nat := hd.blade.since + p.after

/-- The average of the stroke that a pulse now ends, where a sample was taken in it (R113). -/
def Head.strokeAverage (hd : Head) (p : Pulse) : Nat :=
  (hd.blade.sampleSum + (p.samples.map BitVec.toNat).sum) / (hd.blade.sampleCount + p.samples.length)

/-- The peak of the stroke that a pulse now ends (R113). -/
def Head.strokePeak (hd : Head) (p : Pulse) : Nat := (p.samples.map BitVec.toNat).foldl max hd.blade.samplePeak

/-- The pulse comes before the stroke watch has run out (R111). -/
def Head.InTime (hd : Head) (p : Pulse) : Prop := ∀ left ∈ hd.blade.watchLeft, p.after ≤ left

/-- A pulse now ends a stroke in which a sample was taken: the channel accepts pulses, one was accepted before, half the
expected period has passed since, and the stroke watch has not run out (R110, R111). -/
def Head.EndsStroke (hd : Head) (p : Pulse) : Prop :=
  hd.blade.st.accepts = true ∧ hd.blade.pulseSeen = true ∧ hd.InTime p ∧
    expectedPeriod hd.blade.commanded ≤ 2 * hd.strokePeriod p ∧ hd.blade.sampleCount + p.samples.length ≠ 0

/-- The stroke that a pulse now ends is not rough against the last RUN period, or ROUGH-RATE is not tested (R119, R121). -/
def Head.EvenStroke (hd : Head) (p : Pulse) : Prop :=
  hd.guard.modes.roughRate = .ignore ∨
    ∀ q ∈ hd.blade.lastRunPeriod, max (hd.strokePeriod p) q ≤ hd.guard.rough * min (hd.strokePeriod p) q

/-- The stroke that a pulse now ends gives the guard nothing to detect by its load, its peak or its period (R115, R121 to
R123). -/
def Head.QuietStroke (hd : Head) (p : Pulse) : Prop :=
  hd.strokeAverage p ≤ hd.guard.lockLimit ∧ 1 ≤ hd.guard.lockStrokes ∧ hd.guard.noBlade ≤ hd.strokeAverage p ∧
    hd.strokePeak p ≤ hd.guard.peakLimit ∧ hd.EvenStroke p

/-- Channel `c'` is what the response mode makes of channel `c` (Table 7-1, R127, R128). -/
def RespondsTo (mode : FaultMode) (g : GuardSettings) (c c' : Channel) : Prop :=
  match mode with
  | .latchCoast => c'.st = .faulted ∧ c'.brake = false ∧ c'.commanded = 0
  | .latchBrake => c'.st = .faulted ∧ c'.brake = true ∧ c'.commanded = 0
  | .retryCoast =>
    c'.brake = false ∧ c'.commanded = 0 ∧
      (if retryAllowed g.retryLimit c.retries then
        c'.st = .retryWait ∧ c'.retries = min 255 (c.retries + 1) ∧ c'.retryTimer = some (g.retryTime * 1000)
      else c'.st = .faulted ∧ c'.retries = c.retries)
  | .retryBrake =>
    c'.brake = true ∧ c'.commanded = 0 ∧
      (if retryAllowed g.retryLimit c.retries then
        c'.st = .retryWait ∧ c'.retries = min 255 (c.retries + 1) ∧ c'.retryTimer = some (g.retryTime * 1000)
      else c'.st = .faulted ∧ c'.retries = c.retries)
  | .report => c'.st = c.st ∧ c'.brake = c.brake
  | .ignore => c'.st = c.st ∧ c'.brake = c.brake

/-- The fault record of `c'` shows a detection of that kind that `c` had not (R131). -/
def Records (kind : FaultKind) (c c' : Channel) : Prop :=
  c'.record.last = some kind ∧ c'.record.counts.get kind = min 255 (c.record.counts.get kind + 1)

end Sys2Proof.Machine
end

