-- ==== Sys2Proof/Certificates/Slice0/Obligations.lean ====
section
/-! DEFINITION. The statements for the provers, block by block: the step, the resets, the links, the rules of the whole
machine, the settings and the job, the segments and the governor, the grants, the zones, the blades and their guard, the
pieces and the heads, and the invariants that every step keeps. -/

open Sys2Proof Sys2Proof.Machine

/-! ### The step -/

/-- A step takes the command at the front of the queue and runs it with the queue's rest. -/
def Obligations.FrontCommandIsTaken : Prop :=
  ∀ (s : State) (c : Instr) (rest : List Instr), s.pending = c :: rest → step s = exec c { s with pending := rest }

/-- Every command has an effect: it answers a next state, and leaves the queue of waiting commands alone. With no command
waiting a microsecond passes, unless a timer is due: then one of the expiries that are due joins the queue (the model's
choice, log 1 and log 3). A timer that stands at 0 is due, and so is the pressure row of a zone whose input has read the other
level for the deglitch time, which begins as log 23 says. -/
def Obligations.CommandsAnswerAndIdlingLetsTimePass : Prop :=
  (∀ (c : Instr) (s : State), ∃ t : State, exec c s = .next t ∧ t.pending = s.pending) ∧
  ∀ (s : State), s.pending = [] →
     (s.due = [] → step s = .next (s.elapse 1)) ∧
     (s.due ≠ [] → ∃ c ∈ s.due, step s = .next { s with pending := [c], free := s.free + 1 }) ∧
     (∀ h, ((s.head h).overdue.st = .counting ∧ (s.head h).overdue.allowance ≤ (s.head h).overdue.elapsed ↔
         Instr.overdueExpiry h ∈ s.due) ∧
       ((s.head h).blade.idleTimer = some 0 ↔ Instr.idleDelayExpiry h ∈ s.due) ∧
       ((s.head h).blade.stopTimer = some 0 ↔ Instr.stopDelayExpiry h ∈ s.due) ∧
       ((s.head h).blade.retryTimer = some 0 ↔ Instr.retryTimeExpiry h ∈ s.due) ∧
       ((s.head h).blade.watchLeft = some 0 ↔ Instr.strokeWatchExpiry h ∈ s.due) ∧
       ((s.head h).lapse = some 0 ↔ Instr.pendingRequestLapse h ∈ s.due)) ∧
     (s.mark.map Mark.left = some 0 ↔ Instr.budgetMarkExpiry ∈ s.due) ∧
     ∀ k : Fin 16, ((s.zone k).pullLeft = some 0 ↔ Instr.pullTimeout k ∈ s.due) ∧
       (s.resetHold = none ∧ (s.zone k).good = false ∧ s.changeIn k = some 0 ↔ Instr.pressureGood ⟨k, []⟩ ∈ s.due) ∧
       (s.resetHold = none ∧ (s.zone k).good = true ∧ s.changeIn k = some 0 ↔ Instr.pressureLoss ⟨k, []⟩ ∈ s.due)

/-! ### Resets -/

/-- What every reset leaves, whichever its cause: the job IDLE with no stack, label or class; the zones OFF; both heads in
service, held by NO-JOB alone, parked, with nothing queued or granted, the overdue timer stopped and the blade stopped with its
outputs off; the piece table empty at power-on, kept over a warm reset with its open pieces scrapped; and, when its hold ends,
RESTARTED alone in the cell link's set. Power-on during a hold that runs gives the cause POWER: the model's choice (log 31,
against R165's words on a reset taken during a hold). -/
def Obligations.EveryResetLeaves : Prop :=
  ∀ (s : State) (c : Instr) (cause : ResetCause), BeginsReset s c = some cause →
    ∃ t : State, exec c s = .next t ∧
      t.job = ⟨.idle, [], none, List.replicate 16 none⟩ ∧
      (∀ k < 16, (t.zone k).st = .off ∧ t.vac k = false) ∧ t.mark = none ∧
      (∀ h, (t.head h).service = .inService ∧ (t.head h).hold = ⟨true, false, false, false, false, false⟩ ∧
        t.fhold h = true ∧ (t.head h).overdue.st = .stopped ∧ (t.head h).overdue.elapsed = 0 ∧
        (t.head h).standing = (match h with | .a => ⟨0, 0⟩ | .b => ⟨31999, 0⟩) ∧ t.park h = (t.head h).standing ∧
        (t.head h).queue = [] ∧ (t.head h).window = [] ∧ (t.head h).blade.st = .stopped ∧ t.drvEn h = false ∧
        t.drvBrk h = false ∧ t.setpoint h = 0) ∧
      (∀ l, t.atn l = false) ∧ (cause = .power → t.pieces = []) ∧
      (cause ≠ .power → t.pieces =
        s.pieces.map fun p => if p.st = .declared ∨ p.st = .part then { p with st := .scrapped } else p) ∧
      ∀ r1 r0, ∃ u, exec (.resetHoldEnd r1 r0) t = .next u ∧ u.lastCause = cause ∧
        (∀ h, (u.link (.head h)).attention = AttSet.empty) ∧ (u.link .cell).attention = { AttSet.empty with restarted := true }

/-- The state of a reset hold just begun, whole: the settings at their defaults, every link quiet; power-on clears the piece
table, the fault records and the trims, a warm reset keeps the table with its open pieces scrapped, the records and the trims;
the queue, the last cause and the sampled rate stand. A pin reset taken during a hold only extends it, and leaves its cause.
When the hold ends its cause is recorded, the straps are sampled, the receivers hunt and nothing else changes but the deglitch
timing, which begins then (log 23). The model's choices: power-on during a running hold gives the cause POWER (log 31), the
rate stands until the straps are sampled (log 7), the queue of commands stands (log 26), the pressure lines stay (log 37), and
fields to which the manual gives no reset value are as log 8 and log 38 say. -/
def Obligations.ResetHoldBeginsAndEnds : Prop :=
  (∀ (s : State) (c : Instr) (cause : ResetCause), BeginsReset s c = some cause →
     ∃ t : State, exec c s = .next t ∧
       t = { State.reset with
         pending := s.pending, free := s.free, resetHold := some ⟨cause, 10000⟩, lastCause := s.lastCause, rate := s.rate
         prs := s.prs, links := ⟨Link.reset, Link.reset, Link.reset⟩, heads := t.heads, pieces := t.pieces, retained := t.retained } ∧
       t.heads = ⟨Head.reset ⟨0, 0⟩ t.heads.a.blade.trim t.heads.a.blade.record,
         Head.reset ⟨31999, 0⟩ t.heads.b.blade.trim t.heads.b.blade.record⟩ ∧
       (if cause = .power then
         t.pieces = [] ∧ t.retained = false ∧
           ∀ h, (t.head h).blade.trim = 16 ∧ (t.head h).blade.record = ⟨none, 0, 0, 0, ⟨0, 0, 0, 0, 0⟩, 0⟩
       else
         t.pieces = s.pieces.map (fun p => if p.st = .declared ∨ p.st = .part then { p with st := .scrapped } else p) ∧
           (t.retained = true ↔ s.pieces ≠ []) ∧
           ∀ h, (t.head h).blade.trim = (s.head h).blade.trim ∧ (t.head h).blade.record = (s.head h).blade.record)) ∧
  ∀ (s : State) (r : ResetHold), s.resetHold = some r →
     exec .nresetTaken s = .next { s with resetHold := some ⟨r.cause, 10000⟩ } ∧
     ∀ r1 r0, ∃ t : State, exec (.resetHoldEnd r1 r0) s = .next t ∧
       t.resetHold = none ∧ t.lastCause = r.cause ∧ t.rate = ⟨r1, r0⟩ ∧
       t.links = ⟨Link.reset, Link.reset, { Link.reset with attention := { AttSet.empty with restarted := true } }⟩ ∧
       t.job = s.job ∧ t.bed = s.bed ∧ t.zoneSettings = s.zoneSettings ∧ t.pieces = s.pieces ∧ t.retained = s.retained ∧
       t.pending = s.pending ∧ t.prs = s.prs ∧ (s.mark = none → t.mark = none) ∧
       (∀ h, (s.head h).blade.st = .stopped → (s.head h).overdue.st = .stopped → (s.head h).lapse = none →
         (s.head h).blade.idleTimer = none → (s.head h).blade.stopTimer = none → (s.head h).blade.retryTimer = none →
         (s.head h).blade.watchLeft = none → t.head h = s.head h) ∧
       ∀ k < s.zones.length, (s.zone k).pull = none →
         t.zone k = { s.zone k with steady := 0 }

/-- During a reset hold every link is deaf: no character, frame, break or reply of a link has an effect, and no pressure row
(log 27). -/
def Obligations.HoldDeafensEveryLink : Prop :=
  ∀ (s : State) (c : Instr), s.resetHold.isSome = true →
    (linkOf c).isSome = true ∨ (∃ k, c = .pressureGood k ∨ c = .pressureLoss k) → exec c s = .next s

/-! ### The links -/

/-- A request of a type the link does not take is refused with NOT-ON-THIS-LINK and has no effect; so is a type of no request,
with UNKNOWN-REQUEST (R161). A checked frame that completes on a busy link is discarded: the receiver looks for a lead byte,
and nothing else changes (R160). -/
def Obligations.UnfitAndUntimelyRequests : Prop :=
  (∀ (s : State) (l : LinkId), s.listens l = true →
     (∀ c r, requestOf c = some (l, r) → WrongLink l (requestCode r) →
       exec c s = .next (s.answering l (requestCode r) (.refused .notOnThisLink .none))) ∧
     ∀ type, type ∉ requestCodes →
       exec (.unknownRequest l type) s = .next (s.answering l type (.refused .unknownRequest .none))) ∧
  ∀ (s : State) (l : LinkId), s.resetHold = none → (s.link l).rx = .hunting → (s.link l).inFlight.isSome = true →
     exec (.frameDiscardedBusy l) s = .next (s.setLink l { s.link l with asm := .lead }) ∧
     (∀ c r, requestOf c = some (l, r) → exec c s = exec (.frameDiscardedBusy l) s) ∧
     ∀ type, type ∉ requestCodes → exec (.unknownRequest l type) s = exec (.frameDiscardedBusy l) s

/-- STATUS reports each item as it stands and empties the link's attention set; it changes nothing else (R143, R162, R163). The
level reported is the target of a channel in SPINUP, SETTLING or RUN, and the remaining time of a STOPPED overdue timer is 0
(R167); of another it is the whole milliseconds left, where how a part of one is rounded is a free value (log 10). -/
def Obligations.StatusReportsAndEmpties : Prop :=
  let level := fun c : Channel => if c.st = .spinup ∨ c.st = .settling ∨ c.st = .run then some c.target else none
  let summary := fun hd : Head => HeadSummary.mk hd.service hd.hold hd.queue.length hd.window.length hd.blade.st
    (level hd.blade) hd.blade.demand hd.overdue.st
  (∀ o : Overdue,
    (o.st = .stopped → o.remaining = 0) ∧ (o.st ≠ .stopped → MsOf (o.allowance - o.elapsed) o.remaining)) ∧
  ∀ (s : State),
    (∀ h, s.listens (.head h) = true →
      exec (.status (.head h)) s = .next ((s.setLink (.head h) { s.link (.head h) with attention := AttSet.empty }).answering
        (.head h) 0x01 (.accepted (.headStatus
          { job := s.job.state, service := (s.head h).service, hold := (s.head h).hold, window := (s.head h).window
            queue := (s.head h).queue.length, nextSeq := (s.head h).nextSeq, standing := (s.head h).standing
            claim := (s.head h).claim, watch := (s.head h).watch.reasons, channel := (s.head h).blade.st
            level := level (s.head h).blade, demand := (s.head h).blade.demand, timer := (s.head h).overdue.st
            remaining := (s.head h).overdue.remaining, attention := (s.link (.head h)).attention })))) ∧
    (s.listens .cell = true →
      exec (.status .cell) s = .next ((s.setLink .cell { s.link .cell with attention := AttSet.empty }).answering
        .cell 0x01 (.accepted (.cellStatus
          { job := s.job.state, layers := s.job.stack.length, thickness := (s.job.stack.map Layer.thickness).sum
            label := s.job.label, heads := ⟨summary s.heads.a, summary s.heads.b⟩
            active := s.zones.countP fun z => z.st = .pulling ∨ z.st = .held ∨ z.st = .lost
            budget := s.zoneSettings.budget
            pieces := ⟨s.countPieces .declared, s.countPieces .part, s.countPieces .severed, s.countPieces .taken,
              s.countPieces .scrapped⟩
            cause := s.lastCause, attention := (s.link .cell).attention }))))

/-- IDENT, HEAD READ, PIECE READ and ZONE READ change nothing but the link's buffer, which takes their reply; a HEAD READ of a
code that names no head, or on a head link of the other head, and a PIECE READ of an id that is none are refused. ZONE READ
names a severed piece as a source of a zone's need only where the zone is on (R86, R97, R118, R151, R164). HEAD READ carries
each item of R118 as it stands, the step in SPINUP alone; how a part of a millisecond is rounded is a free value (log 10). -/
def Obligations.ReadsChangeNothing : Prop :=
  ∀ (s : State) (l : LinkId), s.listens l = true →
    exec (.ident l) s = .next (s.answering l 0x02 (.accepted (.ident s.lastCause s.retained))) ∧
    (∀ h, exec (.headRead l (headCode h)) s = .next (s.answering l 0x03
      (if l = .cell ∨ l = .head h then .accepted (.headRead (s.head h).detail) else .refused .notOnThisLink .none))) ∧
    (∀ code : Byte, 1 < code.toNat →
      exec (.headRead l code) s = .next (s.answering l 0x03 (.refused .badValue .none))) ∧
    exec (.pieceRead l none) s =
      .next (s.answering l 0x04 (.accepted (.pieceSummary (s.pieces.map fun p => (p.id, p.st))))) ∧
    (∀ id : Byte, ∀ p, 1 ≤ id.toNat → id.toNat ≤ 250 → s.findPiece id.toNat = some p →
      exec (.pieceRead l (some id)) s = .next (s.answering l 0x04 (.accepted (.piece p)))) ∧
    (∀ id : Byte, 1 ≤ id.toNat → id.toNat ≤ 250 → s.findPiece id.toNat = none →
      exec (.pieceRead l (some id)) s = .next (s.answering l 0x04 (.refused .unknownPiece .none))) ∧
    (∀ id : Byte, id.toNat = 0 ∨ 250 < id.toNat →
      exec (.pieceRead l (some id)) s = .next (s.answering l 0x04 (.refused .badValue .none))) ∧
    (l = .cell → exec (.zoneRead l) s = .next (s.answering .cell 0x3E (.accepted (.zones
      ((List.range 16).map s.zoneDetail) s.zoneSettings.budget s.activeCount (s.mark.map Mark.holder) s.reservedCount)))) ∧
    (∀ h, let c := (s.head h).blade
      let v := (s.head h).detail
      (c.idleTimer = none → v.idleLeft = 0) ∧ (∀ us, c.idleTimer = some us → MsOf us v.idleLeft) ∧
        (c.stopTimer = none → v.stopLeft = 0) ∧ (∀ us, c.stopTimer = some us → MsOf us v.stopLeft) ∧
        v = { channel := c.st, level := if c.st = .spinup ∨ c.st = .settling ∨ c.st = .run then some c.target else none
              demand := c.demand, step := if c.st = .spinup then some (c.step, c.stepCount) else none
              commanded := c.commanded, measured := c.measured, strokes := c.strokes, lastAvg := c.lastAvg
              lastPeak := c.lastPeak, trim := c.trim, heavy := c.heavy, light := c.light, pausing := decide (0 < c.pause)
              pause := c.pause, escalation := c.escalation, idleLeft := v.idleLeft, stopLeft := v.stopLeft
              retries := c.retries, record := c.record }) ∧
    ∀ k, (s.zoneDetail k).st = (s.zone k).st ∧ (s.zoneDetail k).valve = s.vac k ∧ (s.zoneDetail k).good = (s.zone k).good ∧
      (s.zoneDetail k).faults = (s.zone k).faults ∧ ((s.zone k).pull = none → (s.zoneDetail k).pullLeft = 0) ∧
      ((s.zoneDetail k).severed = true ↔
        s.vac k = true ∧ ∃ p ∈ s.pieces, p.st = .severed ∧ p.lo / 2000 ≤ k ∧ k ≤ p.hi / 2000)

/-- A frame that fails its check or is cut by a gap is dropped; a framing error and the end of a break leave the receiver as
R157 and R159 say; and each character moves the frame assembly as R158 says. A gap drops what was received also while the
length byte is awaited: DEDUCED (log 16). None of them touches anything but the link's receiver. -/
def Obligations.CharactersAssemble : Prop :=
  ∀ (s : State) (l : LinkId), s.resetHold = none →
    exec (.frameCheckFailed l) s = .next (s.setLink l { s.link l with asm := .lead }) ∧
    exec (.frameGapTimeout l) s = .next (s.setLink l { s.link l with asm := .lead }) ∧
    exec (.framingError l) s = .next (s.setLink l { s.link l with rx := .waitHigh, asm := .lead }) ∧
    exec (.lineReturnsHigh l) s = .next (s.setLink l { s.link l with rx := .hunting }) ∧
    ((s.link l).rx = .waitHigh → ∀ c, exec (.characterReceived l c) s = .next s) ∧
    ((s.link l).rx = .hunting → ∀ c : Byte,
      ((s.link l).asm = .lead →
        exec (.characterReceived l c) s =
          .next (s.setLink l { s.link l with asm := if c = 0xA5 then .length else .lead })) ∧
      ((s.link l).asm = .length →
        exec (.characterReceived l c) s =
          .next (s.setLink l { s.link l with asm := if c.toNat = 0 ∨ 250 < c.toNat then .lead else .gather c [] })) ∧
      (∀ len got, (s.link l).asm = .gather len got → got.length + 1 < len.toNat + 2 →
        exec (.characterReceived l c) s = .next (s.setLink l { s.link l with asm := .gather len (got ++ [c]) })) ∧
      ∀ len got, (s.link l).asm = .gather len got → len.toNat + 2 ≤ got.length + 1 →
        got.drop (got.length - 1) ++ [c] ≠ halfBytes (crc16 (len :: got.take (got.length - 1))) →
        exec (.characterReceived l c) s = .next (s.setLink l { s.link l with asm := .lead }))

/-- The characters of a frame that carries a request, sent one after the other to a link that can take it, have the effect of
the request's row: the frame is assembled, its check passes, it is parsed and its request is served. A frame of an unknown
type has the effect of UNKNOWN_REQUEST, and one whose length does not agree with its type is refused with MALFORMED and has no
effect (R158, R160, R161). The model's choices: a request row stands for a whole checked frame (log 4), and the fields of the
layouts the manual does not draw stand in the order of their rule (log 13). -/
def Obligations.FrameBytesTakeTheRequest : Prop :=
  ∀ (s : State) (l : LinkId), s.pending = [] → s.listens l = true → (s.link l).asm = .lead →
    (∀ (c : Instr) (r : Request) (body : List Byte), requestOf c = some (l, r) → r.wf = true → requestBody r = some body →
      s.afterFrame l body = exec c s) ∧
    ∀ (type : Byte) (payload : List Byte), payload.length + 1 ≤ 250 →
      (type ∉ requestCodes → s.afterFrame l (type :: payload) = exec (.unknownRequest l type) s) ∧
      (type ∈ requestCodes → Misfit type payload →
        s.afterFrame l (type :: payload) = .next (s.answering l type (.refused .malformed .none)))

/-- Reading the type and payload bytes of a well-formed request gives the request back, every field at every value (Table 11-1,
11.2, 11.3); ZONE SET and GUARD SET, whose codes the manual does not give, have none (log 12), and the order of the fields
where no layout is drawn is DEDUCED (log 13). The bytes of replies: the frame with the reply's type, and the payloads of WAIT,
REFUSED, ALREADY, the SEGMENT reply, the grant record, both STATUS replies, IDENT and PIECE READ as 11.4 to 11.6 draw them;
every ACCEPTED reply begins with its status byte. The codes of the named states and of the refusal reasons are those of 11.1 and
11.7, and each set is a byte with a bit for each member. -/
def Obligations.RequestBytesReadBack : Prop :=
  ([JobState.idle, .staged, .cutting, .closing].map JobState.code = [0, 1, 2, 3] ∧
   [SegKind.line, .arcCw, .arcCcw, .air].map SegKind.code = [0, 1, 2, 3] ∧
   [NumState.notAccepted, .queued, .granted, .done, .flushed, .withdrawn].map NumState.code = [0, 1, 2, 3, 4, 5] ∧
   [JointClass.smooth, .pivot, .free].map JointClass.code = [0, 1, 2] ∧
   [Service.inService, .outOfService].map Service.code = [0, 1] ∧
   [ChState.stopped, .spinup, .settling, .run, .retryWait, .faulted].map ChState.code = [0, 1, 2, 3, 4, 5] ∧
   [none, some Level.idle, some .cut].map levelCode = [0, 1, 2] ∧ [Demand.off, .idle, .cut].map Demand.code = [0, 1, 2] ∧
   [TimerState.stopped, .counting, .paused].map TimerState.code = [0, 1, 2] ∧
   [PieceState.declared, .part, .severed, .taken, .scrapped].map PieceState.code = [0, 1, 2, 3, 4] ∧
   [ResetCause.power, .pin, .command].map ResetCause.code = [0, 1, 2] ∧ [HeadId.a, .b].map headCode = [0, 1]) ∧
  (∀ row ∈ [(Reason.notOnThisLink, (0x01 : Byte)), (.unknownRequest, 0x02), (.malformed, 0x03), (.badValue, 0x10),
      (.wrongJobState, 0x11), (.headOutOfService, 0x12), (.headBusy, 0x13), (.queueFull, 0x20), (.sequenceGap, 0x21),
      (.sequenceExhausted, 0x22), (.discontinuous, 0x23), (.extentMismatch, 0x25), (.headingMismatch, 0x26),
      (.lengthImplausible, 0x27), (.radiusTooSmall, 0x28), (.turnTooSharp, 0x29), (.outsideBed, 0x2A),
      (.unknownPiece, 0x30), (.pieceClosed, 0x31), (.pieceRepeated, 0x32), (.airTagged, 0x33), (.pieceTableFull, 0x34),
      (.pieceExists, 0x35), (.notSevered, 0x36), (.notGranted, 0x40), (.outOfOrder, 0x41), (.notHeld, 0x42),
      (.positionOutsideClaim, 0x43), (.classUndefined, 0x50), (.stackTooTall, 0x51), (.homesTooClose, 0x52),
      (.parksTooClose, 0x53), (.budgetInUse, 0x54), (.clearance, 0x55), (.zoneNotFaulted, 0x60), (.bladeNotLatched, 0x61)],
    row.1.code = row.2) ∧
  (∀ (v : HoldSet) (a : AttSet),
     v.byte = BitVec.ofNat 8 (bitValue v.noJob 0 + bitValue v.outOfService 1 + bitValue v.cellHold 2 + bitValue v.blade 3 +
       bitValue v.zone 4 + bitValue v.overdue 5) ∧
     a.byte = BitVec.ofNat 8 (bitValue a.waitCleared 0 + bitValue a.holdChanged 1 + bitValue a.bladeFault 2 +
       bitValue a.headSuspended 3 + bitValue a.zoneFault 4 + bitValue a.pieceSevered 5 + bitValue a.restarted 6)) ∧
  (∀ (r : Request), r.wf = true →
     (∀ body, requestBody r = some body → parse body = .request r) ∧
     (requestBody r = none ↔ requestCode r ∈ [0x2A, 0x2C])) ∧
  (∀ (type : Byte) (reply : Reply) (begun : Bool),
     (⟨type, reply, begun⟩ : InFlight).frame = frameOf ((if type ∈ requestCodes then type + 0x80 else 0xFF) :: reply.payload) ∧
     ∀ body, frameOf body = [0xA5, BitVec.ofNat 8 body.length] ++ body ++
       halfBytes (crc16 (BitVec.ofNat 8 body.length :: body))) ∧
  (∀ (w : WaitSet) (number next : Nat) (st : NumState) (r : Reason) (d : Detail) (c : Content),
     (Reply.wait w number).payload = [0x01, BitVec.ofNat 8 (bitValue w.queueEmpty 0 + bitValue w.windowFull 1 +
       bitValue w.headHeld 2 + bitValue w.clearance 3 + bitValue w.bladeNotReady 4 + bitValue w.zonesSettling 5 +
       bitValue w.zoneBudget 6 + bitValue w.zoneFaulted 7)] ++ twoBytes number ∧
     (Reply.already number st next).payload = [0x03] ++ twoBytes number ++ [st.code] ++ twoBytes next ∧
     (Reply.refused r d).payload = [0x02, r.code] ++ (match d with
       | .none => []
       | .next n => twoBytes n
       | .reference p => twoBytes p.x ++ twoBytes p.y
       | .turn delta => twoBytes delta
       | .tag id => [BitVec.ofNat 8 id]
       | .number n => [n.code]
       | .piece q => [q.code]) ∧
     (Reply.accepted c).payload.head? = some 0x00) ∧
  (∀ (number turn entries : Nat) (joint : JointClass) (r : GrantRecord),
     (Reply.accepted (.segment number joint turn entries)).payload =
       [0x00] ++ twoBytes number ++ [joint.code] ++ twoBytes turn ++ [BitVec.ofNat 8 entries] ∧
     (Reply.accepted (.grant r)).payload =
       [0x00] ++ twoBytes r.number ++ twoBytes r.feed ++ [BitVec.ofNat 8 (bitValue r.heavy 0 + bitValue r.ceiling 1)] ++
         [r.joint.code] ++ twoBytes r.turn ++ fourBytes r.expected ++ fourBytes r.allowance) ∧
  (∀ (v : HeadStatus), (Reply.accepted (.headStatus v)).payload =
     [0x00, v.job.code, v.service.code, v.hold.byte, BitVec.ofNat 8 v.window.length] ++
       v.window.flatMap (fun w => twoBytes w.entry.seg.number ++ [w.entry.seg.kind.code] ++ twoBytes w.result.feed ++
         [BitVec.ofNat 8 (bitValue w.result.heavy 0 + bitValue w.result.ceiling 1)] ++ fourBytes w.result.expected ++
         fourBytes w.result.allowance) ++
       [BitVec.ofNat 8 v.queue] ++ twoBytes v.nextSeq ++ twoBytes v.standing.x ++ twoBytes v.standing.y ++
       twoBytes v.claim.lo ++ twoBytes v.claim.hi ++ [v.watch.byte, v.channel.code, levelCode v.level, v.demand.code] ++
       [v.timer.code] ++ fourBytes v.remaining ++ [v.attention.byte]) ∧
  (∀ (v : CellStatus),
     let half := fun u : HeadSummary => [u.service.code, u.hold.byte, BitVec.ofNat 8 u.queue, BitVec.ofNat 8 u.window,
       u.channel.code, levelCode u.level, u.demand.code, u.timer.code]
     (Reply.accepted (.cellStatus v)).payload =
       [0x00, v.job.code, BitVec.ofNat 8 v.layers] ++ twoBytes v.thickness ++
         (match v.label with
           | none => [0, 0, 0, 0, 0]
           | some x => 1 :: fourBytes x.toNat) ++ half v.heads.a ++ half v.heads.b ++
         [BitVec.ofNat 8 v.active, BitVec.ofNat 8 v.budget, BitVec.ofNat 8 v.pieces.declared, BitVec.ofNat 8 v.pieces.part,
           BitVec.ofNat 8 v.pieces.severed, BitVec.ofNat 8 v.pieces.taken, BitVec.ofNat 8 v.pieces.scrapped, v.cause.code,
           v.attention.byte]) ∧
  (∀ (cause : ResetCause) (retained : Bool) (p : Piece) (rows : List (Nat × PieceState)),
     (Reply.accepted (.ident cause retained)).payload =
       [0x00, 0x70, 0x0B, 0xC0, 0x08, 3, cause.code, if retained = true then 1 else 0] ∧
     (Reply.accepted (.piece p)).payload =
       [0x00, BitVec.ofNat 8 p.id, p.st.code, BitVec.ofNat 8 p.required, BitVec.ofNat 8 p.edges] ++ twoBytes p.lo ++
         twoBytes p.hi ++ (match p.label with
           | none => [0, 0, 0]
           | some x => 1 :: twoBytes x.toNat) ++ [BitVec.ofNat 8 p.contributors.length] ++
         p.contributors.flatMap (fun c => headCode c.1 :: twoBytes c.2) ∧
     (Reply.accepted (.pieceSummary rows)).payload =
       [0x00, BitVec.ofNat 8 rows.length] ++ rows.flatMap (fun r => [BitVec.ofNat 8 r.1, r.2.code]))

/-- A break drops the frame under reception and cancels a reply not yet begun, putting back the causes that reply carried; a
reply that has begun is sent on. Unless it cancels the reply to RESET, it touches nothing else (R159, R162). RESET is
answered, and takes effect only when its reply has gone (ResetHoldBeginsAndEnds); a reply begins, and when it is complete the
link is free again (R160, R166). The completion of a reply that has not begun is no event: the model's choice (log 28). The
transmitter rests high unless a reply is being sent, and the straps give the rate of Table 10-1 (R156). -/
def Obligations.BreaksAndReplies : Prop :=
  (∀ (s : State) (l : LinkId), s.resetHold = none →
     let k : Link := { s.link l with rx := .waitHigh, asm := .lead }
     ((s.link l).inFlight = none → exec (.breakDetected l) s = .next (s.setLink l k)) ∧
     ∀ f, (s.link l).inFlight = some f →
       (f.begun = true → exec (.breakDetected l) s = .next (s.setLink l k)) ∧
       (f.begun = false → BeginsReset s (.breakDetected l) = none →
         exec (.breakDetected l) s = .next (s.setLink l
           { k with inFlight := none, attention := (s.link l).attention.union (s.link l).carried }))) ∧
  ∀ (s : State),
     (s.listens .cell = true → exec (.reset .cell) s = .next (s.answering .cell 0x3F (.accepted .none))) ∧
     (∀ l, s.resetHold.isSome = true ∨ (s.link l).inFlight = none → s.txHigh l = true) ∧
     (s.rate.baud = match s.rate.lrate1, s.rate.lrate0 with
       | false, false => 57600
       | false, true => 115200
       | true, false => 230400
       | true, true => 460800) ∧
     ∀ l f, s.resetHold = none → (s.link l).inFlight = some f →
       exec (.replyBegin l) s = .next (s.setLink l { s.link l with inFlight := some { f with begun := true } }) ∧
       (f.begun = false → exec (.replyComplete l) s = .next s) ∧
       (f.begun = true → BeginsReset s (.replyComplete l) = none →
         exec (.replyComplete l) s = .next (s.setLink l { s.link l with inFlight := none })) ∧
       (s.txHigh l = true ↔ f.begun = false)

/-! ### The whole machine -/

/-- What a link receives, sends or breaks touches the receiver, assembly and reply of no other link, unless a reset begins
(R159, R160). -/
def Obligations.OtherLinksAreUntouched : Prop :=
  ∀ (s t : State) (c : Instr) (l m : LinkId), linkOf c = some l → exec c s = .next t → t.resetHold = s.resetHold →
    m ≠ l → SameLine s t m

/-- A request that is REFUSED or answered ALREADY has no effect: its reply is all that changes. -/
def Obligations.RefusedRequestsChangeNothing : Prop :=
  ∀ (s t : State) (c : Instr) (l : LinkId) (r : Request), requestOf c = some (l, r) → s.listens l = true →
    exec c s = .next t → ∀ reply, (t.link l).inFlight = some ⟨requestCode r, reply, false⟩ →
      (∃ reason d, reply = .refused reason d) ∨ (∃ n st e, reply = .already n st e) → t = s.answering l (requestCode r) reply

/-- The job state moves only along the arcs of Figure 1-1, by the requests that name them; no timer, pulse or pressure moves it
(R2, R8, R10 to R13). -/
def Obligations.JobStateMoves : Prop :=
  ∀ (s t : State) (c : Instr), exec c s = .next t → t.resetHold = none → t.job.state ≠ s.job.state →
    ((s.job.state = .idle ∧ t.job.state = .staged) ∨ (s.job.state = .staged ∧ t.job.state = .cutting) ∨
      (s.job.state = .cutting ∧ t.job.state = .closing) ∨ t.job.state = .idle) ∧
    ((∃ l ch, c = .characterReceived l ch) ∨
      ∃ l r, requestOf c = some (l, r) ∧
        (t.job.state = .staged → ∃ layers label, r = .blockLoad layers label) ∧
        (t.job.state = .cutting → ∃ a b, r = .openJob a b) ∧
        (t.job.state = .closing → r = .close) ∧
        (t.job.state = .idle → (s.job.state = .cutting ∧ r = .close) ∨ r = .abort ∨
          (s.job.state = .closing ∧ (r = .flush ∨ (∃ n, r = .done n) ∨ ∃ x p, r = .release x p))))

/-- Every change of a head's feed-hold reason set raises HOLD-CHANGED on that head's link. An event that leaves the set as it
was raises nothing: the cause is there only if it was there before or a cancelled reply put it back (R134, R162). The rows
that may hold several events (the model's choice, log 2, log 25) are taken so: a row with a pulse is said of a steady head,
and a pressure row that carries no edge and before whose change no zone moves is one event; where a pressure row carries
edges, an edge before which the set changes leaves the cause, though the set be as before at the row's end. Every entry of a
running channel to RETRY-WAIT or FAULTED raises BLADE-FAULT on the head's own link and on the cell link, and switches the
drive off with setpoint 0 (R100, R125, R131). -/
def Obligations.EventsRaiseTheirCauses : Prop :=
  (∀ (s t : State) (c : Instr) (h : HeadId), exec c s = .next t → t.resetHold = none →
     ((t.head h).hold ≠ (s.head h).hold → (t.link (.head h)).attention.holdChanged = true) ∧
     ((CarriesPulse c → s.Steady h) → OneChange s c → (t.head h).hold = (s.head h).hold →
       (t.link (.head h)).attention.holdChanged = true →
       (s.link (.head h)).attention.holdChanged = true ∨ (s.link (.head h)).carried.holdChanged = true)) ∧
  (∀ (s t : State) (k : Fin 16) (e : Edge) (edges : List Edge) (h : HeadId), s.resetHold = none →
     exec (.pressureGood ⟨k, e :: edges⟩) s = .next t ∨ exec (.pressureLoss ⟨k, e :: edges⟩) s = .next t →
     ((s.edge e).head h).hold ≠ (s.head h).hold → (t.link (.head h)).attention.holdChanged = true) ∧
  ∀ (s t : State) (c : Instr) (h : HeadId), exec c s = .next t → t.resetHold = none →
     (s.head h).blade.st.accepts = true → (t.head h).blade.st = .retryWait ∨ (t.head h).blade.st = .faulted →
       (t.link (.head h)).attention.bladeFault = true ∧ (t.link .cell).attention.bladeFault = true ∧ t.drvEn h = false ∧
         t.setpoint h = 0 ∧ (t.head h).blade.measured = 0

/-- A granted segment leaves the window only by DONE, which removes the oldest entry, by RELEASE of its head or ABORT, which
remove them all, or by a reset; every other command keeps the entries in their places (R64, R65). -/
def Obligations.WindowKeepsItsEntries : Prop :=
  ∀ (s t : State) (c : Instr) (h : HeadId), exec c s = .next t → t.resetHold = none → NoWorkOutsideJob s →
    (s.head h).window <+: (t.head h).window ∨
    ((t.head h).window = (s.head h).window.tail ∧ ((∃ n, c = .done (.head h) n) ∨ ∃ ch, c = .characterReceived (.head h) ch)) ∨
    ((t.head h).window = [] ∧
      ((∃ l p, c = .release l (headCode h) p) ∨ (∃ l, c = .abort l) ∨ ∃ l ch, c = .characterReceived l ch))

/-! ### The settings and the job -/

/-- CLASS SET, CUT SET, BLADE SET and GUARD SET in IDLE with values of their tables replace what they name and change nothing
else but the link's buffer; GUARD SET also returns the named channels' retry counts to 0 (R6, R43, R102, R126, R127). -/
def Obligations.ParametersAreSetInIdle : Prop :=
  ∀ (s : State), s.listens .cell = true → s.job.state = .idle →
    (∀ cls coef : Byte, cls.toNat ≤ 15 → coef.toNat ≠ 0 →
      exec (.classSet .cell cls coef) s =
        .next (({ s with job := { s.job with classes := s.job.classes.set cls.toNat (some coef.toNat) } }).answering
          .cell 0x24 (.accepted .none))) ∧
    ∀ sel : Byte, sel.toNat ≤ 2 →
      (∀ p : CutReq, cutInTable p → ∀ a b, a = (if sel = 1 then s.heads.a.cut else cutParamsOf p) →
        b = (if sel = 0 then s.heads.b.cut else cutParamsOf p) →
        exec (.cutSet .cell sel p) s =
          .next (({ s with heads := ⟨{ s.heads.a with cut := a }, { s.heads.b with cut := b }⟩ }).answering .cell 0x28
            (.accepted (.cutSets a b)))) ∧
      (∀ p : BladeReq, bladeInTable p → ∀ a b, a = (if sel = 1 then s.heads.a.bladeParams else bladeParamsOf p) →
        b = (if sel = 0 then s.heads.b.bladeParams else bladeParamsOf p) →
        exec (.bladeSet .cell sel p) s =
          .next (({ s with heads := ⟨{ s.heads.a with bladeParams := a }, { s.heads.b with bladeParams := b }⟩ }).answering
            .cell 0x2B (.accepted (.bladeSets a b)))) ∧
      ∀ (p : GuardReq) (g : GuardSettings), guardSettingsOf p = some g → guardInTable g →
        ∃ t : State, exec (.guardSet .cell sel p) s =
            .next (t.answering .cell 0x2C (.accepted (.guardSets t.heads.a.guard t.heads.b.guard))) ∧
          t = { s with heads := t.heads } ∧
          ∀ h, (Named sel h → t.head h = { s.head h with guard := g, blade := { (s.head h).blade with retries := 0 } }) ∧
            (¬ Named sel h → t.head h = s.head h)

/-- Outside IDLE the six settings requests and BLOCK-LOAD are refused with WRONG-JOB-STATE; in IDLE a settings request with a
value outside its table is refused with BAD-VALUE. A refused one changes nothing (R3, R6, R7, R43, R63, R84, R102, R126). -/
def Obligations.SettingsAreRefused : Prop :=
  ∀ (s : State) (c : Instr) (r : Request), s.listens .cell = true → requestOf c = some (.cell, r) →
    (s.job.state ≠ .idle → requestCode r ∈ [0x20, 0x24, 0x28, 0x29, 0x2A, 0x2B, 0x2C] →
      exec c s = .next (s.answering .cell (requestCode r) (.refused .wrongJobState .none))) ∧
    (s.job.state = .idle →
      (∃ cls coef : Byte, r = .classSet cls coef ∧ (15 < cls.toNat ∨ coef.toNat = 0)) ∨
        (∃ sel p, r = .cutSet sel p ∧ (2 < sel.toNat ∨ ¬ cutInTable p)) ∨
        (∃ separation pa pb, r = .bedSet separation pa pb ∧ ¬ bedInTable separation pa pb) ∨
        (∃ p, r = .zoneSet p ∧ ¬ zoneInTable p) ∨
        (∃ sel p, r = .bladeSet sel p ∧ (2 < sel.toNat ∨ ¬ bladeInTable p)) ∨
        (∃ sel p, r = .guardSet sel p ∧ (2 < sel.toNat ∨ ∀ g, guardSettingsOf p = some g → ¬ guardInTable g)) →
      exec c s = .next (s.answering .cell (requestCode r) (.refused .badValue .none)))

/-- ZONE SET in IDLE with no zone on takes its four settings; an input whose polarity it changes is judged again from not
good, and nothing else changes. With a zone on it is refused with BUDGET-IN-USE (R84, R85; its timing begins afresh: log 23).
BED SET in IDLE takes the separation and both park points when the parks and the effective places of the heads keep the new
separation, moves each head that is out of service to its new park, and changes nothing else; where they do not keep it, the
request is refused and changes nothing (R59, R60, R63). -/
def Obligations.ZoneSetAndBedSetAreTaken : Prop :=
  (∀ (s : State) (p : ZoneSetReq), s.listens .cell = true → s.job.state = .idle → zoneInTable p → s.zones.length = 16 →
     let cfg : ZoneSettings := ⟨p.budget.toNat, p.pullTimeout.toNat, p.deglitch.toNat, p.activeHigh⟩
     ((∃ k < 16, s.vac k = true) →
       exec (.zoneSet .cell p) s = .next (s.answering .cell 0x2A (.refused .budgetInUse .none))) ∧
     ((∀ k < 16, s.vac k = false) →
       ∃ t : State, exec (.zoneSet .cell p) s = .next (t.answering .cell 0x2A (.accepted (.zoneSettings cfg))) ∧
         t = { s with zoneSettings := cfg, zones := t.zones } ∧ t.zones.length = 16 ∧
         ∀ k < 16, t.zone k =
           if s.zoneSettings.activeHigh.getLsbD k = p.activeHigh.getLsbD k then s.zone k
           else { s.zone k with good := false, steady := 0 })) ∧
  ∀ (s : State) (separation : Half) (pa pb : PointReq), s.listens .cell = true → s.job.state = .idle →
     bedInTable separation pa pb →
     let at' := fun (h : HeadId) (p : PointReq) => if (s.head h).service = .inService then (s.head h).standing.x else p.x.toNat
     (pb.x.toNat < pa.x.toNat + separation.toNat →
       exec (.bedSet .cell separation pa pb) s = .next (s.answering .cell 0x29 (.refused .parksTooClose .none))) ∧
     (pa.x.toNat + separation.toNat ≤ pb.x.toNat → at' .b pb < at' .a pa + separation.toNat →
       exec (.bedSet .cell separation pa pb) s = .next (s.answering .cell 0x29 (.refused .clearance .none))) ∧
     (pa.x.toNat + separation.toNat ≤ pb.x.toNat → at' .a pa + separation.toNat ≤ at' .b pb → (∀ h, s.Steady h) →
       (∀ h, (s.head h).window = [] ∧ (s.head h).watch = Watch.empty) →
       let geometry : BedGeometry := ⟨separation.toNat, ⟨pa.x.toNat, pa.y.toNat⟩, ⟨pb.x.toNat, pb.y.toNat⟩⟩
       let moved := fun (hd : Head) (p : PointReq) =>
         if hd.service = .inService then hd
         else { hd with standing := ⟨p.x.toNat, p.y.toNat⟩, claim := ⟨p.x.toNat, p.x.toNat⟩ }
       exec (.bedSet .cell separation pa pb) s =
         .next (({ s with bed := geometry, heads := ⟨moved s.heads.a pa, moved s.heads.b pb⟩ }).answering .cell 0x29
           (.accepted (.bed geometry))))

/-- BLOCK-LOAD in IDLE of 1 to 6 layers, each of 1 to 400 mm and of a defined class, 400 mm together at most, stages the job:
the stack and label are taken, the piece table is emptied, every zone that is on goes OFF and no other changes, and both heads
and the class table are as they were. Any other stack is refused with BAD-VALUE, STACK-TOO-TALL or CLASS-UNDEFINED, by the first
test it fails, and nothing changes (R7, R8, R153). -/
def Obligations.BlockLoadStages : Prop :=
  ∀ (s : State) (layers : List LayerReq) (label : Option Long), s.listens .cell = true → s.job.state = .idle →
    let answers := fun reason => exec (.blockLoad .cell layers label) s = .next (s.answering .cell 0x20 (.refused reason .none))
    let fits := 1 ≤ layers.length ∧ layers.length ≤ 6 ∧
      ∀ y ∈ layers, 1 ≤ y.thickness.toNat ∧ y.thickness.toNat ≤ 400 ∧ y.cls.toNat ≤ 15
    let height := (layers.map fun y => y.thickness.toNat).sum
    let known := ∀ y ∈ layers, (s.job.classes.getD y.cls.toNat none).isSome = true
    (¬ fits → answers .badValue) ∧ (fits → 400 < height → answers .stackTooTall) ∧
    (fits → height ≤ 400 → ¬ known → answers .classUndefined) ∧
    (fits → height ≤ 400 → known → s.zones.length = 16 → (∀ h, s.Steady h) →
    (∀ h, (s.head h).window = [] ∧ (s.head h).pendingReq = none ∧ (s.head h).watch = Watch.empty) →
    ∃ t : State, exec (.blockLoad .cell layers label) s = .next (t.answering .cell 0x20 (.accepted (.job .staged))) ∧
      t = { s with
        job := ⟨.staged, layers.map fun y => ⟨y.thickness.toNat, y.cls.toNat⟩, label, s.job.classes⟩
        pieces := [], retained := false, zones := t.zones } ∧
      t.zones = s.zones.map fun z => if z.st.on = true then { z with st := .off, pull := none } else z)

/-- OPEN in STAGED, with home points on the bed that keep the separation (a head out of service is at its park), begins the
job: each head stands at its home with an empty queue and window, number 1 expected and T = 16; NO-JOB leaves, and the blade
of a head in service is asked for IDLE, so that a stopped one begins its climb and the stop-delay timer runs. It is refused
outside STAGED, with a home of a head in service off the bed, and with homes too close, and then changes nothing (R9, R10, R105,
R107). -/
def Obligations.OpenBeginsTheJob : Prop :=
  ∀ (s : State) (homeA homeB : PointReq), s.listens .cell = true →
    let answers := fun reason => exec (.openJob .cell homeA homeB) s = .next (s.answering .cell 0x21 (.refused reason .none))
    (s.job.state ≠ .staged → answers .wrongJobState) ∧
    (s.job.state = .staged →
      (s.heads.a.service = .inService ∧ (31999 < homeA.x.toNat ∨ 20999 < homeA.y.toNat)) ∨
        (s.heads.b.service = .inService ∧ (31999 < homeB.x.toNat ∨ 20999 < homeB.y.toNat)) → answers .badValue) ∧
    (s.job.state = .staged → (∀ h, s.Steady h) →
    (∀ h, (s.head h).window = [] ∧ (s.head h).blade.idleTimer = none) →
    let home := fun (h : HeadId) => if (s.head h).service = .inService then
        (match h with | .a => (⟨homeA.x.toNat, homeA.y.toNat⟩ : Point) | .b => ⟨homeB.x.toNat, homeB.y.toNat⟩)
      else s.park h
    (∀ h, (s.head h).service = .inService → (home h).x ≤ 31999 ∧ (home h).y ≤ 20999) →
    ((home .b).x < (home .a).x + s.bed.separation → answers .homesTooClose) ∧
    ((home .a).x + s.bed.separation ≤ (home .b).x →
      ∃ t : State, exec (.openJob .cell homeA homeB) s = .next t ∧ Answers s t .cell 0x21 (.accepted (.job .cutting)) ∧
        SameSettings s t ∧ SameZones s t ∧ SamePieces s t ∧ t.job.state = .cutting ∧
        RaisesOnly s t (AttSet.ofHoldChanged.union AttSet.ofWaitCleared) ∧
        ∀ h, (t.head h).queue = [] ∧ (t.head h).window = [] ∧ (t.head h).nextSeq = 1 ∧ (t.head h).runs = [] ∧
          (t.head h).floor = 1 ∧ (t.head h).ref = ⟨home h, none, .standing⟩ ∧ (t.head h).standing = home h ∧
          (t.head h).claim = ⟨(home h).x, (home h).x⟩ ∧ (t.head h).service = (s.head h).service ∧
          (t.head h).hold.noJob = false ∧ (t.head h).hold.cellHold = (s.head h).hold.cellHold ∧
          (t.head h).pendingReq = (s.head h).pendingReq ∧ (t.head h).overdue = (s.head h).overdue ∧
          (t.link (.head h)).attention.holdChanged = true ∧
          ((s.head h).service ≠ .inService → (t.head h).blade = { (s.head h).blade with trim := 16 }) ∧
          ((s.head h).service = .inService →
            (t.head h).blade.demand = .idle ∧ (t.head h).blade.trim = 16 ∧
            (t.head h).blade.stopTimer = some ((s.head h).bladeParams.stopDelay * 1000000) ∧
            ((s.head h).blade.st ≠ .stopped → (t.head h).blade.st = (s.head h).blade.st) ∧
            ((s.head h).blade.st = .stopped → (t.head h).blade.st = .spinup ∧ (t.head h).blade.target = .idle ∧
              (t.head h).blade.step = 1 ∧ (t.head h).blade.stepCount = 0 ∧ (t.head h).blade.brake = false ∧
              (t.head h).blade.watchLeft = some 1000000 ∧
              (t.head h).blade.commanded = (s.head h).bladeParams.stepRate .idle 1))))

/-- CLOSE in CUTTING: with work in any of the four queues and windows the job becomes CLOSING and nothing else changes; with
none it drains at once, and stops both blades with their brakes off. In any other job state it is refused (R11, R12). -/
def Obligations.CloseDrainsOrWaits : Prop :=
  ∀ (s : State), s.listens .cell = true →
    (s.job.state ≠ .cutting → exec (.close .cell) s = .next (s.answering .cell 0x22 (.refused .wrongJobState .none))) ∧
    (s.job.state = .cutting → (∀ h, s.Steady h) →
      ((∃ h, (s.head h).queue ≠ [] ∨ (s.head h).window ≠ []) →
        exec (.close .cell) s =
          .next (({ s with job := { s.job with state := .closing } }).answering .cell 0x22 (.accepted (.job .closing)))) ∧
      ((∀ h, (s.head h).queue = [] ∧ (s.head h).window = []) → s.zones.length = 16 →
        ∃ t : State, exec (.close .cell) s = .next t ∧ Answers s t .cell 0x22 (.accepted (.job .idle)) ∧ SameSettings s t ∧
          Drained t ∧ (∀ h, SamePath s t h) ∧ VentsUnneeded s t ∧ RaisesOnly s t AttSet.ofHoldChanged ∧
          t.pieces = s.pieces.map (fun p => if p.st = .declared ∨ p.st = .part then { p with st := .scrapped } else p) ∧
          (∀ h, (s.head h).blade.st.accepts = true → (t.head h).blade.st = .stopped ∧ (t.head h).blade.brake = false) ∧
          ∀ h, (s.head h).blade.st.accepts = false → (t.head h).blade.st = (s.head h).blade.st ∧
            (t.head h).blade.brake = (s.head h).blade.brake))

/-- ABORT in any job state but IDLE: every queue and window empties and its numbers are WITHDRAWN; both heads stay where they
stood, claim that place alone, and lose OVERDUE, watch and pending request; a running blade stops under its abort stop action
and the others keep their state; open pieces are scrapped; zones that nothing needs any more vent, none is started (R13 to
R16). A stopped overdue timer holds the allowance 0: the model's choice (log 38). -/
def Obligations.AbortStopsEverything : Prop :=
  ∀ (s : State), s.listens .cell = true →
    (s.job.state = .idle → exec (.abort .cell) s = .next (s.answering .cell 0x23 (.refused .wrongJobState .none))) ∧
    (s.job.state ≠ .idle → s.zones.length = 16 →
      ∃ t : State, exec (.abort .cell) s = .next t ∧ Answers s t .cell 0x23 (.accepted (.job .idle)) ∧ SameSettings s t ∧
        t.job.state = .idle ∧ t.mark = none ∧ VentsUnneeded s t ∧
        RaisesOnly s t AttSet.ofHoldChanged ∧ t.retained = s.retained ∧
        t.pieces = s.pieces.map (fun p => if p.st = .declared ∨ p.st = .part then { p with st := .scrapped } else p) ∧
        ∀ h, (t.head h).queue = [] ∧ (t.head h).window = [] ∧ (t.head h).nextSeq = (s.head h).nextSeq ∧
          (t.head h).ref = (s.head h).ref ∧ (t.head h).service = (s.head h).service ∧
          (t.head h).standing = (s.head h).standing ∧
          (t.head h).claim = ⟨(s.head h).standing.x, (s.head h).standing.x⟩ ∧
          (t.head h).overdue = ⟨.stopped, 0, 0⟩ ∧ (t.head h).hold.overdue = false ∧ (t.head h).hold.noJob = true ∧
          (t.head h).hold.cellHold = (s.head h).hold.cellHold ∧ (t.head h).watch = Watch.empty ∧
          (t.head h).pendingReq = none ∧ (t.head h).blade.demand = .off ∧ (t.head h).blade.idleTimer = none ∧
          (t.head h).blade.stopTimer = none ∧ (t.head h).blade.trim = (s.head h).blade.trim ∧
          (t.head h).blade.retries = (s.head h).blade.retries ∧ (t.head h).blade.record = (s.head h).blade.record ∧
          ((s.head h).blade.st.accepts = true →
            (t.head h).blade.st = .stopped ∧ ((t.head h).blade.brake = true ↔ (s.head h).guard.abortAction = .brake)) ∧
          ((s.head h).blade.st.accepts = false →
            (t.head h).blade.st = (s.head h).blade.st ∧ (t.head h).blade.brake = (s.head h).blade.brake) ∧
          ((s.head h).runs.length + (s.head h).numbers.length ≤ 16 → ∀ n ∈ (s.head h).numbers, (t.head h).Withdrew n))

/-! ### Segments and the governor -/

/-- A SEGMENT is accepted exactly when it passes the eleven checks, and then it joins the newest end of the queue with its joint
class and turn, the next number is expected, the reference moves to its end, a watched QUEUE-EMPTY ceases, and nothing else
changes (R24 to R36, R75). -/
def Obligations.SegmentsAreQueued : Prop :=
  ∀ (s : State) (h : HeadId) (r : SegmentReq), s.listens (.head h) = true →
    (s.head h).ref.heading.getD 0 ≤ 3599 →
    let joint := fun (g : Segment) (cls : JointClass) (turn : Nat) =>
      (¬ (s.head h).Jointed g ∧ cls = .free ∧ turn = 0) ∨
        ((s.head h).Jointed g ∧ ∃ delta, (s.head h).Turns g delta ∧ turn = delta.natAbs ∧
          cls = if turn ≤ (s.head h).cut.soft then .smooth else .pivot)
    (∀ k g cls turn, segKindOf r.kind = some k → g = segmentOf r k → s.SegPasses h g → joint g cls turn →
      turn ≤ (s.head h).cut.maxTurn → s.TagsOpen g → (∀ i, s.Steady i) →
      exec (.segment (.head h) r) s = .next (((s.setHead h { s.head h with
          queue := (s.head h).queue ++ [⟨g, cls, turn⟩], nextSeq := g.number + 1
          ref := ⟨g.last, some g.exit, if g.kind = .air then .air else .cutting⟩
          watch := if (s.head h).watch.reasons.queueEmpty = true then Watch.empty else (s.head h).watch }).raise (.head h)
            { AttSet.empty with waitCleared := (s.head h).watch.reasons.queueEmpty }).answering (.head h) 0x10
          (.accepted (.segment g.number cls turn ((s.head h).queue.length + 1 + (s.head h).window.length))))) ∧
    ∀ t content, exec (.segment (.head h) r) s = .next t →
      (t.link (.head h)).inFlight = some ⟨0x10, .accepted content, false⟩ →
      ∃ k g cls turn, segKindOf r.kind = some k ∧ g = segmentOf r k ∧ s.SegPasses h g ∧ joint g cls turn ∧
        turn ≤ (s.head h).cut.maxTurn ∧ s.TagsOpen g

/-- The first six checks of SEGMENT on a head in any state: the job, the service state, the sequence number against the next
expected one, the room in queue and window, the range of each field and then the bed, the start point against the reference,
which the reply carries, and the X span (R25 to R30). -/
def Obligations.SegmentNumbersAreChecked : Prop :=
  ∀ (s : State) (h : HeadId) (r : SegmentReq), s.listens (.head h) = true →
    let answers := fun reply => exec (.segment (.head h) r) s = .next (s.answering (.head h) 0x10 reply)
    let n := r.number.toNat
    let e := (s.head h).nextSeq
    (s.job.state ≠ .cutting → answers (.refused .wrongJobState .none)) ∧
    (s.job.state = .cutting → (s.head h).service ≠ .inService → answers (.refused .headOutOfService .none)) ∧
    (s.job.state = .cutting → (s.head h).service = .inService →
      (n = 0 → answers (.refused .badValue .none)) ∧
      (n ≠ 0 → e = 65536 →
        (n = 65535 ∨ n ∈ (s.head h).numbers → answers (.already n ((s.head h).numState n) e)) ∧
        (n ≠ 65535 → n ∉ (s.head h).numbers → answers (.refused .sequenceExhausted .none))) ∧
      (n ≠ 0 → e ≠ 65536 →
        (n < e → answers (.already n ((s.head h).numState n) e)) ∧
        (e < n → answers (.refused .sequenceGap (.next e))) ∧
        (n = e → 32 ≤ (s.head h).queue.length + (s.head h).window.length → answers (.refused .queueFull .none)))) ∧
    (s.SegTaken h (segmentOf r ((segKindOf r.kind).getD .line)) →
      (SegOutOfRange r → answers (.refused .badValue .none)) ∧
      (¬ SegOutOfRange r → SegOffBed r → answers (.refused .outsideBed .none)) ∧
      ∀ k, segKindOf r.kind = some k → (segmentOf r k).InRanges →
        ((segmentOf r k).first ≠ (s.head h).ref.point →
          answers (.refused .discontinuous (.reference (s.head h).ref.point))) ∧
        ((segmentOf r k).first = (s.head h).ref.point → ¬ (s.head h).SegPlaced (segmentOf r k) →
          answers (.refused .extentMismatch .none)))

/-- A LINE or an AIR segment that passes the checks before is refused with HEADING-MISMATCH when its two headings differ; an
arc's headings are taken as given, and no other segment is so refused (R31). -/
def Obligations.HeadingsMustAgree : Prop :=
  ∀ (s : State) (h : HeadId) (r : SegmentReq) (k : SegKind), s.listens (.head h) = true → segKindOf r.kind = some k →
    let g := segmentOf r k
    s.SegTaken h g → g.InRanges → (s.head h).SegPlaced g →
      (k = .line ∨ k = .air → r.entry ≠ r.exit →
        exec (.segment (.head h) r) s = .next (s.answering (.head h) 0x10 (.refused .headingMismatch .none))) ∧
      (k = .arcCw ∨ k = .arcCcw ∨ r.entry = r.exit →
        ∀ t d, exec (.segment (.head h) r) s = .next t →
          (t.link (.head h)).inFlight ≠ some ⟨0x10, .refused .headingMismatch d, false⟩) ∧
      ∀ t content, (s.head h).ref.heading.getD 0 ≤ 3599 → exec (.segment (.head h) r) s = .next t →
        (t.link (.head h)).inFlight = some ⟨0x10, .accepted content, false⟩ →
        (t.head h).ref.heading = some r.exit.toNat ∧
          ((s.head h).Jointed g → ∃ e delta, (t.head h).queue.getLast? = some e ∧ (s.head h).Turns g delta ∧
            e.turn = delta.natAbs)

/-- The checks on the length, on an arc's radius, on the joint turn and on the tags, each after those before it: the length
against the points and the circle, the radius against the head's blade width, the turn against the head's maximum with the
turn in the reply, and the first tag that fails (R32 to R35). -/
def Obligations.ArcsTurnsAndTagsAreChecked : Prop :=
  ∀ (s : State) (h : HeadId) (r : SegmentReq) (k : SegKind), s.listens (.head h) = true → segKindOf r.kind = some k →
    (s.head h).ref.heading.getD 0 ≤ 3599 →
    let g := segmentOf r k
    let answers := fun reply => exec (.segment (.head h) r) s = .next (s.answering (.head h) 0x10 reply)
    s.SegTaken h g → g.InRanges → (s.head h).SegPlaced g → g.OneHeading →
      (¬ g.PlausibleLength → answers (.refused .lengthImplausible .none)) ∧
      (g.PlausibleLength → ¬ (s.head h).WideEnough g → answers (.refused .radiusTooSmall .none)) ∧
      (g.PlausibleLength → (s.head h).WideEnough g →
        (∀ delta, (s.head h).Jointed g → (s.head h).Turns g delta → (s.head h).cut.maxTurn < delta.natAbs →
          answers (.refused .turnTooSharp (.turn delta.natAbs))) ∧
        ((¬ (s.head h).Jointed g ∨
            ∃ delta, (s.head h).Turns g delta ∧ delta.natAbs ≤ (s.head h).cut.maxTurn) →
          (k = .air → g.tags ≠ [] → answers (.refused .airTagged .none)) ∧
          (k ≠ .air → ¬ g.tags.Nodup → answers (.refused .pieceRepeated .none)) ∧
          (k ≠ .air → g.tags.Nodup → ∀ before tag after, g.tags = before ++ tag :: after →
            (∀ t ∈ before, ∃ p, s.findPiece t = some p ∧ (p.st = .declared ∨ p.st = .part)) →
            (s.findPiece tag = none → answers (.refused .unknownPiece (.tag tag))) ∧
            ∀ p, s.findPiece tag = some p → p.st ≠ .declared → p.st ≠ .part → answers (.refused .pieceClosed (.tag tag)))))

/-- FLUSH of a head in service: an empty queue changes nothing; otherwise every queued entry goes and its number is FLUSHED, the
reference moves back to the newest window entry or the standing point, the watch empties silently, the pending request goes, a
mark the head holds is cleared or passes, zones no longer needed vent, and the rest stays (R39, R88, R91). Where nothing is left
of a closing job it drains (R12). The reply to a FLUSH of an empty queue carries no numbers: DEDUCED (log 29). The mark is
dropped before need is re-evaluated: the model's choice (log 30). -/
def Obligations.FlushRetiresTheQueue : Prop :=
  ∀ (s : State) (h : HeadId), s.listens (.head h) = true →
    ((s.head h).service ≠ .inService →
      exec (.flush (.head h)) s = .next (s.answering (.head h) 0x11 (.refused .headOutOfService .none))) ∧
    ((s.head h).service = .inService → (s.head h).queue = [] →
      exec (.flush (.head h)) s = .next (s.answering (.head h) 0x11 (.accepted (.flush 0 none (s.head h).ref)))) ∧
    (∀ f q e, (s.head h).service = .inService → (s.head h).queue = f :: q → (f :: q).getLast? = some e →
      ∃ t : State, exec (.flush (.head h)) s = .next t ∧
        Answers s t (.head h) 0x11
          (.accepted (.flush (q.length + 1) (some (f.seg.number, e.seg.number)) (t.head h).ref)) ∧
        SameSettings s t ∧ RaisesOnly s t (AttSet.ofWaitCleared.union AttSet.ofHoldChanged) ∧
        (NoOrphans s → s.zones.length = 16 → VentsUnneeded s t) ∧
        (t.head h).queue = [] ∧ (t.head h).window = (s.head h).window ∧ (t.head h).nextSeq = (s.head h).nextSeq ∧
        (t.head h).service = (s.head h).service ∧ SamePlace s t h ∧ (t.head h).watch = Watch.empty ∧
        (t.head h).pendingReq = none ∧ (t.head h).lapse = none ∧
        (⟨f.seg.number, e.seg.number, .flushed⟩ : Run) ∈ (t.head h).runs ∧
        ((s.head h).window = [] → (t.head h).ref = ⟨(s.head h).standing, none, .standing⟩) ∧
        (∀ w, (s.head h).window.getLast? = some w → (t.head h).ref = ⟨w.entry.seg.last, some w.entry.seg.exit,
          if w.entry.seg.kind = .air then .air else .cutting⟩) ∧
        (s.job.state = .closing → (s.head h).window = [] → (s.head h.other).queue = [] → (s.head h.other).window = [] →
          (∀ i, s.Steady i) → Drained t) ∧
        (s.job.state ≠ .closing ∨ (s.head h).window ≠ [] ∨ (s.head h.other).queue ≠ [] ∨ (s.head h.other).window ≠ [] →
          t.job = s.job ∧ SamePieces s t ∧ t.mark = s.markPassed h ∧
            ((∀ i, s.Steady i) → SameHead s t h.other ∧ (t.head h).blade = (s.head h).blade ∧
              (t.head h).hold = (s.head h).hold ∧ (t.head h).overdue = (s.head h).overdue)))

/-- The nine stages of the governor for each kind of segment, every product and division as the manual writes it (R46 to R55).
-/
def Obligations.GovernorStages : Prop :=
  ∀ (j : Job) (p : CutParams) (fCut trim : Nat) (e : Entry),
    let resistance := (j.stack.map fun y => y.thickness * (j.classes.getD y.cls none).getD 0).sum
    let p1 := p.pMax * 256 / (256 + (resistance + 63) / 64)
    let p2 := match e.seg.kind with
      | .line => p1
      | .air => p1
      | .arcCw => p1 * e.seg.radius.getD 0 / (e.seg.radius.getD 0 + 4 * p.w)
      | .arcCcw => p1 * e.seg.radius.getD 0 / (e.seg.radius.getD 0 + 4 * p.w)
    let p3 := p2 * trim / 16
    let feed := if e.seg.kind = .air then p.fAir else max 1 (min p.fMax (max p3 p.pMin * fCut / 1000))
    let expected := (e.seg.length * 6000 + feed - 1) / feed
    let pivot := if e.joint = .pivot ∧ e.seg.kind ≠ .air then (e.turn * p.pivot + 9) / 10 else 0
    govern j p fCut trim e =
      { feed := feed, heavy := decide (e.seg.kind ≠ .air ∧ p3 < p.pMin)
        ceiling := decide (e.seg.kind ≠ .air ∧ p.fMax < max p3 p.pMin * fCut / 1000)
        expected := expected, allowance := min 600000 (2 * (expected + pivot) + p.grace) }

/-- The results of every grant lie in the manual's ranges, for all cut parameters of Table 3-1, every stack, rate, trim and
segment (R58). -/
def Obligations.GovernorRanges : Prop :=
  ∀ (j : Job) (p : CutParams) (fCut trim : Nat) (e : Entry), p.inRange = true → 600 ≤ fCut → fCut ≤ 3000 → 4 ≤ trim →
    trim ≤ 16 → 1 ≤ e.seg.length → e.seg.length ≤ 65535 → (e.joint = .pivot → e.turn ≤ p.maxTurn) →
    let r := govern j p fCut trim e
    (e.seg.kind ≠ .air →
      (∃ p3, p.pMin ≤ p3 ∧ p3 ≤ p.pMax ∧ r.feed = min p.fMax (p3 * fCut / 1000)) ∧ 12 ≤ r.feed ∧ r.feed ≤ p.fMax ∧
        1 ≤ r.expected ∧ r.expected ≤ 32767500 ∧ pivotTime p e ≤ 17000) ∧
    (e.seg.kind = .air → r.feed = p.fAir ∧ 1 ≤ r.expected ∧ r.expected ≤ 3932100 ∧ pivotTime p e = 0) ∧
    202 ≤ r.allowance ∧ r.allowance ≤ 600000

/-! ### Grants -/

/-- A GRANT of an AIR segment that passes the stop checks and the clearance test is made whatever the blade and the zones: the
segment moves to the window with its results, the claim grows over its span, and a timer starts if the window was empty (R56,
R60, R64, R66, R67, R69, R71, R82). -/
def Obligations.AirIsGranted : Prop :=
  ∀ (s : State) (h : HeadId) (e : Entry) (q : List Entry), s.listens (.head h) = true → s.job.state.isOpen = true →
    (s.head h).service = .inService → (s.head h).queue = e :: q → (s.head h).window.length < 4 →
    (s.head h).hold.beyondBlade = false → e.seg.kind = .air → (s.head h).ClaimIsHull → (∀ i, s.Steady i) →
    let claim : Claim := ⟨min (s.head h).claim.lo e.seg.xlo, max (s.head h).claim.hi e.seg.xhi⟩
    let feed := (s.head h).cut.fAir
    let expected := (e.seg.length * 6000 + feed - 1) / feed
    let r : GrantResult := ⟨feed, false, false, expected, min 600000 (2 * expected + (s.head h).cut.grace)⟩
    s.Clear h claim →
      ∃ t : State, exec (.grant (.head h)) s = .next t ∧
        Answers s t (.head h) 0x12
          (.accepted (.grant ⟨e.seg.number, feed, false, false, e.joint, e.turn, expected, r.allowance⟩)) ∧
        SameSettings s t ∧ t.job = s.job ∧ SamePieces s t ∧ t.mark = s.markPassed h ∧ SameHead s t h.other ∧
        (NoOrphans s → s.zones.length = 16 → VentsUnneeded s t) ∧ RaisesOnly s t AttSet.ofWaitCleared ∧
        t.head h = { s.head h with
          queue := q, window := (s.head h).window ++ [⟨e, r, none⟩], claim := claim, pendingReq := none, lapse := none
          watch := Watch.empty
          overdue := if (s.head h).window = [] then
              ⟨if (s.head h).hold.held = true then .paused else .counting, r.allowance * 1000, 0⟩
            else (s.head h).overdue }

/-- A GRANT of a cutting segment with the blade in RUN at CUT, a relief pause or not, and every zone under it HELD is made: as
above, with the governor's results and the zone range, and the demand at CUT held by the window in place of the idle-delay
timer; it adds no hold reason (R64, R68 to R72). -/
def Obligations.CutIsGranted : Prop :=
  ∀ (s : State) (h : HeadId) (e : Entry) (q : List Entry), s.listens (.head h) = true → s.job.state.isOpen = true →
    (s.head h).service = .inService → (s.head h).queue = e :: q → (s.head h).window.length < 4 →
    (s.head h).hold.beyondBlade = false → e.seg.kind ≠ .air → (s.head h).ClaimIsHull → (∀ i, s.Steady i) →
    (s.head h).blade.st = .run → (s.head h).blade.target = .cut →
    (∀ k < 16, e.seg.xlo / 2000 ≤ k → k ≤ e.seg.xhi / 2000 → (s.zone k).st = .held) →
    let claim : Claim := ⟨min (s.head h).claim.lo e.seg.xlo, max (s.head h).claim.hi e.seg.xhi⟩
    let r := govern s.job (s.head h).cut (s.head h).bladeParams.fCut (s.head h).blade.trim e
    s.Clear h claim →
      ∃ t : State, exec (.grant (.head h)) s = .next t ∧
        Answers s t (.head h) 0x12 (.accepted (.grant
          ⟨e.seg.number, r.feed, r.heavy, r.ceiling, e.joint, e.turn, r.expected, r.allowance⟩)) ∧
        SameSettings s t ∧ t.job = s.job ∧ SamePieces s t ∧ t.mark = s.markPassed h ∧ SameHead s t h.other ∧
        (NoOrphans s → s.zones.length = 16 → VentsUnneeded s t) ∧ RaisesOnly s t AttSet.ofWaitCleared ∧
        t.head h = { s.head h with
          queue := q, window := (s.head h).window ++ [⟨e, r, some ⟨e.seg.xlo / 2000, e.seg.xhi / 2000⟩⟩]
          claim := claim, pendingReq := none, lapse := none, watch := Watch.empty
          blade := { (s.head h).blade with idleTimer := none, stopTimer := none, demand := .cut }
          overdue := if (s.head h).window = [] then
              ⟨if (s.head h).hold.held = true then .paused else .counting, r.allowance * 1000, 0⟩
            else (s.head h).overdue }

/-- A GRANT that a stop check or the clearance test stops: refused without an open job or out of service; else WAIT with one
reason, which becomes the head's watch with the segment's zones. Only that watch, a running lapse timer and the timer of a mark
the head holds change (R66, R67, R74, R88, R91). -/
def Obligations.GrantsWaitForTheirTurn : Prop :=
  ∀ (s : State) (h : HeadId), s.listens (.head h) = true →
    let zonesOf := fun (e : Entry) =>
      if e.seg.kind = .air then none else some (⟨e.seg.xlo / 2000, e.seg.xhi / 2000⟩ : ZoneRange)
    let waits := fun (w : WaitSet) (n : Nat) (range : Option ZoneRange) =>
      ∃ t : State, exec (.grant (.head h)) s = .next (t.answering (.head h) 0x12 (.wait w n)) ∧
        t = { s with heads := t.heads, mark := t.mark } ∧ t.head h.other = s.head h.other ∧
        t.head h = { s.head h with lapse := (s.head h).lapse.map fun _ => 2000000, watch := ⟨w, range⟩ } ∧
        t.mark = s.mark.map fun m => if m.holder = h then ⟨h, 2000000⟩ else m
    (s.job.state.isOpen = false →
      exec (.grant (.head h)) s = .next (s.answering (.head h) 0x12 (.refused .wrongJobState .none))) ∧
    (s.job.state.isOpen = true → (s.head h).service ≠ .inService →
      exec (.grant (.head h)) s = .next (s.answering (.head h) 0x12 (.refused .headOutOfService .none))) ∧
    (s.job.state.isOpen = true → (s.head h).service = .inService →
      ((s.head h).queue = [] → waits { WaitSet.empty with queueEmpty := true } 0 none) ∧
      ∀ e q, (s.head h).queue = e :: q →
        (4 ≤ (s.head h).window.length → waits { WaitSet.empty with windowFull := true } e.seg.number (zonesOf e)) ∧
        ((s.head h).window.length < 4 → (s.head h).hold.beyondBlade = true →
          waits { WaitSet.empty with headHeld := true } e.seg.number (zonesOf e)) ∧
        ((s.head h).window.length < 4 → (s.head h).hold.beyondBlade = false → (s.head h).ClaimIsHull →
          ¬ s.Clear h ⟨min (s.head h).claim.lo e.seg.xlo, max (s.head h).claim.hi e.seg.xhi⟩ →
          waits { WaitSet.empty with clearance := true } e.seg.number (zonesOf e)))

/-- A GRANT of a cutting segment that reaches its preparations and lacks the blade or a zone waits with what it lacks: the
idle-delay timer restarts and the demand is CUT, the pending request is the segment's zone range, and the zone request starts
every OFF zone of it or none, as the budget and the other head's mark allow (R68 to R70, R74, R87, R88, R90). A demand that
rises to CUT takes a stopped channel into its climb, gives a climbing one the rates toward CUT at its step, and takes one that
runs or settles at IDLE to the first step above f_idle, or to SETTLING where there is none; a channel that waits or is faulted
notes it (R107 to R109). -/
def Obligations.PreparationsAreMade : Prop :=
  ∀ (s : State) (h : HeadId) (e : Entry) (q : List Entry), s.listens (.head h) = true → s.job.state.isOpen = true →
    (s.head h).service = .inService → (s.head h).queue = e :: q → (s.head h).window.length < 4 →
    (s.head h).hold.beyondBlade = false → e.seg.kind ≠ .air → (s.head h).ClaimIsHull → s.zones.length = 16 →
    s.Clear h ⟨min (s.head h).claim.lo e.seg.xlo, max (s.head h).claim.hi e.seg.xhi⟩ →
    let r : ZoneRange := ⟨e.seg.xlo / 2000, e.seg.xhi / 2000⟩
    let ready := (s.head h).blade.runAtCut
    let faulted := r.list.any fun k => (s.zone k).st = .fault
    let held := r.list.all fun k => (s.zone k).st = .held
    let off := r.list.filter fun k => (s.zone k).st = .off
    let reserved := match s.mark with
      | none => 0
      | some m => if m.holder = h then 0 else match (s.head m.holder).pendingReq with
        | none => 0
        | some x => (x.list.filter fun k => (s.zone k).st = .off ∧ r.has k = false).length
    let fits := s.activeCount + off.length + reserved ≤ s.zoneSettings.budget
    ready = false ∨ held = false →
      ∃ (t : State) (w : WaitSet), exec (.grant (.head h)) s = .next t ∧
        Answers s t (.head h) 0x12 (.wait w e.seg.number) ∧ SameSettings s t ∧ t.job = s.job ∧ SamePieces s t ∧
        (∀ i, SamePath s t i) ∧ (t.head h).watch = ⟨w, some r⟩ ∧ (t.head h).pendingReq = some r ∧
        (t.head h).blade.idleTimer = some ((s.head h).bladeParams.idleDelay * 1000) ∧
        (t.head h).blade.demand = .cut ∧ RaisesOnly s t (AttSet.ofWaitCleared.union AttSet.ofHoldChanged) ∧
        ((∀ i, s.Steady i) → SameHead s t h.other) ∧
        w = { WaitSet.empty with
          bladeNotReady := !ready, zoneFaulted := faulted
          zoneBudget := !faulted && !held && !off.isEmpty && decide (¬ fits)
          zonesSettling := !faulted && !held && (off.isEmpty || decide fits) } ∧
        t.mark = (if w.zoneBudget = true ∧ s.mark = none then some ⟨h, 2000000⟩
          else s.mark.map fun m => if m.holder = h then ⟨h, 2000000⟩ else m) ∧
        (w.zonesSettling = true → ∀ k ∈ off, (t.zone k).st = .pulling ∧
          (t.zone k).pull = some (s.zoneSettings.pullTimeout * 1000) ∧ (t.zone k).good = false) ∧
        (NoOrphans s → ∀ k ∈ r.list, (w.zonesSettling = true → k ∉ off) → t.zone k = s.zone k) ∧
        let c := (s.head h).blade
        let c' := (t.head h).blade
        let b := (s.head h).bladeParams
        (c.demand = .cut → c'.st = c.st ∧ c'.target = c.target ∧ c'.commanded = c.commanded) ∧
        (c.demand ≠ .cut →
          (c.st = .stopped → c'.st = .spinup ∧ c'.target = .cut ∧ c'.step = 1 ∧ c'.stepCount = 0 ∧ c'.brake = false ∧
            c'.pulseSeen = false ∧ c'.watchLeft = some 1000000 ∧ c'.commanded = b.stepRate .cut 1) ∧
          (c.st = .spinup → c.target = .idle → c'.st = .spinup ∧ c'.target = .cut ∧ c'.step = c.step ∧
            c'.stepCount = c.stepCount ∧ c'.commanded = b.stepRate .cut c.step) ∧
          ((c.st = .run ∨ c.st = .settling) → c.target = .idle →
            (∀ i < 9, 1 ≤ i → b.fIdle < b.stepRate .cut i → (∀ j < i, 1 ≤ j → b.stepRate .cut j ≤ b.fIdle) →
              c'.st = .spinup ∧ c'.target = .cut ∧ c'.step = i ∧ c'.stepCount = 0 ∧ c'.commanded = b.stepRate .cut i ∧
                c'.watchLeft = some 1000000) ∧
            ((∀ i < 9, 1 ≤ i → b.stepRate .cut i ≤ b.fIdle) →
              c'.st = .settling ∧ c'.target = .cut ∧ c'.commanded = b.fCut ∧ c'.settleCount = 0 ∧ c'.settleStrokes = 0)) ∧
          ((c.st = .retryWait ∨ c.st = .faulted) → c'.st = c.st ∧ c'.brake = c.brake))

/-- A DONE of the oldest window entry completes it: the entry leaves and its number is DONE, the head stands at its end and
claims the hull of what is left, the timer starts for the new oldest entry or stops, OVERDUE leaves, the idle-delay timer
starts when the last cutting segment has left, each tagged open piece gains a credit, and zones no longer needed vent (R77,
R82, R104, R147, R148). Where nothing is left of a closing job it drains (R12). A stopped overdue timer holds the allowance 0:
the model's choice (log 38). -/
def Obligations.DoneCompletes : Prop :=
  ∀ (s : State) (h : HeadId) (n : Half) (w : WinEntry) (ws : List WinEntry), s.listens (.head h) = true →
    (s.head h).window = w :: ws → w.entry.seg.number = n.toNat → n.toNat ≠ 0 → w.entry.seg.tags.Nodup →
      ∃ t : State, exec (.done (.head h) n) s = .next t ∧
        Answers s t (.head h) 0x13 (.accepted (.done n.toNat (t.head h).standing (t.head h).claim)) ∧ SameSettings s t ∧
        (NoOrphans s → s.zones.length = 16 → VentsUnneeded s t) ∧ t.retained = s.retained ∧
        RaisesOnly s t ((AttSet.ofWaitCleared.union AttSet.ofHoldChanged).union AttSet.ofPieceSevered) ∧
        (t.head h).window = ws ∧ (t.head h).queue = (s.head h).queue ∧ SameNumbering s t h ∧
        (t.head h).ref = (s.head h).ref ∧ (t.head h).service = (s.head h).service ∧
        (t.head h).standing = w.entry.seg.last ∧ (t.head h).ClaimIsHull ∧ (t.head h).hold.overdue = false ∧
        (t.head h).hold.cellHold = (s.head h).hold.cellHold ∧
        (ws = [] → (t.head h).overdue = ⟨.stopped, 0, 0⟩) ∧
        (∀ v vs, ws = v :: vs → (t.head h).overdue =
          ⟨if (t.head h).hold.held = true then .paused else .counting, v.result.allowance * 1000, 0⟩) ∧
        (n.toNat < (s.head h).nextSeq → n.toNat ∉ ((ws.map fun v => v.entry.seg.number) ++
            (s.head h).queue.map fun x => x.seg.number) →
          (∀ x ∈ (s.head h).runs, ¬ (x.first ≤ n.toNat ∧ n.toNat ≤ x.last)) → (t.head h).numState n.toNat = .done) ∧
        (s.job.state = .closing → ws = [] → (s.head h).queue = [] → (s.head h.other).queue = [] →
          (s.head h.other).window = [] → (∀ i, s.Steady i) → Drained t) ∧
        (s.job.state ≠ .closing ∨ ws ≠ [] ∨ (s.head h).queue ≠ [] ∨ (s.head h.other).queue ≠ [] ∨
            (s.head h.other).window ≠ [] →
          t.job = s.job ∧ t.mark = s.mark ∧ (t.head h).pendingReq = (s.head h).pendingReq ∧
          t.pieces = s.pieces.map (fun p =>
            if p.id ∈ w.entry.seg.tags ∧ (p.st = .declared ∨ p.st = .part) then
              { p with edges := p.edges + 1, contributors := p.contributors ++ [(h, n.toNat)]
                       st := if p.edges + 1 = p.required then .severed else .part }
            else p) ∧
          ((∃ p ∈ s.pieces, p.id ∈ w.entry.seg.tags ∧ (p.st = .declared ∨ p.st = .part) ∧ p.edges + 1 = p.required) →
            (t.link .cell).attention.pieceSevered = true) ∧
          ((∀ i, s.Steady i) → SameHead s t h.other ∧
            ((s.head h).hold.overdue = false → s.job.state.isOpen = true → (s.head h).service = .inService →
              (t.head h).blade = { (s.head h).blade with
                idleTimer := if w.entry.seg.kind ≠ .air ∧ (∀ v ∈ ws, v.entry.seg.kind = .air) then
                    some ((s.head h).bladeParams.idleDelay * 1000)
                  else (s.head h).blade.idleTimer })))

/-- A DONE of any other number changes nothing: 0 is no value, a window entry that is not the oldest is OUT-OF-ORDER, a number
that is DONE is answered ALREADY, and the rest are NOT-GRANTED with their state or its lack (R22, R76). -/
def Obligations.OtherDonesChangeNothing : Prop :=
  ∀ (s : State) (h : HeadId) (n : Half), s.listens (.head h) = true →
    let answers := fun reply => exec (.done (.head h) n) s = .next (s.answering (.head h) 0x13 reply)
    let inQueue := n.toNat ∈ (s.head h).queue.map fun e => e.seg.number
    let inWindow := n.toNat ∈ (s.head h).window.map fun w => w.entry.seg.number
    (n.toNat = 0 → answers (.refused .badValue .none)) ∧
    (n.toNat ≠ 0 → (∀ w ws, (s.head h).window = w :: ws → w.entry.seg.number ≠ n.toNat) →
      (inQueue → answers (.refused .notGranted (.number .queued))) ∧
      (¬ inQueue → inWindow → answers (.refused .outOfOrder .none)) ∧
      (¬ inQueue → ¬ inWindow → (s.head h).nextSeq ≤ n.toNat →
        answers (.refused .notGranted (.number .notAccepted))) ∧
      (¬ inQueue → ¬ inWindow → n.toNat < (s.head h).nextSeq →
        (n.toNat < (s.head h).floor ∨ (∀ x ∈ (s.head h).runs, ¬ (x.first ≤ n.toNat ∧ n.toNat ≤ x.last)) →
          answers (.already n.toNat .done (s.head h).nextSeq)) ∧
        ∀ x ∈ (s.head h).runs, (s.head h).floor ≤ n.toNat → x.first ≤ n.toNat → n.toNat ≤ x.last →
          (∀ y ∈ (s.head h).runs, y.first ≤ n.toNat → n.toNat ≤ y.last → y.fate = x.fate) →
          answers (.refused .notGranted (.number (match x.fate with | .flushed => .flushed | .withdrawn => .withdrawn)))))

/-- RELEASE of a held head to a point of its claim empties its queue and window, withdraws their numbers, and stands the head
at the point with a fresh reference; the timer stops, OVERDUE, watch and pending request go, the pieces are untouched, and the
rest is as for FLUSH (R79, R80). Where nothing is left of a closing job it drains (R12). A code that names no head, a head out
of service or not held, a point off the bed or outside the claim are refused, and nothing changes. The model's choices: the
mark is dropped before need is re-evaluated (log 30), and a stopped overdue timer holds the allowance 0 (log 38). -/
def Obligations.ReleaseFreesTheHead : Prop :=
  ∀ (s : State) (h : HeadId) (p : PointReq), s.listens .cell = true →
    let place : Point := ⟨p.x.toNat, p.y.toNat⟩
    let answers := fun (code : Byte) reason =>
      exec (.release .cell code p) s = .next (s.answering .cell 0x38 (.refused reason .none))
    let onBed := p.x.toNat ≤ 31999 ∧ p.y.toNat ≤ 20999
    let within := (s.head h).claim.lo ≤ p.x.toNat ∧ p.x.toNat ≤ (s.head h).claim.hi
    let served := (s.head h).service = .inService
    let held := (s.head h).hold.held = true
    (∀ code : Byte, 1 < code.toNat → answers code .badValue) ∧
    (¬ served → answers (headCode h) .headOutOfService) ∧ (served → ¬ held → answers (headCode h) .notHeld) ∧
    (served → held → ¬ onBed → answers (headCode h) .badValue) ∧
    (served → held → onBed → ¬ within → answers (headCode h) .positionOutsideClaim) ∧
    (served → held → onBed → within → ∃ t : State, exec (.release .cell (headCode h) p) s = .next t ∧
      Answers s t .cell 0x38 (.accepted (.release (s.head h).numbers.length place)) ∧ SameSettings s t ∧
      (NoOrphans s → s.zones.length = 16 → VentsUnneeded s t) ∧
      RaisesOnly s t (AttSet.ofWaitCleared.union AttSet.ofHoldChanged) ∧
      (t.head h).queue = [] ∧ (t.head h).window = [] ∧ (t.head h).nextSeq = (s.head h).nextSeq ∧
      (t.head h).ref = ⟨place, none, .standing⟩ ∧ (t.head h).standing = place ∧ (t.head h).claim = ⟨place.x, place.x⟩ ∧
      (t.head h).service = .inService ∧ (t.head h).overdue = ⟨.stopped, 0, 0⟩ ∧ (t.head h).hold.overdue = false ∧
      (t.head h).hold.zone = false ∧ (t.head h).hold.cellHold = (s.head h).hold.cellHold ∧
      (t.head h).watch = Watch.empty ∧ (t.head h).pendingReq = none ∧ t.retained = s.retained ∧
      ((s.head h).runs.length + (s.head h).numbers.length ≤ 16 → ∀ n ∈ (s.head h).numbers, (t.head h).Withdrew n) ∧
      (s.job.state = .closing → (s.head h.other).queue = [] → (s.head h.other).window = [] → (∀ i, s.Steady i) →
        Drained t) ∧
      (s.job.state ≠ .closing ∨ (s.head h.other).queue ≠ [] ∨ (s.head h.other).window ≠ [] →
        t.job = s.job ∧ t.pieces = s.pieces ∧ t.mark = s.markPassed h ∧
          (t.head h).blade.idleTimer = (if (∃ w ∈ (s.head h).window, w.entry.seg.kind ≠ .air) then
            some ((s.head h).bladeParams.idleDelay * 1000) else (s.head h).blade.idleTimer) ∧
          ((∀ i, s.Steady i) → SameHead s t h.other)))

/-! ### Zones and timers -/

/-- A pull timer that runs out faults its zone: the valve closes, the fault count rises, ZONE-FAULT goes to the cell link, and
every head with a cut over the zone is held; with no zone waiting for a restart the other zones only see the time pass (R94 to
R97). ZONE CLEAR of a zone in FAULT turns it OFF with its fault count kept, and ends a watched ZONE-FAULTED over it; where a
cut lies over the zone and the budget has room it pulls at once. Another zone, or no zone, is refused (R94, R95, R97). The
model's choices: the time to the deadline passes at the expiry (log 2), and without a running pull timer there is no timeout,
so that the row changes nothing (log 28). -/
def Obligations.ZonesFaultAndClear : Prop :=
  (∀ (s : State) (k : Fin 16), s.zones.length = 16 →
     ((s.zone k).st ≠ .pulling → (s.zone k).st ≠ .lost → exec (.pullTimeout k) s = .next s) ∧
     ∀ left, (s.zone k).st = .pulling ∨ (s.zone k).st = .lost → (s.zone k).pull = some left →
       ∃ t : State, exec (.pullTimeout k) s = .next t ∧
         t = { s.elapse left with heads := t.heads, links := t.links, zones := t.zones } ∧ LinesQuiet s t ∧
         RaisesOnly s t ((AttSet.ofWaitCleared.union AttSet.ofHoldChanged).union AttSet.ofZoneFault) ∧
         (t.zone k).st = .fault ∧ t.vac k = false ∧ (t.zone k).pull = none ∧ (t.zone k).good = (s.zone k).good ∧
         (t.zone k).faults = min 255 ((s.zone k).faults + 1) ∧ (t.link .cell).attention.zoneFault = true ∧
         (∀ h, SamePath s t h ∧ ((s.head h).cutsOver k = true → (t.head h).hold.zone = true) ∧
           ((s.head h).watch.reasons.zoneBudget = true →
             (t.head h).watch = Watch.empty ∧ (t.link (.head h)).attention.waitCleared = true)) ∧
         (NoOrphans s → ∀ j < 16, j ≠ k.val → t.zone j = (s.zone j).elapse left)) ∧
  ∀ (s : State) (k : Byte), s.listens .cell = true → s.zones.length = 16 →
     (15 < k.toNat → exec (.zoneClear .cell k) s = .next (s.answering .cell 0x3D (.refused .badValue .none))) ∧
     (k.toNat ≤ 15 → (s.zone k.toNat).st ≠ .fault →
       exec (.zoneClear .cell k) s = .next (s.answering .cell 0x3D (.refused .zoneNotFaulted .none))) ∧
     (k.toNat ≤ 15 → (s.zone k.toNat).st = .fault →
       ∃ t : State, exec (.zoneClear .cell k) s = .next t ∧
         Answers s t .cell 0x3D (.accepted (.zone (t.zone k.toNat).st (s.zone k.toNat).faults)) ∧
         t = { s with heads := t.heads, links := t.links, zones := t.zones } ∧
         (t.zone k.toNat).faults = (s.zone k.toNat).faults ∧
         ((s.heads.a.cutsOver k.toNat = false ∧ s.heads.b.cutsOver k.toNat = false ∨ s.zoneSettings.budget ≤ s.activeCount) →
           (t.zone k.toNat).st = .off ∧ (t.zone k.toNat).pull = none) ∧
         (NoOrphans s → (s.heads.a.cutsOver k.toNat = true ∨ s.heads.b.cutsOver k.toNat = true) →
           s.activeCount < s.zoneSettings.budget →
           (t.zone k.toNat).st = .pulling ∧ (t.zone k.toNat).pull = some (s.zoneSettings.pullTimeout * 1000) ∧
             (t.zone k.toNat).good = false) ∧
         (NoOrphans s → ∀ j < 16, j ≠ k.toNat → t.zone j = s.zone j) ∧
         (∀ h, (s.head h).watch.reasons.zoneFaulted = true → rangeHas (s.head h).watch.range k.toNat = true →
           (t.head h).watch = Watch.empty ∧ (t.link (.head h)).attention.waitCleared = true) ∧
         ((∀ h, s.Steady h) → (∀ h, SameHead s t h) ∧ RaisesOnly s t AttSet.ofWaitCleared))

/-- An input reads good through its polarity, and the debounced level changes when the input has read the other level without
interruption for the deglitch time. An edge of a line starts the timing of its level again, so that a shorter excursion is
ignored; it leaves the other lines and their timing, and a change that is due at its moment comes first. The change acts on
the zone's state: PULLING and LOST go to HELD and stop the pull timer, HELD goes to LOST and starts it; OFF and FAULT keep
their state. A head with a cut over a lost zone is held. The time of the change passes first, and the other zones only see it
pass; a pull timeout that falls before the change is taken first, and the zone goes to FAULT (R85, R92 to R94, R96). The
model's choices: a row carries the edges of the lines and then brings the clock to the change it names (log 2, log 25), the
timing begins as log 23 says, and a row without edges that names no change to come is no event (log 28). -/
def Obligations.PressureMovesTheZone : Prop :=
  (∀ (s : State) (k : Fin 16),
     (s.zoneSettings.activeHigh.getLsbD k = false → (s.readsGood k = true ↔ s.prs.getLsbD k = false)) ∧
     (s.zoneSettings.activeHigh.getLsbD k = true → (s.readsGood k = true ↔ s.prs.getLsbD k = true)) ∧
     (s.readsGood k = (s.zone k).good → s.changeIn k = none) ∧
     (s.readsGood k ≠ (s.zone k).good →
       s.changeIn k = some (s.zoneSettings.deglitch * 1000 - (s.zone k).steady))) ∧
  (∀ (s : State) (e : Edge), s.zones.length = 16 → ZonesQuietFor e.after s →
     let t := s.edge e
     let afresh := some (s.zoneSettings.deglitch * 1000)
     (∀ j < 16, t.prs.getLsbD j = if j = e.line.val then !(s.prs.getLsbD j) else s.prs.getLsbD j) ∧
     (s.changeIn e.line = some e.after →
       (t.zone e.line).good = !(s.zone e.line).good ∧ t.changeIn e.line = afresh) ∧
     (s.changeIn e.line ≠ some e.after →
       t = { s.elapse e.after with zones := t.zones, prs := t.prs } ∧
         t.zone e.line = { (s.zone e.line).elapse e.after with steady := 0 } ∧
         (∀ j < 16, j ≠ e.line.val → t.zone j = (s.zone j).elapse e.after) ∧
         t.changeIn e.line = if s.readsGood e.line = (s.zone e.line).good then afresh else none)) ∧
  ∀ (s : State) (k : Fin 16), s.zones.length = 16 → s.resetHold = none →
    (∀ e edges, exec (.pressureGood ⟨k, e :: edges⟩) s = exec (.pressureGood ⟨k, edges⟩) (s.edge e) ∧
      exec (.pressureLoss ⟨k, e :: edges⟩) s = exec (.pressureLoss ⟨k, edges⟩) (s.edge e)) ∧
    ((s.zone k).good = true ∨ s.changeIn k = none → exec (.pressureGood ⟨k, []⟩) s = .next s) ∧
    ((s.zone k).good = false ∨ s.changeIn k = none → exec (.pressureLoss ⟨k, []⟩) s = .next s) ∧
    (∀ d left, s.changeIn k = some d → (s.zone k).pullLeft = some left → left < d → (s.zone k).good = false → NoOrphans s →
      (∀ j < 16, j ≠ k.val → (∀ x ∈ s.changeIn j, d ≤ x) ∧ ∀ x ∈ (s.zone j).pullLeft, d ≤ x) →
      ∃ t : State, exec (.pressureGood ⟨k, []⟩) s = .next t ∧ (t.zone k).st = .fault ∧ t.vac k = false ∧
        (t.zone k).good = true ∧ (t.zone k).faults = min 255 ((s.zone k).faults + 1) ∧
        (t.link .cell).attention.zoneFault = true ∧ LinesQuiet s t ∧ ∀ h, SamePath s t h) ∧
    ∀ d, s.changeIn k = some d → ZonesQuietFor d s →
      let z := (s.zone k).elapse d
      let frame := fun t : State =>
        t = { s.elapse d with heads := t.heads, links := t.links, zones := t.zones } ∧ LinesQuiet s t ∧
          RaisesOnly s t (AttSet.ofWaitCleared.union AttSet.ofHoldChanged) ∧ (∀ h, SamePath s t h) ∧
          (∀ j < 16, j ≠ k.val → t.zone j = (s.zone j).elapse d) ∧
          t.readsGood k = (t.zone k).good ∧ t.changeIn k = none ∧ (t.zone k).faults = (s.zone k).faults
      ((s.zone k).good = false →
        ∃ t : State, exec (.pressureGood ⟨k, []⟩) s = .next t ∧ frame t ∧ (t.zone k).good = true ∧
          ((s.zone k).st = .pulling ∨ (s.zone k).st = .lost → (t.zone k).st = .held ∧ (t.zone k).pull = none) ∧
          ((s.zone k).st ≠ .pulling → (s.zone k).st ≠ .lost → (t.zone k).st = (s.zone k).st ∧ (t.zone k).pull = z.pull) ∧
          (∀ h, ((s.zone k).st = .pulling ∨ (s.zone k).st = .lost) → (s.head h).watch.reasons.zonesSettling = true →
            (∃ r, (s.head h).watch.range = some r ∧ r.has k = true ∧
              ∀ j < 16, r.has j = true → j ≠ k.val → (s.zone j).st = .held) →
            (t.head h).watch = Watch.empty ∧ (t.link (.head h)).attention.waitCleared = true)) ∧
      ((s.zone k).good = true →
        ∃ t : State, exec (.pressureLoss ⟨k, []⟩) s = .next t ∧ frame t ∧ (t.zone k).good = false ∧
          ((s.zone k).st = .held →
            (t.zone k).st = .lost ∧ (t.zone k).pull = some (s.zoneSettings.pullTimeout * 1000) ∧
              ∀ h, (s.head h).cutsOver k = true → (t.head h).hold.zone = true ∧ t.fhold h = true) ∧
          ((s.zone k).st ≠ .held → (t.zone k).st = (s.zone k).st ∧ (t.zone k).pull = z.pull))

/-- The lapse of a pending request drops it, and its zones that nothing else needs vent; the mark's expiry clears the mark, or
passes it to the other head where that head's watch holds ZONE-BUDGET, which then ceases (R88, R91, R97). The model's choices:
the time left passes at the expiry (log 2), and the row of a timer that does not run changes nothing (log 28). -/
def Obligations.RequestsLapseAndMarksExpire : Prop :=
  ∀ (s : State),
    (∀ h, (s.head h).lapse = none → exec (.pendingRequestLapse h) s = .next s) ∧
    (∀ h left, (s.head h).lapse = some left →
      ∃ t : State, exec (.pendingRequestLapse h) s = .next t ∧
        t = { s.elapse left with heads := t.heads, links := t.links, zones := t.zones } ∧ LinesQuiet s t ∧
        RaisesOnly s t (AttSet.ofWaitCleared.union AttSet.ofHoldChanged) ∧ (∀ i, SamePath s t i) ∧
        (t.head h).pendingReq = none ∧ (t.head h).lapse = none ∧ (t.head h.other).pendingReq = (s.head h.other).pendingReq ∧
        (NoOrphans s → s.zones.length = 16 → VentsUnneeded (s.elapse left) t)) ∧
    (s.mark = none → exec .budgetMarkExpiry s = .next s) ∧
    ∀ m, s.mark = some m →
      ∃ t : State, exec .budgetMarkExpiry s = .next t ∧
        t = { s.elapse m.left with heads := t.heads, links := t.links, mark := t.mark } ∧ LinesQuiet s t ∧
        RaisesOnly s t (AttSet.ofWaitCleared.union AttSet.ofHoldChanged) ∧ (∀ i, SamePath s t i) ∧
        t.mark = s.markPassed m.holder ∧
        (∀ i, (t.head i).pendingReq = (s.head i).pendingReq) ∧
        (t.mark ≠ none → (t.head m.holder.other).watch = Watch.empty ∧
          (t.link (.head m.holder.other)).attention.waitCleared = true)

/-- A COUNTING overdue timer that runs out suspends the head: it stops, OVERDUE enters the set and the line asserts,
HEAD-SUSPENDED goes to both links, and a CUT demand is forced to IDLE, so that a channel in RUN at CUT lowers to SETTLING and
BLADE joins the set in the same event (R103, R109, R117, R137). The model's choices: the time left passes at the expiry (log
2), the row changes nothing for a timer that is not COUNTING (log 28), and the stopped timer holds the allowance 0 (log 38).
-/
def Obligations.OverdueSuspendsTheHead : Prop :=
  ∀ (s : State) (h : HeadId),
    ((s.head h).overdue.st ≠ .counting → exec (.overdueExpiry h) s = .next s) ∧
    ((s.head h).overdue.st = .counting → s.Steady h →
      let left := (s.head h).overdue.allowance - (s.head h).overdue.elapsed
      ∃ t : State, exec (.overdueExpiry h) s = .next t ∧
        t = { s.elapse left with heads := t.heads, links := t.links } ∧ LinesQuiet s t ∧
        RaisesOnly s t ((AttSet.ofWaitCleared.union AttSet.ofHoldChanged).union AttSet.ofHeadSuspended) ∧
        (∀ i, SamePath s t i) ∧ (s.Steady h.other → t.head h.other = (s.head h.other).elapse left) ∧
        (t.head h).overdue = ⟨.stopped, 0, 0⟩ ∧ (t.head h).hold.overdue = true ∧ t.fhold h = true ∧
        (t.head h).hold.cellHold = (s.head h).hold.cellHold ∧ (t.head h).pendingReq = (s.head h).pendingReq ∧
        (t.link (.head h)).attention.headSuspended = true ∧ (t.link .cell).attention.headSuspended = true ∧
        (t.link (.head h)).attention.holdChanged = true ∧
        ((s.head h).blade.demand = .cut → (t.head h).blade.demand = .idle) ∧
        ((s.head h).blade.demand = .cut → (s.head h).blade.runAtCut = true → (s.head h).holdsCut = true →
          (t.head h).blade.st = .settling ∧ (t.head h).blade.target = .idle ∧
            (t.head h).blade.commanded = (s.head h).bladeParams.fIdle ∧ (t.head h).hold.blade = true))

/-- The idle-delay timer's expiry ends the CUT demand of a head with no cut in its window: the demand falls to IDLE, the
stop-delay timer starts, and a channel in RUN at CUT lowers; with a cut in the window the demand stays. The stop-delay timer's
expiry takes the demand to OFF and stops the blade, brake off (R75, R103 to R105, R109). The model's choices: the time left
passes at the expiry (log 2), and the row of a stopped timer changes nothing (log 28). -/
def Obligations.DelaysExpire : Prop :=
  ∀ (s : State) (h : HeadId),
    let frame := fun (left : Nat) (t : State) =>
      t = { s.elapse left with heads := t.heads, links := t.links } ∧ LinesQuiet s t ∧
        RaisesOnly s t (AttSet.ofWaitCleared.union AttSet.ofHoldChanged) ∧ (∀ i, SamePath s t i) ∧
        (s.Steady h.other → t.head h.other = (s.head h.other).elapse left)
    ((s.head h).blade.idleTimer = none → exec (.idleDelayExpiry h) s = .next s) ∧
    ((s.head h).blade.stopTimer = none → exec (.stopDelayExpiry h) s = .next s) ∧
    (∀ left, (s.head h).blade.idleTimer = some left → s.Steady h → s.job.state.isOpen = true →
      (s.head h).service = .inService →
      ∃ t : State, exec (.idleDelayExpiry h) s = .next t ∧ frame left t ∧ (t.head h).blade.idleTimer = none ∧
        ((s.head h).watch.reasons.bladeNotReady = true →
          (t.head h).watch = Watch.empty ∧ (t.link (.head h)).attention.waitCleared = true) ∧
        ((s.head h).holdsCut = true → (t.head h).blade.demand = (s.head h).blade.demand ∧
          (t.head h).blade.st = (s.head h).blade.st ∧ (t.head h).blade.target = (s.head h).blade.target) ∧
        ((s.head h).holdsCut = false → (t.head h).blade.demand = .idle ∧
          (t.head h).blade.stopTimer = some ((s.head h).bladeParams.stopDelay * 1000000) ∧
          ((s.head h).blade.demand = .cut → (s.head h).blade.runAtCut = true →
            (t.head h).blade.st = .settling ∧ (t.head h).blade.target = .idle ∧ (t.head h).blade.settleCount = 0 ∧
              (t.head h).blade.commanded = (s.head h).bladeParams.fIdle))) ∧
    ∀ left, (s.head h).blade.stopTimer = some left → s.Steady h →
      ∃ t : State, exec (.stopDelayExpiry h) s = .next t ∧ frame left t ∧ (t.head h).blade.stopTimer = none ∧
        (t.head h).blade.demand = .off ∧
        ((s.head h).blade.st.accepts = true →
          (t.head h).blade.st = .stopped ∧ (t.head h).blade.brake = false ∧ (t.head h).blade.commanded = 0 ∧
            (t.head h).blade.measured = 0 ∧ (t.head h).blade.strokes = 0) ∧
        ((s.head h).blade.st.accepts = false →
          (t.head h).blade.st = (s.head h).blade.st ∧ (t.head h).blade.brake = (s.head h).blade.brake)

/-- A channel whose retry time runs out climbs where its demand asks for a level, and stops with the brake as it stood where the
demand is OFF; FAULT CLEAR of a channel in FAULTED returns its retry count to 0 and takes it to STOPPED with the brake off, or
straight into the climb. A climb begins at step 1 toward the demanded level, brake off. A code that names no head is refused
with BAD-VALUE (R107, R128, R129). The time left passes at the expiry (log 2), and the row of a stopped retry timer changes
nothing (log 28): the model's choices. -/
def Obligations.RetryAndClearRestart : Prop :=
  ∀ (s : State) (h : HeadId), s.Steady h →
    let climbs := fun c' : Channel => ∀ lvl : Level, (s.head h).blade.demand = (match lvl with | .idle => .idle | .cut => .cut) →
      c'.st = .spinup ∧ c'.target = lvl ∧ c'.step = 1 ∧ c'.stepCount = 0 ∧ c'.brake = false ∧ c'.pulseSeen = false ∧
        c'.strokes = 0 ∧ c'.watchLeft = some 1000000 ∧ c'.commanded = (s.head h).bladeParams.stepRate lvl 1
    let keeps := fun c' : Channel => c'.demand = (s.head h).blade.demand ∧ c'.trim = (s.head h).blade.trim ∧
      c'.record = (s.head h).blade.record
    (∀ left, (s.head h).blade.retryTimer = some left →
      ∃ t : State, exec (.retryTimeExpiry h) s = .next t ∧
        t = { s.elapse left with heads := t.heads, links := t.links } ∧ LinesQuiet s t ∧
        RaisesOnly s t (AttSet.ofWaitCleared.union AttSet.ofHoldChanged) ∧
        (∀ i, SamePath s t i) ∧ (s.Steady h.other → t.head h.other = (s.head h.other).elapse left) ∧
        keeps (t.head h).blade ∧ climbs (t.head h).blade ∧ (t.head h).blade.retries = (s.head h).blade.retries ∧
        ((s.head h).blade.demand = .off → (t.head h).blade.st = .stopped ∧ (t.head h).blade.commanded = 0 ∧
          (t.head h).blade.brake = (s.head h).blade.brake)) ∧
    ((s.head h).blade.retryTimer = none → exec (.retryTimeExpiry h) s = .next s) ∧
    (s.listens .cell = true →
      (∀ code : Byte, 1 < code.toNat →
        exec (.faultClear .cell code) s = .next (s.answering .cell 0x3C (.refused .badValue .none))) ∧
      ((s.head h).blade.st ≠ .faulted →
        exec (.faultClear .cell (headCode h)) s = .next (s.answering .cell 0x3C (.refused .bladeNotLatched .none))) ∧
      ((s.head h).blade.st = .faulted → s.Steady h.other →
        ∃ t : State, exec (.faultClear .cell (headCode h)) s = .next (t.answering .cell 0x3C
            (.accepted (.blade (t.head h).blade.st (s.head h).blade.demand))) ∧
          t = s.setHead h { s.head h with blade := (t.head h).blade } ∧
          keeps (t.head h).blade ∧ climbs (t.head h).blade ∧ (t.head h).blade.retries = 0 ∧
          ((s.head h).blade.demand = .off → (t.head h).blade.st = .stopped ∧ (t.head h).blade.brake = false ∧
            (t.head h).blade.commanded = 0)))

/-- A stroke watch that runs out is STROKE-LOST: the record takes it and the channel does what its mode says; in REPORT it
goes on and the watch starts again with the same length, and in IGNORE nothing is tested (the watch then stands stopped until
the next pulse: the model's choice, log 22) (R111, R120, R125, R127, R131). The time left passes at the expiry (log 2), and the
row of a stopped watch changes nothing (log 28): the model's choices. -/
def Obligations.StrokeWatchRunsOut : Prop :=
  ∀ (s : State) (h : HeadId),
    ((s.head h).blade.watchLeft = none → exec (.strokeWatchExpiry h) s = .next s) ∧
    ∀ left, (s.head h).blade.watchLeft = some left → (s.head h).blade.st.accepts = true → s.Steady h →
      let mode := (s.head h).guard.modes.strokeLost
      ∃ t : State, exec (.strokeWatchExpiry h) s = .next t ∧
        t = { s.elapse left with heads := t.heads, links := t.links } ∧ LinesQuiet s t ∧
        RaisesOnly s t ((AttSet.ofWaitCleared.union AttSet.ofHoldChanged).union AttSet.ofBladeFault) ∧
        (∀ i, SamePath s t i) ∧ (s.Steady h.other → t.head h.other = (s.head h.other).elapse left) ∧
        RespondsTo mode (s.head h).guard (s.head h).blade (t.head h).blade ∧
        (t.head h).blade.demand = (s.head h).blade.demand ∧ (t.head h).blade.trim = (s.head h).blade.trim ∧
        (t.head h).blade.lastAvg = (s.head h).blade.lastAvg ∧ (t.head h).blade.strokes = (s.head h).blade.strokes ∧
        (mode ≠ .ignore → Records .strokeLost (s.head h).blade (t.head h).blade) ∧
        (mode = .ignore → (t.head h).blade.record = (s.head h).blade.record ∧ (t.head h).blade.watchLeft = none) ∧
        (mode = .report → (t.head h).blade.watchLeft = some (if (s.head h).blade.st = .spinup then 1000000
          else 3 * (60000000 / (s.head h).blade.commanded))) ∧
        ((t.head h).blade.st ≠ (s.head h).blade.st → (s.head h).holdsCut = true → (t.head h).hold.blade = true)

/-! ### The blades and their guard -/

/-- An index pulse touches one channel and what follows from it: a channel that is stopped, waits or is faulted disregards it;
one that comes within half the expected period of the last is blanked; any other is accepted and begins the next stroke (R110,
R113). Where the stroke watch runs out before the pulse comes, STROKE-LOST is taken first, at its own moment, and the pulse
finds what that left (R120). The model's choices: the row carries the time before the pulse (log 2), and a row that names what
a pulse brings about is that pulse when it does, and nothing when it does not (log 5, log 28). -/
def Obligations.IndexPulsesCount : Prop :=
  ∀ (s : State) (h : HeadId) (p : Pulse),
    let c := (s.head h).blade
    ((c.st.accepts = false) → exec (.indexPulse h p) s = .next (s.elapse p.after)) ∧
    (∀ left, s.Steady h → c.st.accepts = true → c.watchLeft = some left → left < p.after → 300 ≤ c.commanded →
      c.commanded ≤ 3000 →
      ∃ t : State, exec (.strokeWatchExpiry h) s = .next t ∧
        exec (.indexPulse h p) s = exec (.indexPulse h ⟨p.after - left, p.samples⟩) t) ∧
    (c.st.accepts = true → (s.head h).InTime p → c.pulseSeen = true →
      2 * (c.since + p.after) < 60000000 / c.commanded →
      exec (.indexPulse h p) s = .next ((s.elapse p.after).modHead h fun hd => { hd with blade := { hd.blade with
        sampleSum := c.sampleSum + (p.samples.map BitVec.toNat).sum
        sampleCount := c.sampleCount + p.samples.length
        samplePeak := (p.samples.map BitVec.toNat).foldl max c.samplePeak } })) ∧
    (c.st.accepts = true → (s.head h).InTime p →
      c.pulseSeen = false ∨ 60000000 / c.commanded ≤ 2 * (c.since + p.after) → s.Steady h →
      ∃ t : State, exec (.indexPulse h p) s = .next t ∧
        t = { s.elapse p.after with heads := t.heads, links := t.links, free := t.free } ∧ LinesQuiet s t ∧
        RaisesOnly s t ((AttSet.ofWaitCleared.union AttSet.ofHoldChanged).union AttSet.ofBladeFault) ∧
        (∀ i, SamePath s t i) ∧ (s.Steady h.other → t.head h.other = (s.head h.other).elapse p.after) ∧
        (t.head h).pendingReq = (s.head h).pendingReq ∧ (t.head h).blade.demand = c.demand ∧
        (t.head h).blade.pulseSeen = true ∧ (t.head h).blade.since = 0 ∧
        (t.head h).blade.strokes = min 65535 (c.strokes + 1) ∧
        (c.pulseSeen = false → t.free = s.free ∧ (t.head h).blade.lastAvg = c.lastAvg ∧
          (t.head h).blade.lastPeak = c.lastPeak) ∧
        ((s.head h).EndsStroke p → t.free = s.free ∧ (t.head h).blade.period = c.since + p.after ∧
          (t.head h).blade.lastAvg = (s.head h).strokeAverage p ∧ (t.head h).blade.lastPeak = (s.head h).strokePeak p ∧
          ((t.head h).blade.st.accepts = true →
            (t.head h).blade.measured = 60000000 / (c.since + p.after)))) ∧
    ∀ (row : HeadId → Pulse → Instr) (flag : StrokeEvents → Bool),
      (row, flag) ∈ [(Instr.spinupStepComplete, StrokeEvents.stepDone), (Instr.lockOn, StrokeEvents.lockOn),
        (Instr.noSettle, StrokeEvents.noSettle), (Instr.trimStepDown, StrokeEvents.trimDown),
        (Instr.trimStepUp, StrokeEvents.trimUp), (Instr.reliefPauseEnd, StrokeEvents.pauseEnd),
        (Instr.overload, StrokeEvents.overload), (Instr.bladeMissing, StrokeEvents.missing),
        (Instr.cleanRunComplete, StrokeEvents.clean)] →
      exec (row h p) s = if flag (s.pulseEvents h p) = true then exec (.indexPulse h p) s else .next s

/-- The climb: each accepted pulse adds one to the step's count; at the step strokes the next step begins with its own rate, and
after step 8 the channel commands the target rate and settles; in SETTLING, a stroke within five in a hundred of the commanded
rate counts and any other starts the count again, and at the settle count the channel enters RUN at its target and a watched
BLADE-NOT-READY ceases if that is CUT (R106, R107, R112). The strokes give the guard nothing to detect. The first pulse of a
climb counts in its step like any other, but ends no stroke (R107, R110). A step commands the target rate times the percentage
of its code, in whole strokes, raised to 300 and lowered to f_cut (R106). -/
def Obligations.SpinupClimbsToRun : Prop :=
  (∀ (b : BladeParams) (lvl : Level) (step code percent : Nat), 1 ≤ step → b.ramp[step - 1]? = some code →
     [25, 40, 55, 70, 80, 90, 95, 100][code]? = some percent →
     b.stepRate lvl step = min b.fCut (max 300 ((match lvl with
       | .idle => b.fIdle
       | .cut => b.fCut) * percent / 100))) ∧
  (∀ (s : State) (h : HeadId) (p : Pulse), s.Steady h → (s.head h).InTime p → (s.head h).blade.st = .spinup →
    (s.head h).blade.pulseSeen = false →
    let c := (s.head h).blade
    let b := (s.head h).bladeParams
    let first := fun c' : Channel => c'.pulseSeen = true ∧ c'.measured = c.measured ∧ c'.lastAvg = c.lastAvg ∧
      c'.lastPeak = c.lastPeak ∧ c'.record = c.record ∧ c'.strokes = min 65535 (c.strokes + 1) ∧ c'.sampleCount = 0
    (c.stepCount + 1 < b.stepStrokes →
      ∃ t, exec (.indexPulse h p) s = .next t ∧ first (t.head h).blade ∧ (t.head h).blade.st = .spinup ∧
        (t.head h).blade.step = c.step ∧ (t.head h).blade.stepCount = c.stepCount + 1 ∧
        (t.head h).blade.commanded = c.commanded ∧ (t.head h).blade.watchLeft = some 1000000) ∧
    (b.stepStrokes ≤ c.stepCount + 1 → c.step < 8 →
      ∃ t, exec (.spinupStepComplete h p) s = .next t ∧ first (t.head h).blade ∧ (t.head h).blade.st = .spinup ∧
        (t.head h).blade.step = c.step + 1 ∧ (t.head h).blade.stepCount = 0 ∧
        (t.head h).blade.commanded = b.stepRate c.target (c.step + 1))) ∧
  ∀ (s : State) (h : HeadId) (p : Pulse), s.Steady h → (s.head h).EndsStroke p → (s.head h).QuietStroke p →
    let c := (s.head h).blade
    let b := (s.head h).bladeParams
    let m := 60000000 / (s.head h).strokePeriod p
    let inBand := 20 * absDiff m c.commanded ≤ c.commanded
    (c.st = .spinup →
      (c.stepCount + 1 < b.stepStrokes →
        ∃ t, exec (.indexPulse h p) s = .next t ∧ (t.head h).blade.st = .spinup ∧ (t.head h).blade.step = c.step ∧
          (t.head h).blade.stepCount = c.stepCount + 1 ∧ (t.head h).blade.commanded = c.commanded ∧
          (t.head h).blade.watchLeft = some 1000000) ∧
      (b.stepStrokes ≤ c.stepCount + 1 → c.step < 8 →
        ∃ t, exec (.spinupStepComplete h p) s = .next t ∧ (t.head h).blade.st = .spinup ∧
          (t.head h).blade.step = c.step + 1 ∧ (t.head h).blade.stepCount = 0 ∧ (t.head h).blade.target = c.target ∧
          (t.head h).blade.commanded = b.stepRate c.target (c.step + 1)) ∧
      (b.stepStrokes ≤ c.stepCount + 1 → 8 ≤ c.step →
        ∃ t, exec (.spinupStepComplete h p) s = .next t ∧ (t.head h).blade.st = .settling ∧
          (t.head h).blade.target = c.target ∧ (t.head h).blade.settleCount = 0 ∧ (t.head h).blade.settleStrokes = 0 ∧
          (t.head h).blade.commanded = (match c.target with | .idle => b.fIdle | .cut => b.fCut) ∧
          (t.head h).blade.watchLeft =
            some (3 * (60000000 / (match c.target with | .idle => b.fIdle | .cut => b.fCut))))) ∧
    (c.st = .settling → 1 ≤ b.settle →
      (inBand → b.settle ≤ c.settleCount + 1 →
        ∃ t, exec (.lockOn h p) s = .next t ∧ (t.head h).blade.st = .run ∧ (t.head h).blade.target = c.target ∧
          (t.head h).blade.commanded = c.commanded ∧ (t.head h).blade.cleanRun = 0 ∧
          (t.head h).blade.lastRunPeriod = none ∧
          (c.target = .cut → (t.head h).hold.blade = decide (0 < c.pause) ∧
            ((s.head h).watch.reasons.bladeNotReady = true →
              (t.head h).watch = Watch.empty ∧ (t.link (.head h)).attention.waitCleared = true))) ∧
      (¬ inBand ∨ c.settleCount + 1 < b.settle → c.settleStrokes + 1 < 64 →
        ∃ t, exec (.indexPulse h p) s = .next t ∧ (t.head h).blade.st = .settling ∧
          (t.head h).blade.settleStrokes = c.settleStrokes + 1 ∧
          (t.head h).blade.settleCount = if inBand then c.settleCount + 1 else 0) ∧
      (¬ inBand ∨ c.settleCount + 1 < b.settle → 64 ≤ c.settleStrokes + 1 →
        (s.head h).guard.modes.noSettle ≠ .ignore →
        ∃ t, exec (.noSettle h p) s = .next t ∧ Records .noSettle c (t.head h).blade ∧
          RespondsTo (s.head h).guard.modes.noSettle (s.head h).guard c (t.head h).blade ∧
          ((s.head h).guard.modes.noSettle = .report → (t.head h).blade.settleStrokes = 0)))

/-- The trim of a stroke in RUN at CUT while the head feeds through a cut: four heavy strokes together lower T by one, sixteen
light ones raise it, within 4 to 16; the row that names the step is the stroke that completes the run. A relief pause loses
one of its strokes at each stroke with its peak within the limit, ends at the last, and begins again in full at a relieving
stroke (R114 to R117). -/
def Obligations.TrimAndReliefJudgeTheStroke : Prop :=
  ∀ (s : State) (h : HeadId) (p : Pulse), s.Steady h → (s.head h).EndsStroke p → (s.head h).blade.st = .run →
    (s.head h).blade.target = .cut →
    let c := (s.head h).blade
    let b := (s.head h).bladeParams
    let g := (s.head h).guard
    let avg := (s.head h).strokeAverage p
    ((s.head h).QuietStroke p →
      ((s.head h).feeding = true → b.trimHigh < avg → 4 ≤ c.heavy + 1 →
        ∃ t, exec (.trimStepDown h p) s = .next t ∧ (t.head h).blade.st = .run ∧ (t.head h).blade.heavy = 0 ∧
          (t.head h).blade.light = 0 ∧ (t.head h).blade.trim = if c.trim ≤ 4 then c.trim else c.trim - 1) ∧
      ((s.head h).feeding = true → b.trimHigh < avg → c.heavy + 1 < 4 →
        ∃ t, exec (.indexPulse h p) s = .next t ∧ (t.head h).blade.heavy = c.heavy + 1 ∧ (t.head h).blade.light = 0 ∧
          (t.head h).blade.trim = c.trim) ∧
      ((s.head h).feeding = true → avg ≤ b.trimHigh → avg < b.trimLow → 16 ≤ c.light + 1 →
        ∃ t, exec (.trimStepUp h p) s = .next t ∧ (t.head h).blade.st = .run ∧ (t.head h).blade.heavy = 0 ∧
          (t.head h).blade.light = 0 ∧ (t.head h).blade.trim = if 16 ≤ c.trim then c.trim else c.trim + 1) ∧
      ((s.head h).feeding = true → avg ≤ b.trimHigh → avg < b.trimLow → c.light + 1 < 16 →
        ∃ t, exec (.indexPulse h p) s = .next t ∧ (t.head h).blade.light = c.light + 1 ∧ (t.head h).blade.heavy = 0 ∧
          (t.head h).blade.trim = c.trim) ∧
      ((s.head h).feeding = false ∨ (avg ≤ b.trimHigh ∧ b.trimLow ≤ avg) →
        ∃ t, exec (.indexPulse h p) s = .next t ∧ (t.head h).blade.heavy = 0 ∧ (t.head h).blade.light = 0 ∧
          (t.head h).blade.trim = c.trim) ∧
      (g.reliefMode = .relief → 1 < c.pause →
        ∃ t, exec (.indexPulse h p) s = .next t ∧ (t.head h).blade.pause = c.pause - 1 ∧
          (t.head h).blade.escalation = 0 ∧ (t.head h).hold.blade = true) ∧
      (g.reliefMode = .relief → c.pause = 1 →
        ∃ t, exec (.reliefPauseEnd h p) s = .next t ∧ (t.head h).blade.st = .run ∧ (t.head h).blade.pause = 0 ∧
          (t.head h).blade.escalation = 0 ∧ (t.head h).hold.blade = false)) ∧
    (g.peakLimit < (s.head h).strokePeak p → avg ≤ g.lockLimit → 1 ≤ g.lockStrokes → g.noBlade ≤ avg →
      (s.head h).EvenStroke p → 1 ≤ g.reliefN →
      (g.reliefMode = .relief → c.escalation + 1 < g.escalation →
        ∃ t, exec (.indexPulse h p) s = .next t ∧ (t.head h).blade.pause = g.reliefN ∧
          (t.head h).blade.escalation = c.escalation + 1 ∧ (t.head h).hold.blade = true ∧
          (t.head h).blade.record.reliefs = min 255 (c.record.reliefs + 1)) ∧
      (g.reliefMode = .report →
        ∃ t, exec (.indexPulse h p) s = .next t ∧ (t.head h).blade.pause = c.pause ∧
          (t.head h).blade.escalation = c.escalation ∧
          (t.head h).blade.record.reliefs = min 255 (c.record.reliefs + 1)) ∧
      (g.reliefMode = .ignore →
        ∃ t, exec (.indexPulse h p) s = .next t ∧ (t.head h).blade.pause = c.pause ∧
          (t.head h).blade.record.reliefs = c.record.reliefs))

/-- The guard's tests of a stroke: ROUGH-RATE against the last RUN period, OVERLOAD by the lock run or by relief escalation,
BLADE-MISSING after 32 feeding strokes below the threshold; each detection is recorded and answered by its kind's mode, and a
kind in IGNORE is not detected. The guard tests before the channel moves: a stroke that would lock on and that OVERLOAD takes
out of SETTLING brings no lock-on, and ends no watched reason (R124); that the LOCK_ON row of such a pulse then changes nothing,
not even the time, is the model's choice (log 5, log 28). 256 strokes in RUN return the retry count to 0, each
counted after the tests: DEDUCED (log 19) (R121 to R123, R125, R127, R131). -/
def Obligations.GuardTestsTheStroke : Prop :=
  ∀ (s : State) (h : HeadId) (p : Pulse), s.Steady h → (s.head h).EndsStroke p →
    let c := (s.head h).blade
    let g := (s.head h).guard
    let avg := (s.head h).strokeAverage p
    let period := (s.head h).strokePeriod p
    let detects := fun (row : Instr) (kind : FaultKind) (mode : FaultMode) =>
      ∃ t, exec row s = .next t ∧ Records kind c (t.head h).blade ∧ RespondsTo mode g c (t.head h).blade
    (∀ q, c.st = .run → c.lastRunPeriod = some q → g.modes.roughRate ≠ .ignore →
      g.rough * min period q < max period q → avg ≤ g.lockLimit → 1 ≤ g.lockStrokes → g.noBlade ≤ avg →
      (s.head h).strokePeak p ≤ g.peakLimit → detects (.indexPulse h p) .roughRate g.modes.roughRate) ∧
    (g.modes.overload ≠ .ignore → c.st = .run ∨ g.modes.overload ≠ .report → (s.head h).EvenStroke p →
      (c.st = .settling → c.settleStrokes + 1 < 64) → g.noBlade ≤ avg →
      (g.lockLimit < avg ∧ g.lockStrokes ≤ c.lockRun + 1) ∨
        (c.runAtCut = true ∧ g.reliefMode = .relief ∧ g.peakLimit < (s.head h).strokePeak p ∧
          g.escalation ≤ c.escalation + 1) →
      detects (.overload h p) .overload g.modes.overload) ∧
    (g.modes.overload ≠ .ignore → g.modes.overload ≠ .report → c.st = .settling → c.settleStrokes + 1 < 64 →
      g.lockLimit < avg → g.lockStrokes ≤ c.lockRun + 1 →
      exec (.lockOn h p) s = .next s ∧
        ∃ t, exec (.overload h p) s = .next t ∧ (t.head h).blade.st.accepts = false ∧
          (t.head h).watch = (s.head h).watch) ∧
    (g.modes.bladeMissing ≠ .ignore → c.runAtCut = true → (s.head h).feeding = true → (s.head h).EvenStroke p →
      avg < g.noBlade → avg ≤ g.lockLimit → 1 ≤ g.lockStrokes → (s.head h).strokePeak p ≤ g.peakLimit →
      (32 ≤ c.missRun + 1 → detects (.bladeMissing h p) .bladeMissing g.modes.bladeMissing) ∧
      (c.missRun + 1 < 32 → ∃ t, exec (.indexPulse h p) s = .next t ∧ (t.head h).blade.missRun = c.missRun + 1 ∧
        (t.head h).blade.st = .run ∧ (t.head h).blade.record.last = c.record.last)) ∧
    ((s.head h).QuietStroke p → c.st = .run →
      (256 ≤ c.cleanRun + 1 → ∃ t, exec (.cleanRunComplete h p) s = .next t ∧ (t.head h).blade.st = .run ∧
        (t.head h).blade.cleanRun = 0 ∧ (t.head h).blade.retries = 0) ∧
      (c.cleanRun + 1 < 256 → ∃ t, exec (.indexPulse h p) s = .next t ∧ (t.head h).blade.st = .run ∧
        (t.head h).blade.cleanRun = c.cleanRun + 1 ∧ (t.head h).blade.retries = c.retries ∧
        (t.head h).blade.lastRunPeriod = some period))

/-! ### Pieces and heads -/

/-- PIECE DECLARE in an open or staged job appends a DECLARED record, and TAKE of a SEVERED piece makes it TAKEN and vents the
zones that nothing needs any more; either is refused on the first test that fails, and changes nothing (R146, R150). -/
def Obligations.PiecesAreDeclaredAndTaken : Prop :=
  ∀ (s : State), s.listens .cell = true →
    (∀ p : PieceReq,
      let answers := fun reason => exec (.pieceDeclare .cell p) s = .next (s.answering .cell 0x30 (.refused reason .none))
      let good := 1 ≤ p.id.toNat ∧ p.id.toNat ≤ 250 ∧ 1 ≤ p.edges.toNat ∧ p.edges.toNat ≤ 12 ∧ p.lo.toNat ≤ p.hi.toNat ∧
        p.hi.toNat ≤ 31999
      let known := ∃ x ∈ s.pieces, x.id = p.id.toNat
      (s.job.state = .idle → answers .wrongJobState) ∧ (s.job.state ≠ .idle → ¬ good → answers .badValue) ∧
      (s.job.state ≠ .idle → good → known → answers .pieceExists) ∧
      (s.job.state ≠ .idle → good → ¬ known → 64 ≤ s.pieces.length → answers .pieceTableFull) ∧
      (s.job.state ≠ .idle → good → ¬ known → s.pieces.length < 64 →
        exec (.pieceDeclare .cell p) s = .next (({ s with pieces := s.pieces ++
          [(⟨p.id.toNat, .declared, p.edges.toNat, 0, p.lo.toNat, p.hi.toNat, p.label, []⟩ : Piece)] }).answering .cell 0x30
            (.accepted (.declared p.id.toNat (s.pieces.length + 1)))))) ∧
    ∀ id : Byte,
      let answers := fun reason d => exec (.take .cell id) s = .next (s.answering .cell 0x31 (.refused reason d))
      (id.toNat = 0 ∨ 250 < id.toNat → answers .badValue .none) ∧
      (1 ≤ id.toNat → id.toNat ≤ 250 →
        (s.findPiece id.toNat = none → answers .unknownPiece .none) ∧
        (∀ p, s.findPiece id.toNat = some p → p.st ≠ .severed → answers .notSevered (.piece p.st)) ∧
        (∀ p, s.findPiece id.toNat = some p → p.st = .severed → s.zones.length = 16 → NoOrphans s →
          ∃ t : State, exec (.take .cell id) s = .next t ∧ Answers s t .cell 0x31 (.accepted (.taken id.toNat)) ∧
            t = { s with heads := t.heads, links := t.links, zones := t.zones, pieces := t.pieces } ∧
            t.pieces = s.pieces.map (fun x => if x.id = id.toNat then { x with st := .taken } else x) ∧
            VentsUnneeded s t ∧ ((∀ h, s.Steady h) → (∀ h, SameHead s t h) ∧ RaisesOnly s t AttSet.ofWaitCleared)))

/-- HOLD places CELL-HOLD in the set of each named head and RESUME removes it, in every job state; the line and a running
overdue timer follow, HOLD-CHANGED is raised exactly for a set that changes, and nothing else changes. Another selector is
refused (R134 to R136). -/
def Obligations.HoldAndResume : Prop :=
  ∀ (s : State) (on : Bool) (sel : Byte), s.listens .cell = true →
    let c := if on = true then Instr.hold .cell sel else Instr.resume .cell sel
    let code : Byte := if on = true then 0x39 else 0x3A
    (2 < sel.toNat → exec c s = .next (s.answering .cell code (.refused .badValue .none))) ∧
    (sel.toNat ≤ 2 → (∀ h, s.Steady h) →
      ∃ (t : State) (sets : List (HeadId × HoldSet)), exec c s = .next t ∧
        Answers s t .cell code (.accepted (.holds sets)) ∧
        t = { s with heads := t.heads, links := t.links } ∧ RaisesOnly s t (AttSet.ofHoldChanged.union AttSet.ofWaitCleared) ∧
        (∀ h set, (h, set) ∈ sets ↔ Named sel h ∧ set = (t.head h).hold) ∧
        ∀ h, (¬ Named sel h → t.head h = s.head h ∧ (t.link (.head h)).attention = (s.link (.head h)).attention) ∧
          (Named sel h →
            t.head h = { s.head h with
              hold := { (s.head h).hold with cellHold := on }, watch := (t.head h).watch, overdue := (t.head h).overdue } ∧
            ((s.head h).hold.cellHold = on → t.head h = s.head h ∧
              (t.link (.head h)).attention = (s.link (.head h)).attention) ∧
            ((s.head h).hold.cellHold ≠ on → (t.link (.head h)).attention.holdChanged = true) ∧
            ((s.head h).overdue.st ≠ .stopped → (t.head h).overdue =
              { (s.head h).overdue with st := if t.fhold h = true then .paused else .counting }) ∧
            ((s.head h).overdue.st = .stopped → (t.head h).overdue = (s.head h).overdue)))

/-- SERVICE-out of a head with nothing queued or granted parks it, takes its blade to OFF and drops its watch, pending request
and mark; SERVICE-in brings it back at its park with a fresh reference, and in an open job asks its blade for IDLE. A busy
head or a park too near the other claim is refused, and so is a code that names no head or no direction; the direction the head
already has changes nothing (R139 to R141; the codes of the directions are log 14). -/
def Obligations.ServiceOutAndIn : Prop :=
  ∀ (s : State) (h : HeadId), s.listens .cell = true →
    let out := exec (.serviceOut .cell (headCode h)) s
    let in' := exec (.serviceIn .cell (headCode h)) s
    let parked : Claim := ⟨(s.park h).x, (s.park h).x⟩
    let same := s.answering .cell 0x3B (.accepted (.service (s.head h).service (s.head h).standing))
    let refused := fun reason => Host.Outcome.next (s.answering .cell 0x3B (.refused reason .none))
    (∀ code : Byte, 1 < code.toNat →
      exec (.serviceOut .cell code) s = refused .badValue ∧ exec (.serviceIn .cell code) s = refused .badValue) ∧
    (∀ head direction : Byte, 1 < head.toNat ∨ 1 < direction.toNat → s.pending = [] → (s.link .cell).asm = .lead →
      s.afterFrame .cell [0x3B, head, direction] = refused .badValue) ∧
    ((s.head h).service = .outOfService → out = .next same ∧ (¬ s.Clear h parked → in' = refused .clearance)) ∧
    ((s.head h).service = .inService → in' = .next same ∧
      ((s.head h).queue ≠ [] ∨ (s.head h).window ≠ [] → out = refused .headBusy) ∧
      ((s.head h).queue = [] → (s.head h).window = [] → ¬ s.Clear h parked → out = refused .clearance)) ∧
    ((s.head h).service = .inService → (s.head h).queue = [] → (s.head h).window = [] → s.Clear h parked →
      (∀ i, s.Steady i) →
      ∃ t : State, out = .next t ∧ Answers s t .cell 0x3B (.accepted (.service .outOfService (s.park h))) ∧ SameSettings s t ∧
        t.job = s.job ∧ SamePieces s t ∧ t.mark = s.markPassed h ∧ SameHead s t h.other ∧
        (NoOrphans s → s.zones.length = 16 → VentsUnneeded s t) ∧
        RaisesOnly s t (AttSet.ofHoldChanged.union AttSet.ofWaitCleared) ∧
        (t.link (.head h)).attention.holdChanged = true ∧
        t.head h = { s.head h with
          service := .outOfService, ref := ⟨s.park h, none, .standing⟩, standing := s.park h, claim := parked
          watch := Watch.empty, pendingReq := none, lapse := none, blade := (t.head h).blade
          hold := { (s.head h).hold with outOfService := true, blade := (t.head h).hold.blade } } ∧
        (t.head h).blade.demand = .off ∧ (t.head h).blade.idleTimer = none ∧ (t.head h).blade.stopTimer = none ∧
        (if (s.head h).blade.st.accepts = true then (t.head h).blade.st = .stopped ∧ (t.head h).blade.brake = false
        else (t.head h).blade.st = (s.head h).blade.st ∧ (t.head h).blade.brake = (s.head h).blade.brake)) ∧
    ((s.head h).service = .outOfService → (s.head h).window = [] → (s.head h).blade.idleTimer = none →
      s.Clear h parked → (∀ i, s.Steady i) →
      ∃ t : State, in' = .next t ∧ Answers s t .cell 0x3B (.accepted (.service .inService (s.park h))) ∧ SameSettings s t ∧
        t.job = s.job ∧ SamePieces s t ∧ t.mark = s.mark ∧ SameHead s t h.other ∧
        (NoOrphans s → s.zones.length = 16 → VentsUnneeded s t) ∧
        RaisesOnly s t (AttSet.ofHoldChanged.union AttSet.ofWaitCleared) ∧
        (t.link (.head h)).attention.holdChanged = true ∧
        t.head h = { s.head h with
          service := .inService, ref := ⟨s.park h, none, .standing⟩, standing := s.park h, claim := parked
          watch := (t.head h).watch, blade := (t.head h).blade
          hold := { (s.head h).hold with outOfService := false, blade := (t.head h).hold.blade } } ∧
        (s.job.state.isOpen = false → (t.head h).blade = (s.head h).blade) ∧
        (s.job.state.isOpen = true → (t.head h).blade.demand = .idle ∧
          (t.head h).blade.stopTimer = some ((s.head h).bladeParams.stopDelay * 1000000) ∧
          ((s.head h).blade.st = .stopped → (t.head h).blade.st = .spinup ∧ (t.head h).blade.step = 1 ∧
            (t.head h).blade.target = .idle) ∧
          ((s.head h).blade.st = .retryWait ∨ (s.head h).blade.st = .faulted →
            (t.head h).blade.st = (s.head h).blade.st)))

/-! ### What every step keeps -/

/-- The state after reset meets every invariant below. -/
def Obligations.ResetMeetsTheInvariants : Prop :=
  ClearanceKept State.reset ∧ WithinBudget State.reset ∧ OnZonesNeeded State.reset ∧ SupervisionKept State.reset ∧
    PieceTableKept State.reset ∧ State.reset.SettingsInRange ∧ AttentionKept State.reset ∧
    ∀ h, State.reset.LapseRunsWhenHeld h ∧ State.reset.DemandFollows h ∧ (State.reset.head h).CommandedWhenOn ∧
      (State.reset.head h).RateInRange ∧ (State.reset.head h).CountsFollow ∧
      (State.reset.head h).blade.TrimInRange ∧ (State.reset.head h).RetriesWithinLimit ∧
      (State.reset.head h).WithinCapacity ∧ (State.reset.head h).InOrder ∧ State.reset.Steady h

/-- The gantries keep their separation at every step (R60, R61). -/
def Obligations.GantriesStayApart : Prop :=
  ∀ (s t : State), ClearanceKept s → step s = .next t → ClearanceKept t

/-- The active count stays within the budget; there are sixteen zones and each that is on is needed; and a lapse timer runs
exactly while its head's request is present and all HELD (R86, R88, R89). -/
def Obligations.ZonesStayWithinNeedAndBudget : Prop :=
  ∀ (s t : State), step s = .next t →
    (WithinBudget s → WithinBudget t) ∧ (OnZonesNeeded s → OnZonesNeeded t) ∧
      ((∀ h, s.LapseRunsWhenHeld h) → ∀ h, t.LapseRunsWhenHeld h)

/-- The reason set of each head is the one its conditions give, its overdue timer follows the set and the window, and a watched
HEAD-HELD stands (R75, R82, R96, R117, R133 to R137). -/
def Obligations.SupervisionIsKept : Prop :=
  ∀ (s t : State), SupervisionKept s → step s = .next t → SupervisionKept t

/-- Each demand is the one its conditions give and a channel without demand does not run; a channel that is off commands 0; T
stays within 4 to 16 and the retry count within its limit; with the settings in their tables a running channel commands 300
spm to f_cut; and the run counts are 0 where no stroke can have counted (R99, R100, R103, R105, R114 to R116, R119, R127);
that a stop or a fault clears them too is DEDUCED (log 17). -/
def Obligations.BladesFollowTheirDemand : Prop :=
  ∀ (s t : State), step s = .next t →
    ((∀ h, s.DemandFollows h) → ∀ h, t.DemandFollows h) ∧
    ((∀ h, (s.head h).CommandedWhenOn) → ∀ h, (t.head h).CommandedWhenOn) ∧
    ((∀ h, (s.head h).blade.TrimInRange) → ∀ h, (t.head h).blade.TrimInRange) ∧
    ((∀ h, (s.head h).RetriesWithinLimit) → ∀ h, (t.head h).RetriesWithinLimit) ∧
    (s.SettingsInRange → (∀ h, s.DemandFollows h ∧ (s.head h).RateInRange) → ∀ h, (t.head h).RateInRange) ∧
    ((∀ h, s.DemandFollows h ∧ (s.head h).CountsFollow) → ∀ h, (t.head h).CountsFollow)

/-- Queue and window hold at most 32 segments and the window 4, their numbers ascend, window before queue, and are below the
next expected one (R19, R27, R37, R64). -/
def Obligations.NumbersStayInOrder : Prop :=
  ∀ (s t : State), step s = .next t →
    ((∀ h, (s.head h).WithinCapacity) → ∀ h, (t.head h).WithinCapacity) ∧
    ((∀ h, (s.head h).InOrder) → ∀ h, (t.head h).InOrder)

/-- The piece table holds at most 64 records, of distinct ids, each with as many contributors as edges done, and SEVERED or
TAKEN only with all its edges (R145 to R150). -/
def Obligations.PieceTableIsKept : Prop :=
  ∀ (s t : State), PieceTableKept s → step s = .next t → PieceTableKept t

/-- The settings stay within their tables, and each link's attention set, with what a reply carries of it, holds only that
link's causes (R42, R62, R84, R101, R126, R162). -/
def Obligations.SettingsAndAttentionAreKept : Prop :=
  ∀ (s t : State), step s = .next t →
    (s.SettingsInRange → t.SettingsInRange) ∧ (AttentionKept s → AttentionKept t)
end

