-- ==== Sys2Proof/Laws/State.lean ====
section
/-! SUPPORT. One lemma per field of State for each update of it: the field that changes and those that do not. -/

namespace Sys2Proof.Machine

@[simp] theorem State.setHead_pending (s : State) (h : HeadId) (v : Head) : (s.setHead h v).pending = s.pending := rfl
@[simp] theorem State.setHead_free (s : State) (h : HeadId) (v : Head) : (s.setHead h v).free = s.free := rfl
@[simp] theorem State.setHead_resetHold (s : State) (h : HeadId) (v : Head) :
    (s.setHead h v).resetHold = s.resetHold := rfl
@[simp] theorem State.setHead_lastCause (s : State) (h : HeadId) (v : Head) :
    (s.setHead h v).lastCause = s.lastCause := rfl
@[simp] theorem State.setHead_rate (s : State) (h : HeadId) (v : Head) : (s.setHead h v).rate = s.rate := rfl
@[simp] theorem State.setHead_links (s : State) (h : HeadId) (v : Head) : (s.setHead h v).links = s.links := rfl
@[simp] theorem State.setHead_job (s : State) (h : HeadId) (v : Head) : (s.setHead h v).job = s.job := rfl
@[simp] theorem State.setHead_bed (s : State) (h : HeadId) (v : Head) : (s.setHead h v).bed = s.bed := rfl
@[simp] theorem State.setHead_zoneSettings (s : State) (h : HeadId) (v : Head) :
    (s.setHead h v).zoneSettings = s.zoneSettings := rfl
@[simp] theorem State.setHead_zones (s : State) (h : HeadId) (v : Head) : (s.setHead h v).zones = s.zones := rfl
@[simp] theorem State.setHead_mark (s : State) (h : HeadId) (v : Head) : (s.setHead h v).mark = s.mark := rfl
@[simp] theorem State.setHead_pieces (s : State) (h : HeadId) (v : Head) : (s.setHead h v).pieces = s.pieces := rfl
@[simp] theorem State.setHead_retained (s : State) (h : HeadId) (v : Head) :
    (s.setHead h v).retained = s.retained := rfl
@[simp] theorem State.setHead_prs (s : State) (h : HeadId) (v : Head) :
    (s.setHead h v).prs = s.prs := rfl

@[simp] theorem State.setHead_heads (s : State) (h : HeadId) (v : Head) : (s.setHead h v).heads = s.heads.set h v := rfl

@[simp] theorem State.modHead_pending (s : State) (h : HeadId) (f : Head → Head) :
    (s.modHead h f).pending = s.pending := rfl
@[simp] theorem State.modHead_free (s : State) (h : HeadId) (f : Head → Head) : (s.modHead h f).free = s.free := rfl
@[simp] theorem State.modHead_resetHold (s : State) (h : HeadId) (f : Head → Head) :
    (s.modHead h f).resetHold = s.resetHold := rfl
@[simp] theorem State.modHead_lastCause (s : State) (h : HeadId) (f : Head → Head) :
    (s.modHead h f).lastCause = s.lastCause := rfl
@[simp] theorem State.modHead_rate (s : State) (h : HeadId) (f : Head → Head) : (s.modHead h f).rate = s.rate := rfl
@[simp] theorem State.modHead_links (s : State) (h : HeadId) (f : Head → Head) :
    (s.modHead h f).links = s.links := rfl
@[simp] theorem State.modHead_job (s : State) (h : HeadId) (f : Head → Head) : (s.modHead h f).job = s.job := rfl
@[simp] theorem State.modHead_bed (s : State) (h : HeadId) (f : Head → Head) : (s.modHead h f).bed = s.bed := rfl
@[simp] theorem State.modHead_zoneSettings (s : State) (h : HeadId) (f : Head → Head) :
    (s.modHead h f).zoneSettings = s.zoneSettings := rfl
@[simp] theorem State.modHead_zones (s : State) (h : HeadId) (f : Head → Head) :
    (s.modHead h f).zones = s.zones := rfl
@[simp] theorem State.modHead_mark (s : State) (h : HeadId) (f : Head → Head) : (s.modHead h f).mark = s.mark := rfl
@[simp] theorem State.modHead_pieces (s : State) (h : HeadId) (f : Head → Head) :
    (s.modHead h f).pieces = s.pieces := rfl
@[simp] theorem State.modHead_retained (s : State) (h : HeadId) (f : Head → Head) :
    (s.modHead h f).retained = s.retained := rfl
@[simp] theorem State.modHead_prs (s : State) (h : HeadId) (f : Head → Head) :
    (s.modHead h f).prs = s.prs := rfl

@[simp] theorem State.modHead_heads (s : State) (h : HeadId) (f : Head → Head) :
    (s.modHead h f).heads = s.heads.set h (f (s.head h)) := rfl

@[simp] theorem State.modBoth_pending (s : State) (f : Head → Head) : (s.modBoth f).pending = s.pending := rfl
@[simp] theorem State.modBoth_free (s : State) (f : Head → Head) : (s.modBoth f).free = s.free := rfl
@[simp] theorem State.modBoth_resetHold (s : State) (f : Head → Head) : (s.modBoth f).resetHold = s.resetHold := rfl
@[simp] theorem State.modBoth_lastCause (s : State) (f : Head → Head) : (s.modBoth f).lastCause = s.lastCause := rfl
@[simp] theorem State.modBoth_rate (s : State) (f : Head → Head) : (s.modBoth f).rate = s.rate := rfl
@[simp] theorem State.modBoth_links (s : State) (f : Head → Head) : (s.modBoth f).links = s.links := rfl
@[simp] theorem State.modBoth_job (s : State) (f : Head → Head) : (s.modBoth f).job = s.job := rfl
@[simp] theorem State.modBoth_bed (s : State) (f : Head → Head) : (s.modBoth f).bed = s.bed := rfl
@[simp] theorem State.modBoth_zoneSettings (s : State) (f : Head → Head) :
    (s.modBoth f).zoneSettings = s.zoneSettings := rfl
@[simp] theorem State.modBoth_zones (s : State) (f : Head → Head) : (s.modBoth f).zones = s.zones := rfl
@[simp] theorem State.modBoth_mark (s : State) (f : Head → Head) : (s.modBoth f).mark = s.mark := rfl
@[simp] theorem State.modBoth_pieces (s : State) (f : Head → Head) : (s.modBoth f).pieces = s.pieces := rfl
@[simp] theorem State.modBoth_retained (s : State) (f : Head → Head) : (s.modBoth f).retained = s.retained := rfl
@[simp] theorem State.modBoth_prs (s : State) (f : Head → Head) : (s.modBoth f).prs = s.prs := rfl

@[simp] theorem State.modBoth_heads (s : State) (f : Head → Head) : (s.modBoth f).heads = ⟨f s.heads.a, f s.heads.b⟩ := rfl

@[simp] theorem State.setLink_pending (s : State) (l : LinkId) (v : Link) : (s.setLink l v).pending = s.pending := rfl
@[simp] theorem State.setLink_free (s : State) (l : LinkId) (v : Link) : (s.setLink l v).free = s.free := rfl
@[simp] theorem State.setLink_resetHold (s : State) (l : LinkId) (v : Link) :
    (s.setLink l v).resetHold = s.resetHold := rfl
@[simp] theorem State.setLink_lastCause (s : State) (l : LinkId) (v : Link) :
    (s.setLink l v).lastCause = s.lastCause := rfl
@[simp] theorem State.setLink_rate (s : State) (l : LinkId) (v : Link) : (s.setLink l v).rate = s.rate := rfl
@[simp] theorem State.setLink_job (s : State) (l : LinkId) (v : Link) : (s.setLink l v).job = s.job := rfl
@[simp] theorem State.setLink_heads (s : State) (l : LinkId) (v : Link) : (s.setLink l v).heads = s.heads := rfl
@[simp] theorem State.setLink_bed (s : State) (l : LinkId) (v : Link) : (s.setLink l v).bed = s.bed := rfl
@[simp] theorem State.setLink_zoneSettings (s : State) (l : LinkId) (v : Link) :
    (s.setLink l v).zoneSettings = s.zoneSettings := rfl
@[simp] theorem State.setLink_zones (s : State) (l : LinkId) (v : Link) : (s.setLink l v).zones = s.zones := rfl
@[simp] theorem State.setLink_mark (s : State) (l : LinkId) (v : Link) : (s.setLink l v).mark = s.mark := rfl
@[simp] theorem State.setLink_pieces (s : State) (l : LinkId) (v : Link) : (s.setLink l v).pieces = s.pieces := rfl
@[simp] theorem State.setLink_retained (s : State) (l : LinkId) (v : Link) :
    (s.setLink l v).retained = s.retained := rfl
@[simp] theorem State.setLink_prs (s : State) (l : LinkId) (v : Link) :
    (s.setLink l v).prs = s.prs := rfl

@[simp] theorem State.setLink_links (s : State) (l : LinkId) (v : Link) : (s.setLink l v).links = s.links.set l v := rfl

@[simp] theorem State.setZone_pending (s : State) (k : Nat) (z : Zone) : (s.setZone k z).pending = s.pending := rfl
@[simp] theorem State.setZone_free (s : State) (k : Nat) (z : Zone) : (s.setZone k z).free = s.free := rfl
@[simp] theorem State.setZone_resetHold (s : State) (k : Nat) (z : Zone) :
    (s.setZone k z).resetHold = s.resetHold := rfl
@[simp] theorem State.setZone_lastCause (s : State) (k : Nat) (z : Zone) :
    (s.setZone k z).lastCause = s.lastCause := rfl
@[simp] theorem State.setZone_rate (s : State) (k : Nat) (z : Zone) : (s.setZone k z).rate = s.rate := rfl
@[simp] theorem State.setZone_links (s : State) (k : Nat) (z : Zone) : (s.setZone k z).links = s.links := rfl
@[simp] theorem State.setZone_job (s : State) (k : Nat) (z : Zone) : (s.setZone k z).job = s.job := rfl
@[simp] theorem State.setZone_heads (s : State) (k : Nat) (z : Zone) : (s.setZone k z).heads = s.heads := rfl
@[simp] theorem State.setZone_bed (s : State) (k : Nat) (z : Zone) : (s.setZone k z).bed = s.bed := rfl
@[simp] theorem State.setZone_zoneSettings (s : State) (k : Nat) (z : Zone) :
    (s.setZone k z).zoneSettings = s.zoneSettings := rfl
@[simp] theorem State.setZone_mark (s : State) (k : Nat) (z : Zone) : (s.setZone k z).mark = s.mark := rfl
@[simp] theorem State.setZone_pieces (s : State) (k : Nat) (z : Zone) : (s.setZone k z).pieces = s.pieces := rfl
@[simp] theorem State.setZone_retained (s : State) (k : Nat) (z : Zone) : (s.setZone k z).retained = s.retained := rfl
@[simp] theorem State.setZone_prs (s : State) (k : Nat) (z : Zone) : (s.setZone k z).prs = s.prs := rfl

@[simp] theorem State.setZone_zones (s : State) (k : Nat) (z : Zone) : (s.setZone k z).zones = s.zones.set k z := rfl

@[simp] theorem State.raise_pending (s : State) (l : LinkId) (c : AttSet) : (s.raise l c).pending = s.pending := rfl
@[simp] theorem State.raise_free (s : State) (l : LinkId) (c : AttSet) : (s.raise l c).free = s.free := rfl
@[simp] theorem State.raise_resetHold (s : State) (l : LinkId) (c : AttSet) :
    (s.raise l c).resetHold = s.resetHold := rfl
@[simp] theorem State.raise_lastCause (s : State) (l : LinkId) (c : AttSet) :
    (s.raise l c).lastCause = s.lastCause := rfl
@[simp] theorem State.raise_rate (s : State) (l : LinkId) (c : AttSet) : (s.raise l c).rate = s.rate := rfl
@[simp] theorem State.raise_job (s : State) (l : LinkId) (c : AttSet) : (s.raise l c).job = s.job := rfl
@[simp] theorem State.raise_heads (s : State) (l : LinkId) (c : AttSet) : (s.raise l c).heads = s.heads := rfl
@[simp] theorem State.raise_bed (s : State) (l : LinkId) (c : AttSet) : (s.raise l c).bed = s.bed := rfl
@[simp] theorem State.raise_zoneSettings (s : State) (l : LinkId) (c : AttSet) :
    (s.raise l c).zoneSettings = s.zoneSettings := rfl
@[simp] theorem State.raise_zones (s : State) (l : LinkId) (c : AttSet) : (s.raise l c).zones = s.zones := rfl
@[simp] theorem State.raise_mark (s : State) (l : LinkId) (c : AttSet) : (s.raise l c).mark = s.mark := rfl
@[simp] theorem State.raise_pieces (s : State) (l : LinkId) (c : AttSet) : (s.raise l c).pieces = s.pieces := rfl
@[simp] theorem State.raise_retained (s : State) (l : LinkId) (c : AttSet) :
    (s.raise l c).retained = s.retained := rfl
@[simp] theorem State.raise_prs (s : State) (l : LinkId) (c : AttSet) :
    (s.raise l c).prs = s.prs := rfl

@[simp] theorem State.toLead_pending (s : State) (l : LinkId) : (s.toLead l).pending = s.pending := rfl
@[simp] theorem State.toLead_free (s : State) (l : LinkId) : (s.toLead l).free = s.free := rfl
@[simp] theorem State.toLead_resetHold (s : State) (l : LinkId) : (s.toLead l).resetHold = s.resetHold := rfl
@[simp] theorem State.toLead_lastCause (s : State) (l : LinkId) : (s.toLead l).lastCause = s.lastCause := rfl
@[simp] theorem State.toLead_rate (s : State) (l : LinkId) : (s.toLead l).rate = s.rate := rfl
@[simp] theorem State.toLead_job (s : State) (l : LinkId) : (s.toLead l).job = s.job := rfl
@[simp] theorem State.toLead_heads (s : State) (l : LinkId) : (s.toLead l).heads = s.heads := rfl
@[simp] theorem State.toLead_bed (s : State) (l : LinkId) : (s.toLead l).bed = s.bed := rfl
@[simp] theorem State.toLead_zoneSettings (s : State) (l : LinkId) : (s.toLead l).zoneSettings = s.zoneSettings := rfl
@[simp] theorem State.toLead_zones (s : State) (l : LinkId) : (s.toLead l).zones = s.zones := rfl
@[simp] theorem State.toLead_mark (s : State) (l : LinkId) : (s.toLead l).mark = s.mark := rfl
@[simp] theorem State.toLead_pieces (s : State) (l : LinkId) : (s.toLead l).pieces = s.pieces := rfl
@[simp] theorem State.toLead_retained (s : State) (l : LinkId) : (s.toLead l).retained = s.retained := rfl
@[simp] theorem State.toLead_prs (s : State) (l : LinkId) : (s.toLead l).prs = s.prs := rfl

@[simp] theorem State.replyWith_pending (s : State) (l : LinkId) (type : Byte) (reply : Reply) :
    (s.replyWith l type reply).pending = s.pending := rfl
@[simp] theorem State.replyWith_free (s : State) (l : LinkId) (type : Byte) (reply : Reply) :
    (s.replyWith l type reply).free = s.free := rfl
@[simp] theorem State.replyWith_resetHold (s : State) (l : LinkId) (type : Byte) (reply : Reply) :
    (s.replyWith l type reply).resetHold = s.resetHold := rfl
@[simp] theorem State.replyWith_lastCause (s : State) (l : LinkId) (type : Byte) (reply : Reply) :
    (s.replyWith l type reply).lastCause = s.lastCause := rfl
@[simp] theorem State.replyWith_rate (s : State) (l : LinkId) (type : Byte) (reply : Reply) :
    (s.replyWith l type reply).rate = s.rate := rfl
@[simp] theorem State.replyWith_job (s : State) (l : LinkId) (type : Byte) (reply : Reply) :
    (s.replyWith l type reply).job = s.job := rfl
@[simp] theorem State.replyWith_heads (s : State) (l : LinkId) (type : Byte) (reply : Reply) :
    (s.replyWith l type reply).heads = s.heads := rfl
@[simp] theorem State.replyWith_bed (s : State) (l : LinkId) (type : Byte) (reply : Reply) :
    (s.replyWith l type reply).bed = s.bed := rfl
@[simp] theorem State.replyWith_zoneSettings (s : State) (l : LinkId) (type : Byte) (reply : Reply) :
    (s.replyWith l type reply).zoneSettings = s.zoneSettings := rfl
@[simp] theorem State.replyWith_zones (s : State) (l : LinkId) (type : Byte) (reply : Reply) :
    (s.replyWith l type reply).zones = s.zones := rfl
@[simp] theorem State.replyWith_mark (s : State) (l : LinkId) (type : Byte) (reply : Reply) :
    (s.replyWith l type reply).mark = s.mark := rfl
@[simp] theorem State.replyWith_pieces (s : State) (l : LinkId) (type : Byte) (reply : Reply) :
    (s.replyWith l type reply).pieces = s.pieces := rfl
@[simp] theorem State.replyWith_retained (s : State) (l : LinkId) (type : Byte) (reply : Reply) :
    (s.replyWith l type reply).retained = s.retained := rfl
@[simp] theorem State.replyWith_prs (s : State) (l : LinkId) (type : Byte) (reply : Reply) :
    (s.replyWith l type reply).prs = s.prs := rfl

@[simp] theorem State.emptyAttention_pending (s : State) (l : LinkId) :
    (s.emptyAttention l).pending = s.pending := rfl
@[simp] theorem State.emptyAttention_free (s : State) (l : LinkId) : (s.emptyAttention l).free = s.free := rfl
@[simp] theorem State.emptyAttention_resetHold (s : State) (l : LinkId) :
    (s.emptyAttention l).resetHold = s.resetHold := rfl
@[simp] theorem State.emptyAttention_lastCause (s : State) (l : LinkId) :
    (s.emptyAttention l).lastCause = s.lastCause := rfl
@[simp] theorem State.emptyAttention_rate (s : State) (l : LinkId) : (s.emptyAttention l).rate = s.rate := rfl
@[simp] theorem State.emptyAttention_job (s : State) (l : LinkId) : (s.emptyAttention l).job = s.job := rfl
@[simp] theorem State.emptyAttention_heads (s : State) (l : LinkId) : (s.emptyAttention l).heads = s.heads := rfl
@[simp] theorem State.emptyAttention_bed (s : State) (l : LinkId) : (s.emptyAttention l).bed = s.bed := rfl
@[simp] theorem State.emptyAttention_zoneSettings (s : State) (l : LinkId) :
    (s.emptyAttention l).zoneSettings = s.zoneSettings := rfl
@[simp] theorem State.emptyAttention_zones (s : State) (l : LinkId) : (s.emptyAttention l).zones = s.zones := rfl
@[simp] theorem State.emptyAttention_mark (s : State) (l : LinkId) : (s.emptyAttention l).mark = s.mark := rfl
@[simp] theorem State.emptyAttention_pieces (s : State) (l : LinkId) : (s.emptyAttention l).pieces = s.pieces := rfl
@[simp] theorem State.emptyAttention_retained (s : State) (l : LinkId) :
    (s.emptyAttention l).retained = s.retained := rfl
@[simp] theorem State.emptyAttention_prs (s : State) (l : LinkId) :
    (s.emptyAttention l).prs = s.prs := rfl

@[simp] theorem State.emptyWatch_pending (s : State) (h : HeadId) : (s.emptyWatch h).pending = s.pending := rfl
@[simp] theorem State.emptyWatch_free (s : State) (h : HeadId) : (s.emptyWatch h).free = s.free := rfl
@[simp] theorem State.emptyWatch_resetHold (s : State) (h : HeadId) : (s.emptyWatch h).resetHold = s.resetHold := rfl
@[simp] theorem State.emptyWatch_lastCause (s : State) (h : HeadId) : (s.emptyWatch h).lastCause = s.lastCause := rfl
@[simp] theorem State.emptyWatch_rate (s : State) (h : HeadId) : (s.emptyWatch h).rate = s.rate := rfl
@[simp] theorem State.emptyWatch_links (s : State) (h : HeadId) : (s.emptyWatch h).links = s.links := rfl
@[simp] theorem State.emptyWatch_job (s : State) (h : HeadId) : (s.emptyWatch h).job = s.job := rfl
@[simp] theorem State.emptyWatch_bed (s : State) (h : HeadId) : (s.emptyWatch h).bed = s.bed := rfl
@[simp] theorem State.emptyWatch_zoneSettings (s : State) (h : HeadId) :
    (s.emptyWatch h).zoneSettings = s.zoneSettings := rfl
@[simp] theorem State.emptyWatch_zones (s : State) (h : HeadId) : (s.emptyWatch h).zones = s.zones := rfl
@[simp] theorem State.emptyWatch_mark (s : State) (h : HeadId) : (s.emptyWatch h).mark = s.mark := rfl
@[simp] theorem State.emptyWatch_pieces (s : State) (h : HeadId) : (s.emptyWatch h).pieces = s.pieces := rfl
@[simp] theorem State.emptyWatch_retained (s : State) (h : HeadId) : (s.emptyWatch h).retained = s.retained := rfl
@[simp] theorem State.emptyWatch_prs (s : State) (h : HeadId) : (s.emptyWatch h).prs = s.prs := rfl

@[simp] theorem State.wake_pending (s : State) (h : HeadId) : (s.wake h).pending = s.pending := rfl
@[simp] theorem State.wake_free (s : State) (h : HeadId) : (s.wake h).free = s.free := rfl
@[simp] theorem State.wake_resetHold (s : State) (h : HeadId) : (s.wake h).resetHold = s.resetHold := rfl
@[simp] theorem State.wake_lastCause (s : State) (h : HeadId) : (s.wake h).lastCause = s.lastCause := rfl
@[simp] theorem State.wake_rate (s : State) (h : HeadId) : (s.wake h).rate = s.rate := rfl
@[simp] theorem State.wake_job (s : State) (h : HeadId) : (s.wake h).job = s.job := rfl
@[simp] theorem State.wake_bed (s : State) (h : HeadId) : (s.wake h).bed = s.bed := rfl
@[simp] theorem State.wake_zoneSettings (s : State) (h : HeadId) : (s.wake h).zoneSettings = s.zoneSettings := rfl
@[simp] theorem State.wake_zones (s : State) (h : HeadId) : (s.wake h).zones = s.zones := rfl
@[simp] theorem State.wake_mark (s : State) (h : HeadId) : (s.wake h).mark = s.mark := rfl
@[simp] theorem State.wake_pieces (s : State) (h : HeadId) : (s.wake h).pieces = s.pieces := rfl
@[simp] theorem State.wake_retained (s : State) (h : HeadId) : (s.wake h).retained = s.retained := rfl
@[simp] theorem State.wake_prs (s : State) (h : HeadId) : (s.wake h).prs = s.prs := rfl

@[simp] theorem State.setBlade_pending (s : State) (h : HeadId) (c : Channel) :
    (s.setBlade h c).pending = s.pending := rfl
@[simp] theorem State.setBlade_free (s : State) (h : HeadId) (c : Channel) : (s.setBlade h c).free = s.free := rfl
@[simp] theorem State.setBlade_resetHold (s : State) (h : HeadId) (c : Channel) :
    (s.setBlade h c).resetHold = s.resetHold := rfl
@[simp] theorem State.setBlade_lastCause (s : State) (h : HeadId) (c : Channel) :
    (s.setBlade h c).lastCause = s.lastCause := rfl
@[simp] theorem State.setBlade_rate (s : State) (h : HeadId) (c : Channel) : (s.setBlade h c).rate = s.rate := rfl
@[simp] theorem State.setBlade_links (s : State) (h : HeadId) (c : Channel) : (s.setBlade h c).links = s.links := rfl
@[simp] theorem State.setBlade_job (s : State) (h : HeadId) (c : Channel) : (s.setBlade h c).job = s.job := rfl
@[simp] theorem State.setBlade_bed (s : State) (h : HeadId) (c : Channel) : (s.setBlade h c).bed = s.bed := rfl
@[simp] theorem State.setBlade_zoneSettings (s : State) (h : HeadId) (c : Channel) :
    (s.setBlade h c).zoneSettings = s.zoneSettings := rfl
@[simp] theorem State.setBlade_zones (s : State) (h : HeadId) (c : Channel) : (s.setBlade h c).zones = s.zones := rfl
@[simp] theorem State.setBlade_mark (s : State) (h : HeadId) (c : Channel) : (s.setBlade h c).mark = s.mark := rfl
@[simp] theorem State.setBlade_pieces (s : State) (h : HeadId) (c : Channel) :
    (s.setBlade h c).pieces = s.pieces := rfl
@[simp] theorem State.setBlade_retained (s : State) (h : HeadId) (c : Channel) :
    (s.setBlade h c).retained = s.retained := rfl
@[simp] theorem State.setBlade_prs (s : State) (h : HeadId) (c : Channel) :
    (s.setBlade h c).prs = s.prs := rfl

@[simp] theorem State.setWatch_pending (s : State) (h : HeadId) (w : WaitSet) (r : Option ZoneRange) :
    (s.setWatch h w r).pending = s.pending := rfl
@[simp] theorem State.setWatch_free (s : State) (h : HeadId) (w : WaitSet) (r : Option ZoneRange) :
    (s.setWatch h w r).free = s.free := rfl
@[simp] theorem State.setWatch_resetHold (s : State) (h : HeadId) (w : WaitSet) (r : Option ZoneRange) :
    (s.setWatch h w r).resetHold = s.resetHold := rfl
@[simp] theorem State.setWatch_lastCause (s : State) (h : HeadId) (w : WaitSet) (r : Option ZoneRange) :
    (s.setWatch h w r).lastCause = s.lastCause := rfl
@[simp] theorem State.setWatch_rate (s : State) (h : HeadId) (w : WaitSet) (r : Option ZoneRange) :
    (s.setWatch h w r).rate = s.rate := rfl
@[simp] theorem State.setWatch_links (s : State) (h : HeadId) (w : WaitSet) (r : Option ZoneRange) :
    (s.setWatch h w r).links = s.links := rfl
@[simp] theorem State.setWatch_job (s : State) (h : HeadId) (w : WaitSet) (r : Option ZoneRange) :
    (s.setWatch h w r).job = s.job := rfl
@[simp] theorem State.setWatch_bed (s : State) (h : HeadId) (w : WaitSet) (r : Option ZoneRange) :
    (s.setWatch h w r).bed = s.bed := rfl
@[simp] theorem State.setWatch_zoneSettings (s : State) (h : HeadId) (w : WaitSet) (r : Option ZoneRange) :
    (s.setWatch h w r).zoneSettings = s.zoneSettings := rfl
@[simp] theorem State.setWatch_zones (s : State) (h : HeadId) (w : WaitSet) (r : Option ZoneRange) :
    (s.setWatch h w r).zones = s.zones := rfl
@[simp] theorem State.setWatch_mark (s : State) (h : HeadId) (w : WaitSet) (r : Option ZoneRange) :
    (s.setWatch h w r).mark = s.mark := rfl
@[simp] theorem State.setWatch_pieces (s : State) (h : HeadId) (w : WaitSet) (r : Option ZoneRange) :
    (s.setWatch h w r).pieces = s.pieces := rfl
@[simp] theorem State.setWatch_retained (s : State) (h : HeadId) (w : WaitSet) (r : Option ZoneRange) :
    (s.setWatch h w r).retained = s.retained := rfl
@[simp] theorem State.setWatch_prs (s : State) (h : HeadId) (w : WaitSet) (r : Option ZoneRange) :
    (s.setWatch h w r).prs = s.prs := rfl

@[simp] theorem State.setJobState_pending (s : State) (j : JobState) : (s.setJobState j).pending = s.pending := rfl
@[simp] theorem State.setJobState_free (s : State) (j : JobState) : (s.setJobState j).free = s.free := rfl
@[simp] theorem State.setJobState_resetHold (s : State) (j : JobState) :
    (s.setJobState j).resetHold = s.resetHold := rfl
@[simp] theorem State.setJobState_lastCause (s : State) (j : JobState) :
    (s.setJobState j).lastCause = s.lastCause := rfl
@[simp] theorem State.setJobState_rate (s : State) (j : JobState) : (s.setJobState j).rate = s.rate := rfl
@[simp] theorem State.setJobState_links (s : State) (j : JobState) : (s.setJobState j).links = s.links := rfl
@[simp] theorem State.setJobState_heads (s : State) (j : JobState) : (s.setJobState j).heads = s.heads := rfl
@[simp] theorem State.setJobState_bed (s : State) (j : JobState) : (s.setJobState j).bed = s.bed := rfl
@[simp] theorem State.setJobState_zoneSettings (s : State) (j : JobState) :
    (s.setJobState j).zoneSettings = s.zoneSettings := rfl
@[simp] theorem State.setJobState_zones (s : State) (j : JobState) : (s.setJobState j).zones = s.zones := rfl
@[simp] theorem State.setJobState_mark (s : State) (j : JobState) : (s.setJobState j).mark = s.mark := rfl
@[simp] theorem State.setJobState_pieces (s : State) (j : JobState) : (s.setJobState j).pieces = s.pieces := rfl
@[simp] theorem State.setJobState_retained (s : State) (j : JobState) : (s.setJobState j).retained = s.retained := rfl
@[simp] theorem State.setJobState_prs (s : State) (j : JobState) : (s.setJobState j).prs = s.prs := rfl

@[simp] theorem State.setJobState_job (s : State) (j : JobState) : (s.setJobState j).job = { s.job with state := j } := rfl

@[simp] theorem State.elapse_pending (d : Nat) (s : State) : (s.elapse d).pending = s.pending := rfl
@[simp] theorem State.elapse_free (d : Nat) (s : State) : (s.elapse d).free = s.free := rfl
@[simp] theorem State.elapse_lastCause (d : Nat) (s : State) : (s.elapse d).lastCause = s.lastCause := rfl
@[simp] theorem State.elapse_rate (d : Nat) (s : State) : (s.elapse d).rate = s.rate := rfl
@[simp] theorem State.elapse_links (d : Nat) (s : State) : (s.elapse d).links = s.links := rfl
@[simp] theorem State.elapse_job (d : Nat) (s : State) : (s.elapse d).job = s.job := rfl
@[simp] theorem State.elapse_bed (d : Nat) (s : State) : (s.elapse d).bed = s.bed := rfl
@[simp] theorem State.elapse_zoneSettings (d : Nat) (s : State) : (s.elapse d).zoneSettings = s.zoneSettings := rfl
@[simp] theorem State.elapse_pieces (d : Nat) (s : State) : (s.elapse d).pieces = s.pieces := rfl
@[simp] theorem State.elapse_retained (d : Nat) (s : State) : (s.elapse d).retained = s.retained := rfl
@[simp] theorem State.elapse_prs (d : Nat) (s : State) : (s.elapse d).prs = s.prs := rfl

@[simp] theorem State.elapse_zones (d : Nat) (s : State) : (s.elapse d).zones = s.zones.map (Zone.elapse d) := rfl

@[simp] theorem State.startZone_pending (s : State) (k : Nat) : (s.startZone k).pending = s.pending := rfl
@[simp] theorem State.startZone_free (s : State) (k : Nat) : (s.startZone k).free = s.free := rfl
@[simp] theorem State.startZone_resetHold (s : State) (k : Nat) : (s.startZone k).resetHold = s.resetHold := rfl
@[simp] theorem State.startZone_lastCause (s : State) (k : Nat) : (s.startZone k).lastCause = s.lastCause := rfl
@[simp] theorem State.startZone_rate (s : State) (k : Nat) : (s.startZone k).rate = s.rate := rfl
@[simp] theorem State.startZone_links (s : State) (k : Nat) : (s.startZone k).links = s.links := rfl
@[simp] theorem State.startZone_job (s : State) (k : Nat) : (s.startZone k).job = s.job := rfl
@[simp] theorem State.startZone_heads (s : State) (k : Nat) : (s.startZone k).heads = s.heads := rfl
@[simp] theorem State.startZone_bed (s : State) (k : Nat) : (s.startZone k).bed = s.bed := rfl
@[simp] theorem State.startZone_zoneSettings (s : State) (k : Nat) :
    (s.startZone k).zoneSettings = s.zoneSettings := rfl
@[simp] theorem State.startZone_mark (s : State) (k : Nat) : (s.startZone k).mark = s.mark := rfl
@[simp] theorem State.startZone_pieces (s : State) (k : Nat) : (s.startZone k).pieces = s.pieces := rfl
@[simp] theorem State.startZone_retained (s : State) (k : Nat) : (s.startZone k).retained = s.retained := rfl
@[simp] theorem State.startZone_prs (s : State) (k : Nat) : (s.startZone k).prs = s.prs := rfl

@[simp] theorem State.scrapPieces_pending (s : State) : (s.scrapPieces).pending = s.pending := rfl
@[simp] theorem State.scrapPieces_free (s : State) : (s.scrapPieces).free = s.free := rfl
@[simp] theorem State.scrapPieces_resetHold (s : State) : (s.scrapPieces).resetHold = s.resetHold := rfl
@[simp] theorem State.scrapPieces_lastCause (s : State) : (s.scrapPieces).lastCause = s.lastCause := rfl
@[simp] theorem State.scrapPieces_rate (s : State) : (s.scrapPieces).rate = s.rate := rfl
@[simp] theorem State.scrapPieces_links (s : State) : (s.scrapPieces).links = s.links := rfl
@[simp] theorem State.scrapPieces_job (s : State) : (s.scrapPieces).job = s.job := rfl
@[simp] theorem State.scrapPieces_heads (s : State) : (s.scrapPieces).heads = s.heads := rfl
@[simp] theorem State.scrapPieces_bed (s : State) : (s.scrapPieces).bed = s.bed := rfl
@[simp] theorem State.scrapPieces_zoneSettings (s : State) : (s.scrapPieces).zoneSettings = s.zoneSettings := rfl
@[simp] theorem State.scrapPieces_zones (s : State) : (s.scrapPieces).zones = s.zones := rfl
@[simp] theorem State.scrapPieces_mark (s : State) : (s.scrapPieces).mark = s.mark := rfl
@[simp] theorem State.scrapPieces_retained (s : State) : (s.scrapPieces).retained = s.retained := rfl
@[simp] theorem State.scrapPieces_prs (s : State) : (s.scrapPieces).prs = s.prs := rfl

@[simp] theorem State.pieceDeclared_pending (s : State) (p : PieceReq) :
    (s.pieceDeclared p).pending = s.pending := rfl
@[simp] theorem State.pieceDeclared_free (s : State) (p : PieceReq) : (s.pieceDeclared p).free = s.free := rfl
@[simp] theorem State.pieceDeclared_resetHold (s : State) (p : PieceReq) :
    (s.pieceDeclared p).resetHold = s.resetHold := rfl
@[simp] theorem State.pieceDeclared_lastCause (s : State) (p : PieceReq) :
    (s.pieceDeclared p).lastCause = s.lastCause := rfl
@[simp] theorem State.pieceDeclared_rate (s : State) (p : PieceReq) : (s.pieceDeclared p).rate = s.rate := rfl
@[simp] theorem State.pieceDeclared_links (s : State) (p : PieceReq) : (s.pieceDeclared p).links = s.links := rfl
@[simp] theorem State.pieceDeclared_job (s : State) (p : PieceReq) : (s.pieceDeclared p).job = s.job := rfl
@[simp] theorem State.pieceDeclared_heads (s : State) (p : PieceReq) : (s.pieceDeclared p).heads = s.heads := rfl
@[simp] theorem State.pieceDeclared_bed (s : State) (p : PieceReq) : (s.pieceDeclared p).bed = s.bed := rfl
@[simp] theorem State.pieceDeclared_zoneSettings (s : State) (p : PieceReq) :
    (s.pieceDeclared p).zoneSettings = s.zoneSettings := rfl
@[simp] theorem State.pieceDeclared_zones (s : State) (p : PieceReq) : (s.pieceDeclared p).zones = s.zones := rfl
@[simp] theorem State.pieceDeclared_mark (s : State) (p : PieceReq) : (s.pieceDeclared p).mark = s.mark := rfl
@[simp] theorem State.pieceDeclared_retained (s : State) (p : PieceReq) :
    (s.pieceDeclared p).retained = s.retained := rfl
@[simp] theorem State.pieceDeclared_prs (s : State) (p : PieceReq) :
    (s.pieceDeclared p).prs = s.prs := rfl


@[simp] theorem Head.elapse_queue (d : Nat) (hd : Head) : (hd.elapse d).queue = hd.queue := rfl
@[simp] theorem Head.elapse_nextSeq (d : Nat) (hd : Head) : (hd.elapse d).nextSeq = hd.nextSeq := rfl
@[simp] theorem Head.elapse_ref (d : Nat) (hd : Head) : (hd.elapse d).ref = hd.ref := rfl
@[simp] theorem Head.elapse_runs (d : Nat) (hd : Head) : (hd.elapse d).runs = hd.runs := rfl
@[simp] theorem Head.elapse_floor (d : Nat) (hd : Head) : (hd.elapse d).floor = hd.floor := rfl
@[simp] theorem Head.elapse_cut (d : Nat) (hd : Head) : (hd.elapse d).cut = hd.cut := rfl
@[simp] theorem Head.elapse_window (d : Nat) (hd : Head) : (hd.elapse d).window = hd.window := rfl
@[simp] theorem Head.elapse_standing (d : Nat) (hd : Head) : (hd.elapse d).standing = hd.standing := rfl
@[simp] theorem Head.elapse_claim (d : Nat) (hd : Head) : (hd.elapse d).claim = hd.claim := rfl
@[simp] theorem Head.elapse_watch (d : Nat) (hd : Head) : (hd.elapse d).watch = hd.watch := rfl
@[simp] theorem Head.elapse_pendingReq (d : Nat) (hd : Head) : (hd.elapse d).pendingReq = hd.pendingReq := rfl
@[simp] theorem Head.elapse_bladeParams (d : Nat) (hd : Head) : (hd.elapse d).bladeParams = hd.bladeParams := rfl
@[simp] theorem Head.elapse_guard (d : Nat) (hd : Head) : (hd.elapse d).guard = hd.guard := rfl
@[simp] theorem Head.elapse_service (d : Nat) (hd : Head) : (hd.elapse d).service = hd.service := rfl
@[simp] theorem Head.elapse_hold (d : Nat) (hd : Head) : (hd.elapse d).hold = hd.hold := rfl
@[simp] theorem Head.elapse_blade (d : Nat) (hd : Head) : (hd.elapse d).blade = hd.blade.elapse d := rfl
@[simp] theorem Head.elapse_overdue (d : Nat) (hd : Head) : (hd.elapse d).overdue = hd.overdue.elapse d := rfl
@[simp] theorem Head.elapse_lapse (d : Nat) (hd : Head) : (hd.elapse d).lapse = timerAfter d hd.lapse := rfl

@[simp] theorem Channel.elapse_st (d : Nat) (c : Channel) : (c.elapse d).st = c.st := rfl
@[simp] theorem Channel.elapse_target (d : Nat) (c : Channel) : (c.elapse d).target = c.target := rfl
@[simp] theorem Channel.elapse_demand (d : Nat) (c : Channel) : (c.elapse d).demand = c.demand := rfl
@[simp] theorem Channel.elapse_step (d : Nat) (c : Channel) : (c.elapse d).step = c.step := rfl
@[simp] theorem Channel.elapse_stepCount (d : Nat) (c : Channel) : (c.elapse d).stepCount = c.stepCount := rfl
@[simp] theorem Channel.elapse_commanded (d : Nat) (c : Channel) : (c.elapse d).commanded = c.commanded := rfl
@[simp] theorem Channel.elapse_pulseSeen (d : Nat) (c : Channel) : (c.elapse d).pulseSeen = c.pulseSeen := rfl
@[simp] theorem Channel.elapse_period (d : Nat) (c : Channel) : (c.elapse d).period = c.period := rfl
@[simp] theorem Channel.elapse_measured (d : Nat) (c : Channel) : (c.elapse d).measured = c.measured := rfl
@[simp] theorem Channel.elapse_strokes (d : Nat) (c : Channel) : (c.elapse d).strokes = c.strokes := rfl
@[simp] theorem Channel.elapse_settleCount (d : Nat) (c : Channel) : (c.elapse d).settleCount = c.settleCount := rfl
@[simp] theorem Channel.elapse_settleStrokes (d : Nat) (c : Channel) : (c.elapse d).settleStrokes = c.settleStrokes := rfl
@[simp] theorem Channel.elapse_sampleSum (d : Nat) (c : Channel) : (c.elapse d).sampleSum = c.sampleSum := rfl
@[simp] theorem Channel.elapse_sampleCount (d : Nat) (c : Channel) : (c.elapse d).sampleCount = c.sampleCount := rfl
@[simp] theorem Channel.elapse_samplePeak (d : Nat) (c : Channel) : (c.elapse d).samplePeak = c.samplePeak := rfl
@[simp] theorem Channel.elapse_lastAvg (d : Nat) (c : Channel) : (c.elapse d).lastAvg = c.lastAvg := rfl
@[simp] theorem Channel.elapse_lastPeak (d : Nat) (c : Channel) : (c.elapse d).lastPeak = c.lastPeak := rfl
@[simp] theorem Channel.elapse_trim (d : Nat) (c : Channel) : (c.elapse d).trim = c.trim := rfl
@[simp] theorem Channel.elapse_heavy (d : Nat) (c : Channel) : (c.elapse d).heavy = c.heavy := rfl
@[simp] theorem Channel.elapse_light (d : Nat) (c : Channel) : (c.elapse d).light = c.light := rfl
@[simp] theorem Channel.elapse_pause (d : Nat) (c : Channel) : (c.elapse d).pause = c.pause := rfl
@[simp] theorem Channel.elapse_escalation (d : Nat) (c : Channel) : (c.elapse d).escalation = c.escalation := rfl
@[simp] theorem Channel.elapse_brake (d : Nat) (c : Channel) : (c.elapse d).brake = c.brake := rfl
@[simp] theorem Channel.elapse_retries (d : Nat) (c : Channel) : (c.elapse d).retries = c.retries := rfl
@[simp] theorem Channel.elapse_lockRun (d : Nat) (c : Channel) : (c.elapse d).lockRun = c.lockRun := rfl
@[simp] theorem Channel.elapse_missRun (d : Nat) (c : Channel) : (c.elapse d).missRun = c.missRun := rfl
@[simp] theorem Channel.elapse_cleanRun (d : Nat) (c : Channel) : (c.elapse d).cleanRun = c.cleanRun := rfl
@[simp] theorem Channel.elapse_lastRunPeriod (d : Nat) (c : Channel) : (c.elapse d).lastRunPeriod = c.lastRunPeriod := rfl
@[simp] theorem Channel.elapse_record (d : Nat) (c : Channel) : (c.elapse d).record = c.record := rfl

@[simp] theorem Zone.elapse_st (d : Nat) (z : Zone) : (z.elapse d).st = z.st := rfl
@[simp] theorem Zone.elapse_good (d : Nat) (z : Zone) : (z.elapse d).good = z.good := rfl
@[simp] theorem Zone.elapse_faults (d : Nat) (z : Zone) : (z.elapse d).faults = z.faults := rfl

end Sys2Proof.Machine
end

