-- ==== Sys2Proof/Laws/Ops.lean ====
section
/-! SUPPORT. Reading back what the named operations wrote: heads, links, zones; what raising a cause, waking a watch and
letting time pass leave. -/

namespace Sys2Proof.Machine

/-! ### Pairs, links and heads -/

@[simp] theorem Pair.get_set_self {α : Type} (p : Pair α) (h : HeadId) (v : α) : (p.set h v).get h = v := by
  cases h <;> rfl

theorem Pair.get_set_ne {α : Type} (p : Pair α) {h k : HeadId} (v : α) (ne : k ≠ h) : (p.set h v).get k = p.get k := by
  cases h <;> cases k <;> first | rfl | exact absurd rfl ne

@[simp] theorem Pair.get_set_other {α : Type} (p : Pair α) (h : HeadId) (v : α) :
    (p.set h v).get h.other = p.get h.other := by
  cases h <;> rfl

@[simp] theorem Pair.get_a {α : Type} (p : Pair α) : p.get .a = p.a := rfl
@[simp] theorem Pair.get_b {α : Type} (p : Pair α) : p.get .b = p.b := rfl
@[simp] theorem Pair.set_a_a {α : Type} (p : Pair α) (v : α) : (p.set .a v).a = v := rfl
@[simp] theorem Pair.set_a_b {α : Type} (p : Pair α) (v : α) : (p.set .a v).b = p.b := rfl
@[simp] theorem Pair.set_b_a {α : Type} (p : Pair α) (v : α) : (p.set .b v).a = p.a := rfl
@[simp] theorem Pair.set_b_b {α : Type} (p : Pair α) (v : α) : (p.set .b v).b = v := rfl

@[simp] theorem Pair.set_set {α : Type} (p : Pair α) (h : HeadId) (v w : α) : (p.set h v).set h w = p.set h w := by
  cases h <;> rfl

@[simp] theorem Pair.set_get {α : Type} (p : Pair α) (h : HeadId) : p.set h (p.get h) = p := by cases h <;> rfl

@[simp] theorem Links.get_set_self (ls : Links) (l : LinkId) (v : Link) : (ls.set l v).get l = v := by
  cases l with
  | head h => cases h <;> rfl
  | cell => rfl

theorem Links.get_set_ne (ls : Links) {l m : LinkId} (v : Link) (ne : m ≠ l) : (ls.set l v).get m = ls.get m := by
  cases l with
  | head h =>
    cases m with
    | head k => cases h <;> cases k <;> first | rfl | exact absurd rfl ne
    | cell => cases h <;> rfl
  | cell =>
    cases m with
    | head k => cases k <;> rfl
    | cell => exact absurd rfl ne

@[simp] theorem Links.set_set (ls : Links) (l : LinkId) (v w : Link) : (ls.set l v).set l w = ls.set l w := by
  cases l with
  | head h => cases h <;> rfl
  | cell => rfl

@[simp] theorem Links.set_get (ls : Links) (l : LinkId) : ls.set l (ls.get l) = ls := by
  cases l with
  | head h => cases h <;> rfl
  | cell => rfl

@[simp] theorem HeadId.other_other (h : HeadId) : h.other.other = h := by cases h <;> rfl
theorem HeadId.other_ne (h : HeadId) : h.other ≠ h := by cases h <;> decide
theorem HeadId.eq_or_other (h k : HeadId) : k = h ∨ k = h.other := by cases h <;> cases k <;> decide

@[simp] theorem State.head_setHead_self (s : State) (h : HeadId) (v : Head) : (s.setHead h v).head h = v :=
  Pair.get_set_self s.heads h v

theorem State.head_setHead_ne (s : State) {h k : HeadId} (v : Head) (ne : k ≠ h) : (s.setHead h v).head k = s.head k :=
  Pair.get_set_ne s.heads v ne

@[simp] theorem State.head_setHead_other (s : State) (h : HeadId) (v : Head) :
    (s.setHead h v).head h.other = s.head h.other := Pair.get_set_other s.heads h v

@[simp] theorem State.head_modHead_self (s : State) (h : HeadId) (f : Head → Head) :
    (s.modHead h f).head h = f (s.head h) := State.head_setHead_self s h _

theorem State.head_modHead_ne (s : State) {h k : HeadId} (f : Head → Head) (ne : k ≠ h) :
    (s.modHead h f).head k = s.head k := State.head_setHead_ne s _ ne

@[simp] theorem State.head_modHead_other (s : State) (h : HeadId) (f : Head → Head) :
    (s.modHead h f).head h.other = s.head h.other := State.head_setHead_other s h _

theorem State.head_modBoth (s : State) (f : Head → Head) (h : HeadId) : (s.modBoth f).head h = f (s.head h) := by
  cases h <;> rfl

@[simp] theorem State.link_setLink_self (s : State) (l : LinkId) (v : Link) : (s.setLink l v).link l = v :=
  Links.get_set_self s.links l v

theorem State.link_setLink_ne (s : State) {l m : LinkId} (v : Link) (ne : m ≠ l) : (s.setLink l v).link m = s.link m :=
  Links.get_set_ne s.links v ne

@[simp] theorem State.head_setLink (s : State) (l : LinkId) (v : Link) (h : HeadId) :
    (s.setLink l v).head h = s.head h := rfl

@[simp] theorem State.link_setHead (s : State) (h : HeadId) (v : Head) (l : LinkId) :
    (s.setHead h v).link l = s.link l := rfl

@[simp] theorem State.link_modHead (s : State) (h : HeadId) (f : Head → Head) (l : LinkId) :
    (s.modHead h f).link l = s.link l := rfl

@[simp] theorem State.head_setZone (s : State) (k : Nat) (z : Zone) (h : HeadId) : (s.setZone k z).head h = s.head h := rfl
@[simp] theorem State.link_setZone (s : State) (k : Nat) (z : Zone) (l : LinkId) : (s.setZone k z).link l = s.link l := rfl
@[simp] theorem State.head_setJobState (s : State) (j : JobState) (h : HeadId) : (s.setJobState j).head h = s.head h := rfl
@[simp] theorem State.link_setJobState (s : State) (j : JobState) (l : LinkId) : (s.setJobState j).link l = s.link l := rfl
@[simp] theorem State.link_modBoth (s : State) (f : Head → Head) (l : LinkId) : (s.modBoth f).link l = s.link l := rfl

/-! ### Zones -/

theorem State.zone_setZone_self (s : State) {k : Nat} (z : Zone) (lt : k < s.zones.length) :
    (s.setZone k z).zone k = z := by
  simp [State.zone, State.setZone, List.getD, lt]

theorem State.zone_setZone_ne (s : State) {k j : Nat} (z : Zone) (ne : j ≠ k) : (s.setZone k z).zone j = s.zone j := by
  simp [State.zone, State.setZone, List.getD, List.getElem?_set_ne (Ne.symm ne)]

@[simp] theorem State.zone_setHead (s : State) (h : HeadId) (v : Head) (k : Nat) : (s.setHead h v).zone k = s.zone k := rfl
@[simp] theorem State.zone_modHead (s : State) (h : HeadId) (f : Head → Head) (k : Nat) :
    (s.modHead h f).zone k = s.zone k := rfl
@[simp] theorem State.zone_setLink (s : State) (l : LinkId) (v : Link) (k : Nat) : (s.setLink l v).zone k = s.zone k := rfl

theorem State.setZone_length (s : State) (k : Nat) (z : Zone) : (s.setZone k z).zones.length = s.zones.length := by
  simp

/-! ### Attention and watches -/

@[simp] theorem State.head_raise (s : State) (l : LinkId) (c : AttSet) (h : HeadId) : (s.raise l c).head h = s.head h := rfl

theorem State.link_raise_self (s : State) (l : LinkId) (c : AttSet) :
    (s.raise l c).link l = { s.link l with attention := (s.link l).attention.union c } := State.link_setLink_self s l _

theorem State.link_raise_ne (s : State) {l m : LinkId} (c : AttSet) (ne : m ≠ l) : (s.raise l c).link m = s.link m :=
  State.link_setLink_ne s _ ne

/-- Telling a watch does nothing, or wakes the head (R75). -/
theorem State.tell_cases (s : State) (h : HeadId) (p : Watch → Bool) :
    (p (s.head h).watch = false ∧ s.tell h p = s) ∨ (p (s.head h).watch = true ∧ s.tell h p = s.wake h) := by
  cases e : p (s.head h).watch <;> simp [State.tell, e]

theorem State.head_wake_self (s : State) (h : HeadId) : (s.wake h).head h = { s.head h with watch := Watch.empty } := by
  simp [State.wake, State.emptyWatch]

@[simp] theorem State.head_wake_other (s : State) (h : HeadId) : (s.wake h).head h.other = s.head h.other := by
  simp [State.wake, State.emptyWatch]

/-! ### Time -/

@[simp] theorem State.head_elapse (d : Nat) (s : State) (h : HeadId) : (s.elapse d).head h = (s.head h).elapse d := by
  cases h <;> rfl

@[simp] theorem State.link_elapse (d : Nat) (s : State) (l : LinkId) : (s.elapse d).link l = s.link l := rfl

theorem State.zone_elapse (d : Nat) (s : State) {k : Nat} (lt : k < s.zones.length) :
    (s.elapse d).zone k = (s.zone k).elapse d := by
  simp [State.zone, List.getD, lt]

/-- Time moves no zone to another state. -/
theorem State.zone_elapse_st (d : Nat) (s : State) (k : Nat) : ((s.elapse d).zone k).st = (s.zone k).st := by
  by_cases lt : k < s.zones.length
  · rw [State.zone_elapse d s lt]; rfl
  · simp [State.zone, List.getD, List.getElem?_eq_none (Nat.le_of_not_lt lt)]

end Sys2Proof.Machine
end

