-- ==== Sys2Proof/Laws/Events.lean ====
section
/-! SUPPORT. What telling the watches and closing an event leave unchanged, field by field; and what they settle. -/

namespace Sys2Proof.Machine

/-! ### Watches -/

@[simp] theorem State.wake_head_queue (s : State) (h : HeadId) (k : HeadId) :
    ((s.wake h).head k).queue = (s.head k).queue := by cases h <;> cases k <;> rfl
@[simp] theorem State.wake_head_nextSeq (s : State) (h : HeadId) (k : HeadId) :
    ((s.wake h).head k).nextSeq = (s.head k).nextSeq := by cases h <;> cases k <;> rfl
@[simp] theorem State.wake_head_ref (s : State) (h : HeadId) (k : HeadId) :
    ((s.wake h).head k).ref = (s.head k).ref := by cases h <;> cases k <;> rfl
@[simp] theorem State.wake_head_runs (s : State) (h : HeadId) (k : HeadId) :
    ((s.wake h).head k).runs = (s.head k).runs := by cases h <;> cases k <;> rfl
@[simp] theorem State.wake_head_floor (s : State) (h : HeadId) (k : HeadId) :
    ((s.wake h).head k).floor = (s.head k).floor := by cases h <;> cases k <;> rfl
@[simp] theorem State.wake_head_cut (s : State) (h : HeadId) (k : HeadId) :
    ((s.wake h).head k).cut = (s.head k).cut := by cases h <;> cases k <;> rfl
@[simp] theorem State.wake_head_window (s : State) (h : HeadId) (k : HeadId) :
    ((s.wake h).head k).window = (s.head k).window := by cases h <;> cases k <;> rfl
@[simp] theorem State.wake_head_standing (s : State) (h : HeadId) (k : HeadId) :
    ((s.wake h).head k).standing = (s.head k).standing := by cases h <;> cases k <;> rfl
@[simp] theorem State.wake_head_claim (s : State) (h : HeadId) (k : HeadId) :
    ((s.wake h).head k).claim = (s.head k).claim := by cases h <;> cases k <;> rfl
@[simp] theorem State.wake_head_pendingReq (s : State) (h : HeadId) (k : HeadId) :
    ((s.wake h).head k).pendingReq = (s.head k).pendingReq := by cases h <;> cases k <;> rfl
@[simp] theorem State.wake_head_lapse (s : State) (h : HeadId) (k : HeadId) :
    ((s.wake h).head k).lapse = (s.head k).lapse := by cases h <;> cases k <;> rfl
@[simp] theorem State.wake_head_blade (s : State) (h : HeadId) (k : HeadId) :
    ((s.wake h).head k).blade = (s.head k).blade := by cases h <;> cases k <;> rfl
@[simp] theorem State.wake_head_bladeParams (s : State) (h : HeadId) (k : HeadId) :
    ((s.wake h).head k).bladeParams = (s.head k).bladeParams := by cases h <;> cases k <;> rfl
@[simp] theorem State.wake_head_guard (s : State) (h : HeadId) (k : HeadId) :
    ((s.wake h).head k).guard = (s.head k).guard := by cases h <;> cases k <;> rfl
@[simp] theorem State.wake_head_service (s : State) (h : HeadId) (k : HeadId) :
    ((s.wake h).head k).service = (s.head k).service := by cases h <;> cases k <;> rfl
@[simp] theorem State.wake_head_hold (s : State) (h : HeadId) (k : HeadId) :
    ((s.wake h).head k).hold = (s.head k).hold := by cases h <;> cases k <;> rfl
@[simp] theorem State.wake_head_overdue (s : State) (h : HeadId) (k : HeadId) :
    ((s.wake h).head k).overdue = (s.head k).overdue := by cases h <;> cases k <;> rfl

@[simp] theorem State.tell_pending (s : State) (h : HeadId) (p : Watch → Bool) :
    (s.tell h p).pending = s.pending := by unfold State.tell; split <;> rfl
@[simp] theorem State.tell_free (s : State) (h : HeadId) (p : Watch → Bool) :
    (s.tell h p).free = s.free := by unfold State.tell; split <;> rfl
@[simp] theorem State.tell_resetHold (s : State) (h : HeadId) (p : Watch → Bool) :
    (s.tell h p).resetHold = s.resetHold := by unfold State.tell; split <;> rfl
@[simp] theorem State.tell_lastCause (s : State) (h : HeadId) (p : Watch → Bool) :
    (s.tell h p).lastCause = s.lastCause := by unfold State.tell; split <;> rfl
@[simp] theorem State.tell_rate (s : State) (h : HeadId) (p : Watch → Bool) :
    (s.tell h p).rate = s.rate := by unfold State.tell; split <;> rfl
@[simp] theorem State.tell_job (s : State) (h : HeadId) (p : Watch → Bool) :
    (s.tell h p).job = s.job := by unfold State.tell; split <;> rfl
@[simp] theorem State.tell_bed (s : State) (h : HeadId) (p : Watch → Bool) :
    (s.tell h p).bed = s.bed := by unfold State.tell; split <;> rfl
@[simp] theorem State.tell_zoneSettings (s : State) (h : HeadId) (p : Watch → Bool) :
    (s.tell h p).zoneSettings = s.zoneSettings := by unfold State.tell; split <;> rfl
@[simp] theorem State.tell_zones (s : State) (h : HeadId) (p : Watch → Bool) :
    (s.tell h p).zones = s.zones := by unfold State.tell; split <;> rfl
@[simp] theorem State.tell_mark (s : State) (h : HeadId) (p : Watch → Bool) :
    (s.tell h p).mark = s.mark := by unfold State.tell; split <;> rfl
@[simp] theorem State.tell_pieces (s : State) (h : HeadId) (p : Watch → Bool) :
    (s.tell h p).pieces = s.pieces := by unfold State.tell; split <;> rfl
@[simp] theorem State.tell_retained (s : State) (h : HeadId) (p : Watch → Bool) :
    (s.tell h p).retained = s.retained := by unfold State.tell; split <;> rfl
@[simp] theorem State.tell_prs (s : State) (h : HeadId) (p : Watch → Bool) :
    (s.tell h p).prs = s.prs := by unfold State.tell; split <;> rfl

@[simp] theorem State.tell_head_queue (s : State) (h : HeadId) (p : Watch → Bool) (k : HeadId) :
    ((s.tell h p).head k).queue = (s.head k).queue := by unfold State.tell; split <;> simp
@[simp] theorem State.tell_head_nextSeq (s : State) (h : HeadId) (p : Watch → Bool) (k : HeadId) :
    ((s.tell h p).head k).nextSeq = (s.head k).nextSeq := by unfold State.tell; split <;> simp
@[simp] theorem State.tell_head_ref (s : State) (h : HeadId) (p : Watch → Bool) (k : HeadId) :
    ((s.tell h p).head k).ref = (s.head k).ref := by unfold State.tell; split <;> simp
@[simp] theorem State.tell_head_runs (s : State) (h : HeadId) (p : Watch → Bool) (k : HeadId) :
    ((s.tell h p).head k).runs = (s.head k).runs := by unfold State.tell; split <;> simp
@[simp] theorem State.tell_head_floor (s : State) (h : HeadId) (p : Watch → Bool) (k : HeadId) :
    ((s.tell h p).head k).floor = (s.head k).floor := by unfold State.tell; split <;> simp
@[simp] theorem State.tell_head_cut (s : State) (h : HeadId) (p : Watch → Bool) (k : HeadId) :
    ((s.tell h p).head k).cut = (s.head k).cut := by unfold State.tell; split <;> simp
@[simp] theorem State.tell_head_window (s : State) (h : HeadId) (p : Watch → Bool) (k : HeadId) :
    ((s.tell h p).head k).window = (s.head k).window := by unfold State.tell; split <;> simp
@[simp] theorem State.tell_head_standing (s : State) (h : HeadId) (p : Watch → Bool) (k : HeadId) :
    ((s.tell h p).head k).standing = (s.head k).standing := by unfold State.tell; split <;> simp
@[simp] theorem State.tell_head_claim (s : State) (h : HeadId) (p : Watch → Bool) (k : HeadId) :
    ((s.tell h p).head k).claim = (s.head k).claim := by unfold State.tell; split <;> simp
@[simp] theorem State.tell_head_pendingReq (s : State) (h : HeadId) (p : Watch → Bool) (k : HeadId) :
    ((s.tell h p).head k).pendingReq = (s.head k).pendingReq := by unfold State.tell; split <;> simp
@[simp] theorem State.tell_head_lapse (s : State) (h : HeadId) (p : Watch → Bool) (k : HeadId) :
    ((s.tell h p).head k).lapse = (s.head k).lapse := by unfold State.tell; split <;> simp
@[simp] theorem State.tell_head_blade (s : State) (h : HeadId) (p : Watch → Bool) (k : HeadId) :
    ((s.tell h p).head k).blade = (s.head k).blade := by unfold State.tell; split <;> simp
@[simp] theorem State.tell_head_bladeParams (s : State) (h : HeadId) (p : Watch → Bool) (k : HeadId) :
    ((s.tell h p).head k).bladeParams = (s.head k).bladeParams := by unfold State.tell; split <;> simp
@[simp] theorem State.tell_head_guard (s : State) (h : HeadId) (p : Watch → Bool) (k : HeadId) :
    ((s.tell h p).head k).guard = (s.head k).guard := by unfold State.tell; split <;> simp
@[simp] theorem State.tell_head_service (s : State) (h : HeadId) (p : Watch → Bool) (k : HeadId) :
    ((s.tell h p).head k).service = (s.head k).service := by unfold State.tell; split <;> simp
@[simp] theorem State.tell_head_hold (s : State) (h : HeadId) (p : Watch → Bool) (k : HeadId) :
    ((s.tell h p).head k).hold = (s.head k).hold := by unfold State.tell; split <;> simp
@[simp] theorem State.tell_head_overdue (s : State) (h : HeadId) (p : Watch → Bool) (k : HeadId) :
    ((s.tell h p).head k).overdue = (s.head k).overdue := by unfold State.tell; split <;> simp

@[simp] theorem State.tellBoth_pending (s : State) (p : Watch → Bool) :
    (s.tellBoth p).pending = s.pending := by simp [State.tellBoth]
@[simp] theorem State.tellBoth_free (s : State) (p : Watch → Bool) :
    (s.tellBoth p).free = s.free := by simp [State.tellBoth]
@[simp] theorem State.tellBoth_resetHold (s : State) (p : Watch → Bool) :
    (s.tellBoth p).resetHold = s.resetHold := by simp [State.tellBoth]
@[simp] theorem State.tellBoth_lastCause (s : State) (p : Watch → Bool) :
    (s.tellBoth p).lastCause = s.lastCause := by simp [State.tellBoth]
@[simp] theorem State.tellBoth_rate (s : State) (p : Watch → Bool) :
    (s.tellBoth p).rate = s.rate := by simp [State.tellBoth]
@[simp] theorem State.tellBoth_job (s : State) (p : Watch → Bool) :
    (s.tellBoth p).job = s.job := by simp [State.tellBoth]
@[simp] theorem State.tellBoth_bed (s : State) (p : Watch → Bool) :
    (s.tellBoth p).bed = s.bed := by simp [State.tellBoth]
@[simp] theorem State.tellBoth_zoneSettings (s : State) (p : Watch → Bool) :
    (s.tellBoth p).zoneSettings = s.zoneSettings := by simp [State.tellBoth]
@[simp] theorem State.tellBoth_zones (s : State) (p : Watch → Bool) :
    (s.tellBoth p).zones = s.zones := by simp [State.tellBoth]
@[simp] theorem State.tellBoth_mark (s : State) (p : Watch → Bool) :
    (s.tellBoth p).mark = s.mark := by simp [State.tellBoth]
@[simp] theorem State.tellBoth_pieces (s : State) (p : Watch → Bool) :
    (s.tellBoth p).pieces = s.pieces := by simp [State.tellBoth]
@[simp] theorem State.tellBoth_retained (s : State) (p : Watch → Bool) :
    (s.tellBoth p).retained = s.retained := by simp [State.tellBoth]
@[simp] theorem State.tellBoth_prs (s : State) (p : Watch → Bool) :
    (s.tellBoth p).prs = s.prs := by simp [State.tellBoth]

@[simp] theorem State.tellBoth_head_queue (s : State) (p : Watch → Bool) (k : HeadId) :
    ((s.tellBoth p).head k).queue = (s.head k).queue := by simp [State.tellBoth]
@[simp] theorem State.tellBoth_head_nextSeq (s : State) (p : Watch → Bool) (k : HeadId) :
    ((s.tellBoth p).head k).nextSeq = (s.head k).nextSeq := by simp [State.tellBoth]
@[simp] theorem State.tellBoth_head_ref (s : State) (p : Watch → Bool) (k : HeadId) :
    ((s.tellBoth p).head k).ref = (s.head k).ref := by simp [State.tellBoth]
@[simp] theorem State.tellBoth_head_runs (s : State) (p : Watch → Bool) (k : HeadId) :
    ((s.tellBoth p).head k).runs = (s.head k).runs := by simp [State.tellBoth]
@[simp] theorem State.tellBoth_head_floor (s : State) (p : Watch → Bool) (k : HeadId) :
    ((s.tellBoth p).head k).floor = (s.head k).floor := by simp [State.tellBoth]
@[simp] theorem State.tellBoth_head_cut (s : State) (p : Watch → Bool) (k : HeadId) :
    ((s.tellBoth p).head k).cut = (s.head k).cut := by simp [State.tellBoth]
@[simp] theorem State.tellBoth_head_window (s : State) (p : Watch → Bool) (k : HeadId) :
    ((s.tellBoth p).head k).window = (s.head k).window := by simp [State.tellBoth]
@[simp] theorem State.tellBoth_head_standing (s : State) (p : Watch → Bool) (k : HeadId) :
    ((s.tellBoth p).head k).standing = (s.head k).standing := by simp [State.tellBoth]
@[simp] theorem State.tellBoth_head_claim (s : State) (p : Watch → Bool) (k : HeadId) :
    ((s.tellBoth p).head k).claim = (s.head k).claim := by simp [State.tellBoth]
@[simp] theorem State.tellBoth_head_pendingReq (s : State) (p : Watch → Bool) (k : HeadId) :
    ((s.tellBoth p).head k).pendingReq = (s.head k).pendingReq := by simp [State.tellBoth]
@[simp] theorem State.tellBoth_head_lapse (s : State) (p : Watch → Bool) (k : HeadId) :
    ((s.tellBoth p).head k).lapse = (s.head k).lapse := by simp [State.tellBoth]
@[simp] theorem State.tellBoth_head_blade (s : State) (p : Watch → Bool) (k : HeadId) :
    ((s.tellBoth p).head k).blade = (s.head k).blade := by simp [State.tellBoth]
@[simp] theorem State.tellBoth_head_bladeParams (s : State) (p : Watch → Bool) (k : HeadId) :
    ((s.tellBoth p).head k).bladeParams = (s.head k).bladeParams := by simp [State.tellBoth]
@[simp] theorem State.tellBoth_head_guard (s : State) (p : Watch → Bool) (k : HeadId) :
    ((s.tellBoth p).head k).guard = (s.head k).guard := by simp [State.tellBoth]
@[simp] theorem State.tellBoth_head_service (s : State) (p : Watch → Bool) (k : HeadId) :
    ((s.tellBoth p).head k).service = (s.head k).service := by simp [State.tellBoth]
@[simp] theorem State.tellBoth_head_hold (s : State) (p : Watch → Bool) (k : HeadId) :
    ((s.tellBoth p).head k).hold = (s.head k).hold := by simp [State.tellBoth]
@[simp] theorem State.tellBoth_head_overdue (s : State) (p : Watch → Bool) (k : HeadId) :
    ((s.tellBoth p).head k).overdue = (s.head k).overdue := by simp [State.tellBoth]

@[simp] theorem State.zoneGone_pending (s : State) (k : Nat) (was : ZoneState) :
    (s.zoneGone k was).pending = s.pending := by simp [State.zoneGone]
@[simp] theorem State.zoneGone_free (s : State) (k : Nat) (was : ZoneState) :
    (s.zoneGone k was).free = s.free := by simp [State.zoneGone]
@[simp] theorem State.zoneGone_resetHold (s : State) (k : Nat) (was : ZoneState) :
    (s.zoneGone k was).resetHold = s.resetHold := by simp [State.zoneGone]
@[simp] theorem State.zoneGone_lastCause (s : State) (k : Nat) (was : ZoneState) :
    (s.zoneGone k was).lastCause = s.lastCause := by simp [State.zoneGone]
@[simp] theorem State.zoneGone_rate (s : State) (k : Nat) (was : ZoneState) :
    (s.zoneGone k was).rate = s.rate := by simp [State.zoneGone]
@[simp] theorem State.zoneGone_job (s : State) (k : Nat) (was : ZoneState) :
    (s.zoneGone k was).job = s.job := by simp [State.zoneGone]
@[simp] theorem State.zoneGone_bed (s : State) (k : Nat) (was : ZoneState) :
    (s.zoneGone k was).bed = s.bed := by simp [State.zoneGone]
@[simp] theorem State.zoneGone_zoneSettings (s : State) (k : Nat) (was : ZoneState) :
    (s.zoneGone k was).zoneSettings = s.zoneSettings := by simp [State.zoneGone]
@[simp] theorem State.zoneGone_zones (s : State) (k : Nat) (was : ZoneState) :
    (s.zoneGone k was).zones = s.zones := by simp [State.zoneGone]
@[simp] theorem State.zoneGone_mark (s : State) (k : Nat) (was : ZoneState) :
    (s.zoneGone k was).mark = s.mark := by simp [State.zoneGone]
@[simp] theorem State.zoneGone_pieces (s : State) (k : Nat) (was : ZoneState) :
    (s.zoneGone k was).pieces = s.pieces := by simp [State.zoneGone]
@[simp] theorem State.zoneGone_retained (s : State) (k : Nat) (was : ZoneState) :
    (s.zoneGone k was).retained = s.retained := by simp [State.zoneGone]
@[simp] theorem State.zoneGone_prs (s : State) (k : Nat) (was : ZoneState) :
    (s.zoneGone k was).prs = s.prs := by simp [State.zoneGone]

@[simp] theorem State.zoneGone_head_queue (s : State) (j : Nat) (was : ZoneState) (k : HeadId) :
    ((s.zoneGone j was).head k).queue = (s.head k).queue := by simp [State.zoneGone]
@[simp] theorem State.zoneGone_head_nextSeq (s : State) (j : Nat) (was : ZoneState) (k : HeadId) :
    ((s.zoneGone j was).head k).nextSeq = (s.head k).nextSeq := by simp [State.zoneGone]
@[simp] theorem State.zoneGone_head_ref (s : State) (j : Nat) (was : ZoneState) (k : HeadId) :
    ((s.zoneGone j was).head k).ref = (s.head k).ref := by simp [State.zoneGone]
@[simp] theorem State.zoneGone_head_runs (s : State) (j : Nat) (was : ZoneState) (k : HeadId) :
    ((s.zoneGone j was).head k).runs = (s.head k).runs := by simp [State.zoneGone]
@[simp] theorem State.zoneGone_head_floor (s : State) (j : Nat) (was : ZoneState) (k : HeadId) :
    ((s.zoneGone j was).head k).floor = (s.head k).floor := by simp [State.zoneGone]
@[simp] theorem State.zoneGone_head_cut (s : State) (j : Nat) (was : ZoneState) (k : HeadId) :
    ((s.zoneGone j was).head k).cut = (s.head k).cut := by simp [State.zoneGone]
@[simp] theorem State.zoneGone_head_window (s : State) (j : Nat) (was : ZoneState) (k : HeadId) :
    ((s.zoneGone j was).head k).window = (s.head k).window := by simp [State.zoneGone]
@[simp] theorem State.zoneGone_head_standing (s : State) (j : Nat) (was : ZoneState) (k : HeadId) :
    ((s.zoneGone j was).head k).standing = (s.head k).standing := by simp [State.zoneGone]
@[simp] theorem State.zoneGone_head_claim (s : State) (j : Nat) (was : ZoneState) (k : HeadId) :
    ((s.zoneGone j was).head k).claim = (s.head k).claim := by simp [State.zoneGone]
@[simp] theorem State.zoneGone_head_pendingReq (s : State) (j : Nat) (was : ZoneState) (k : HeadId) :
    ((s.zoneGone j was).head k).pendingReq = (s.head k).pendingReq := by simp [State.zoneGone]
@[simp] theorem State.zoneGone_head_lapse (s : State) (j : Nat) (was : ZoneState) (k : HeadId) :
    ((s.zoneGone j was).head k).lapse = (s.head k).lapse := by simp [State.zoneGone]
@[simp] theorem State.zoneGone_head_blade (s : State) (j : Nat) (was : ZoneState) (k : HeadId) :
    ((s.zoneGone j was).head k).blade = (s.head k).blade := by simp [State.zoneGone]
@[simp] theorem State.zoneGone_head_bladeParams (s : State) (j : Nat) (was : ZoneState) (k : HeadId) :
    ((s.zoneGone j was).head k).bladeParams = (s.head k).bladeParams := by simp [State.zoneGone]
@[simp] theorem State.zoneGone_head_guard (s : State) (j : Nat) (was : ZoneState) (k : HeadId) :
    ((s.zoneGone j was).head k).guard = (s.head k).guard := by simp [State.zoneGone]
@[simp] theorem State.zoneGone_head_service (s : State) (j : Nat) (was : ZoneState) (k : HeadId) :
    ((s.zoneGone j was).head k).service = (s.head k).service := by simp [State.zoneGone]
@[simp] theorem State.zoneGone_head_hold (s : State) (j : Nat) (was : ZoneState) (k : HeadId) :
    ((s.zoneGone j was).head k).hold = (s.head k).hold := by simp [State.zoneGone]
@[simp] theorem State.zoneGone_head_overdue (s : State) (j : Nat) (was : ZoneState) (k : HeadId) :
    ((s.zoneGone j was).head k).overdue = (s.head k).overdue := by simp [State.zoneGone]

/-! ### Closing an event -/

@[simp] theorem State.closeBlade_pending (b s : State) (h : HeadId) :
    (State.closeBlade b h s).pending = s.pending := rfl
@[simp] theorem State.closeBlade_free (b s : State) (h : HeadId) : (State.closeBlade b h s).free = s.free := rfl
@[simp] theorem State.closeBlade_resetHold (b s : State) (h : HeadId) :
    (State.closeBlade b h s).resetHold = s.resetHold := rfl
@[simp] theorem State.closeBlade_lastCause (b s : State) (h : HeadId) :
    (State.closeBlade b h s).lastCause = s.lastCause := rfl
@[simp] theorem State.closeBlade_rate (b s : State) (h : HeadId) : (State.closeBlade b h s).rate = s.rate := rfl
@[simp] theorem State.closeBlade_links (b s : State) (h : HeadId) : (State.closeBlade b h s).links = s.links := rfl
@[simp] theorem State.closeBlade_job (b s : State) (h : HeadId) : (State.closeBlade b h s).job = s.job := rfl
@[simp] theorem State.closeBlade_bed (b s : State) (h : HeadId) : (State.closeBlade b h s).bed = s.bed := rfl
@[simp] theorem State.closeBlade_zoneSettings (b s : State) (h : HeadId) :
    (State.closeBlade b h s).zoneSettings = s.zoneSettings := rfl
@[simp] theorem State.closeBlade_zones (b s : State) (h : HeadId) : (State.closeBlade b h s).zones = s.zones := rfl
@[simp] theorem State.closeBlade_mark (b s : State) (h : HeadId) : (State.closeBlade b h s).mark = s.mark := rfl
@[simp] theorem State.closeBlade_pieces (b s : State) (h : HeadId) : (State.closeBlade b h s).pieces = s.pieces := rfl
@[simp] theorem State.closeBlade_retained (b s : State) (h : HeadId) :
    (State.closeBlade b h s).retained = s.retained := rfl
@[simp] theorem State.closeBlade_prs (b s : State) (h : HeadId) :
    (State.closeBlade b h s).prs = s.prs := rfl

@[simp] theorem State.closeBlade_head_queue (b s : State) (h : HeadId) (k : HeadId) :
    ((State.closeBlade b h s).head k).queue = (s.head k).queue := by cases h <;> cases k <;> rfl
@[simp] theorem State.closeBlade_head_nextSeq (b s : State) (h : HeadId) (k : HeadId) :
    ((State.closeBlade b h s).head k).nextSeq = (s.head k).nextSeq := by cases h <;> cases k <;> rfl
@[simp] theorem State.closeBlade_head_ref (b s : State) (h : HeadId) (k : HeadId) :
    ((State.closeBlade b h s).head k).ref = (s.head k).ref := by cases h <;> cases k <;> rfl
@[simp] theorem State.closeBlade_head_runs (b s : State) (h : HeadId) (k : HeadId) :
    ((State.closeBlade b h s).head k).runs = (s.head k).runs := by cases h <;> cases k <;> rfl
@[simp] theorem State.closeBlade_head_floor (b s : State) (h : HeadId) (k : HeadId) :
    ((State.closeBlade b h s).head k).floor = (s.head k).floor := by cases h <;> cases k <;> rfl
@[simp] theorem State.closeBlade_head_cut (b s : State) (h : HeadId) (k : HeadId) :
    ((State.closeBlade b h s).head k).cut = (s.head k).cut := by cases h <;> cases k <;> rfl
@[simp] theorem State.closeBlade_head_window (b s : State) (h : HeadId) (k : HeadId) :
    ((State.closeBlade b h s).head k).window = (s.head k).window := by cases h <;> cases k <;> rfl
@[simp] theorem State.closeBlade_head_standing (b s : State) (h : HeadId) (k : HeadId) :
    ((State.closeBlade b h s).head k).standing = (s.head k).standing := by cases h <;> cases k <;> rfl
@[simp] theorem State.closeBlade_head_claim (b s : State) (h : HeadId) (k : HeadId) :
    ((State.closeBlade b h s).head k).claim = (s.head k).claim := by cases h <;> cases k <;> rfl
@[simp] theorem State.closeBlade_head_watch (b s : State) (h : HeadId) (k : HeadId) :
    ((State.closeBlade b h s).head k).watch = (s.head k).watch := by cases h <;> cases k <;> rfl
@[simp] theorem State.closeBlade_head_pendingReq (b s : State) (h : HeadId) (k : HeadId) :
    ((State.closeBlade b h s).head k).pendingReq = (s.head k).pendingReq := by cases h <;> cases k <;> rfl
@[simp] theorem State.closeBlade_head_lapse (b s : State) (h : HeadId) (k : HeadId) :
    ((State.closeBlade b h s).head k).lapse = (s.head k).lapse := by cases h <;> cases k <;> rfl
@[simp] theorem State.closeBlade_head_bladeParams (b s : State) (h : HeadId) (k : HeadId) :
    ((State.closeBlade b h s).head k).bladeParams = (s.head k).bladeParams := by cases h <;> cases k <;> rfl
@[simp] theorem State.closeBlade_head_guard (b s : State) (h : HeadId) (k : HeadId) :
    ((State.closeBlade b h s).head k).guard = (s.head k).guard := by cases h <;> cases k <;> rfl
@[simp] theorem State.closeBlade_head_service (b s : State) (h : HeadId) (k : HeadId) :
    ((State.closeBlade b h s).head k).service = (s.head k).service := by cases h <;> cases k <;> rfl
@[simp] theorem State.closeBlade_head_hold (b s : State) (h : HeadId) (k : HeadId) :
    ((State.closeBlade b h s).head k).hold = (s.head k).hold := by cases h <;> cases k <;> rfl
@[simp] theorem State.closeBlade_head_overdue (b s : State) (h : HeadId) (k : HeadId) :
    ((State.closeBlade b h s).head k).overdue = (s.head k).overdue := by cases h <;> cases k <;> rfl

@[simp] theorem State.closeHold_pending (b s : State) (h : HeadId) :
    (State.closeHold b h s).pending = s.pending := by simp only [State.closeHold]; split <;> rfl
@[simp] theorem State.closeHold_free (b s : State) (h : HeadId) :
    (State.closeHold b h s).free = s.free := by simp only [State.closeHold]; split <;> rfl
@[simp] theorem State.closeHold_resetHold (b s : State) (h : HeadId) :
    (State.closeHold b h s).resetHold = s.resetHold := by simp only [State.closeHold]; split <;> rfl
@[simp] theorem State.closeHold_lastCause (b s : State) (h : HeadId) :
    (State.closeHold b h s).lastCause = s.lastCause := by simp only [State.closeHold]; split <;> rfl
@[simp] theorem State.closeHold_rate (b s : State) (h : HeadId) :
    (State.closeHold b h s).rate = s.rate := by simp only [State.closeHold]; split <;> rfl
@[simp] theorem State.closeHold_job (b s : State) (h : HeadId) :
    (State.closeHold b h s).job = s.job := by simp only [State.closeHold]; split <;> rfl
@[simp] theorem State.closeHold_bed (b s : State) (h : HeadId) :
    (State.closeHold b h s).bed = s.bed := by simp only [State.closeHold]; split <;> rfl
@[simp] theorem State.closeHold_zoneSettings (b s : State) (h : HeadId) :
    (State.closeHold b h s).zoneSettings = s.zoneSettings := by simp only [State.closeHold]; split <;> rfl
@[simp] theorem State.closeHold_zones (b s : State) (h : HeadId) :
    (State.closeHold b h s).zones = s.zones := by simp only [State.closeHold]; split <;> rfl
@[simp] theorem State.closeHold_mark (b s : State) (h : HeadId) :
    (State.closeHold b h s).mark = s.mark := by simp only [State.closeHold]; split <;> rfl
@[simp] theorem State.closeHold_pieces (b s : State) (h : HeadId) :
    (State.closeHold b h s).pieces = s.pieces := by simp only [State.closeHold]; split <;> rfl
@[simp] theorem State.closeHold_retained (b s : State) (h : HeadId) :
    (State.closeHold b h s).retained = s.retained := by simp only [State.closeHold]; split <;> rfl
@[simp] theorem State.closeHold_prs (b s : State) (h : HeadId) :
    (State.closeHold b h s).prs = s.prs := by simp only [State.closeHold]; split <;> rfl

@[simp] theorem State.closeHold_head_queue (b s : State) (h : HeadId) (k : HeadId) :
    ((State.closeHold b h s).head k).queue = (s.head k).queue :=
  by simp only [State.closeHold]; split <;> cases h <;> cases k <;> rfl
@[simp] theorem State.closeHold_head_nextSeq (b s : State) (h : HeadId) (k : HeadId) :
    ((State.closeHold b h s).head k).nextSeq = (s.head k).nextSeq :=
  by simp only [State.closeHold]; split <;> cases h <;> cases k <;> rfl
@[simp] theorem State.closeHold_head_ref (b s : State) (h : HeadId) (k : HeadId) :
    ((State.closeHold b h s).head k).ref = (s.head k).ref :=
  by simp only [State.closeHold]; split <;> cases h <;> cases k <;> rfl
@[simp] theorem State.closeHold_head_runs (b s : State) (h : HeadId) (k : HeadId) :
    ((State.closeHold b h s).head k).runs = (s.head k).runs :=
  by simp only [State.closeHold]; split <;> cases h <;> cases k <;> rfl
@[simp] theorem State.closeHold_head_floor (b s : State) (h : HeadId) (k : HeadId) :
    ((State.closeHold b h s).head k).floor = (s.head k).floor :=
  by simp only [State.closeHold]; split <;> cases h <;> cases k <;> rfl
@[simp] theorem State.closeHold_head_cut (b s : State) (h : HeadId) (k : HeadId) :
    ((State.closeHold b h s).head k).cut = (s.head k).cut :=
  by simp only [State.closeHold]; split <;> cases h <;> cases k <;> rfl
@[simp] theorem State.closeHold_head_window (b s : State) (h : HeadId) (k : HeadId) :
    ((State.closeHold b h s).head k).window = (s.head k).window :=
  by simp only [State.closeHold]; split <;> cases h <;> cases k <;> rfl
@[simp] theorem State.closeHold_head_standing (b s : State) (h : HeadId) (k : HeadId) :
    ((State.closeHold b h s).head k).standing = (s.head k).standing :=
  by simp only [State.closeHold]; split <;> cases h <;> cases k <;> rfl
@[simp] theorem State.closeHold_head_claim (b s : State) (h : HeadId) (k : HeadId) :
    ((State.closeHold b h s).head k).claim = (s.head k).claim :=
  by simp only [State.closeHold]; split <;> cases h <;> cases k <;> rfl
@[simp] theorem State.closeHold_head_watch (b s : State) (h : HeadId) (k : HeadId) :
    ((State.closeHold b h s).head k).watch = (s.head k).watch :=
  by simp only [State.closeHold]; split <;> cases h <;> cases k <;> rfl
@[simp] theorem State.closeHold_head_pendingReq (b s : State) (h : HeadId) (k : HeadId) :
    ((State.closeHold b h s).head k).pendingReq = (s.head k).pendingReq :=
  by simp only [State.closeHold]; split <;> cases h <;> cases k <;> rfl
@[simp] theorem State.closeHold_head_lapse (b s : State) (h : HeadId) (k : HeadId) :
    ((State.closeHold b h s).head k).lapse = (s.head k).lapse :=
  by simp only [State.closeHold]; split <;> cases h <;> cases k <;> rfl
@[simp] theorem State.closeHold_head_blade (b s : State) (h : HeadId) (k : HeadId) :
    ((State.closeHold b h s).head k).blade = (s.head k).blade :=
  by simp only [State.closeHold]; split <;> cases h <;> cases k <;> rfl
@[simp] theorem State.closeHold_head_bladeParams (b s : State) (h : HeadId) (k : HeadId) :
    ((State.closeHold b h s).head k).bladeParams = (s.head k).bladeParams :=
  by simp only [State.closeHold]; split <;> cases h <;> cases k <;> rfl
@[simp] theorem State.closeHold_head_guard (b s : State) (h : HeadId) (k : HeadId) :
    ((State.closeHold b h s).head k).guard = (s.head k).guard :=
  by simp only [State.closeHold]; split <;> cases h <;> cases k <;> rfl
@[simp] theorem State.closeHold_head_service (b s : State) (h : HeadId) (k : HeadId) :
    ((State.closeHold b h s).head k).service = (s.head k).service :=
  by simp only [State.closeHold]; split <;> cases h <;> cases k <;> rfl

@[simp] theorem State.closeLapse_pending (s : State) (h : HeadId) : (State.closeLapse h s).pending = s.pending := rfl
@[simp] theorem State.closeLapse_free (s : State) (h : HeadId) : (State.closeLapse h s).free = s.free := rfl
@[simp] theorem State.closeLapse_resetHold (s : State) (h : HeadId) :
    (State.closeLapse h s).resetHold = s.resetHold := rfl
@[simp] theorem State.closeLapse_lastCause (s : State) (h : HeadId) :
    (State.closeLapse h s).lastCause = s.lastCause := rfl
@[simp] theorem State.closeLapse_rate (s : State) (h : HeadId) : (State.closeLapse h s).rate = s.rate := rfl
@[simp] theorem State.closeLapse_links (s : State) (h : HeadId) : (State.closeLapse h s).links = s.links := rfl
@[simp] theorem State.closeLapse_job (s : State) (h : HeadId) : (State.closeLapse h s).job = s.job := rfl
@[simp] theorem State.closeLapse_bed (s : State) (h : HeadId) : (State.closeLapse h s).bed = s.bed := rfl
@[simp] theorem State.closeLapse_zoneSettings (s : State) (h : HeadId) :
    (State.closeLapse h s).zoneSettings = s.zoneSettings := rfl
@[simp] theorem State.closeLapse_zones (s : State) (h : HeadId) : (State.closeLapse h s).zones = s.zones := rfl
@[simp] theorem State.closeLapse_mark (s : State) (h : HeadId) : (State.closeLapse h s).mark = s.mark := rfl
@[simp] theorem State.closeLapse_pieces (s : State) (h : HeadId) : (State.closeLapse h s).pieces = s.pieces := rfl
@[simp] theorem State.closeLapse_retained (s : State) (h : HeadId) :
    (State.closeLapse h s).retained = s.retained := rfl
@[simp] theorem State.closeLapse_prs (s : State) (h : HeadId) :
    (State.closeLapse h s).prs = s.prs := rfl

@[simp] theorem State.closeLapse_head_queue (s : State) (h : HeadId) (k : HeadId) :
    ((State.closeLapse h s).head k).queue = (s.head k).queue := by cases h <;> cases k <;> rfl
@[simp] theorem State.closeLapse_head_nextSeq (s : State) (h : HeadId) (k : HeadId) :
    ((State.closeLapse h s).head k).nextSeq = (s.head k).nextSeq := by cases h <;> cases k <;> rfl
@[simp] theorem State.closeLapse_head_ref (s : State) (h : HeadId) (k : HeadId) :
    ((State.closeLapse h s).head k).ref = (s.head k).ref := by cases h <;> cases k <;> rfl
@[simp] theorem State.closeLapse_head_runs (s : State) (h : HeadId) (k : HeadId) :
    ((State.closeLapse h s).head k).runs = (s.head k).runs := by cases h <;> cases k <;> rfl
@[simp] theorem State.closeLapse_head_floor (s : State) (h : HeadId) (k : HeadId) :
    ((State.closeLapse h s).head k).floor = (s.head k).floor := by cases h <;> cases k <;> rfl
@[simp] theorem State.closeLapse_head_cut (s : State) (h : HeadId) (k : HeadId) :
    ((State.closeLapse h s).head k).cut = (s.head k).cut := by cases h <;> cases k <;> rfl
@[simp] theorem State.closeLapse_head_window (s : State) (h : HeadId) (k : HeadId) :
    ((State.closeLapse h s).head k).window = (s.head k).window := by cases h <;> cases k <;> rfl
@[simp] theorem State.closeLapse_head_standing (s : State) (h : HeadId) (k : HeadId) :
    ((State.closeLapse h s).head k).standing = (s.head k).standing := by cases h <;> cases k <;> rfl
@[simp] theorem State.closeLapse_head_claim (s : State) (h : HeadId) (k : HeadId) :
    ((State.closeLapse h s).head k).claim = (s.head k).claim := by cases h <;> cases k <;> rfl
@[simp] theorem State.closeLapse_head_watch (s : State) (h : HeadId) (k : HeadId) :
    ((State.closeLapse h s).head k).watch = (s.head k).watch := by cases h <;> cases k <;> rfl
@[simp] theorem State.closeLapse_head_pendingReq (s : State) (h : HeadId) (k : HeadId) :
    ((State.closeLapse h s).head k).pendingReq = (s.head k).pendingReq := by cases h <;> cases k <;> rfl
@[simp] theorem State.closeLapse_head_blade (s : State) (h : HeadId) (k : HeadId) :
    ((State.closeLapse h s).head k).blade = (s.head k).blade := by cases h <;> cases k <;> rfl
@[simp] theorem State.closeLapse_head_bladeParams (s : State) (h : HeadId) (k : HeadId) :
    ((State.closeLapse h s).head k).bladeParams = (s.head k).bladeParams := by cases h <;> cases k <;> rfl
@[simp] theorem State.closeLapse_head_guard (s : State) (h : HeadId) (k : HeadId) :
    ((State.closeLapse h s).head k).guard = (s.head k).guard := by cases h <;> cases k <;> rfl
@[simp] theorem State.closeLapse_head_service (s : State) (h : HeadId) (k : HeadId) :
    ((State.closeLapse h s).head k).service = (s.head k).service := by cases h <;> cases k <;> rfl
@[simp] theorem State.closeLapse_head_hold (s : State) (h : HeadId) (k : HeadId) :
    ((State.closeLapse h s).head k).hold = (s.head k).hold := by cases h <;> cases k <;> rfl
@[simp] theorem State.closeLapse_head_overdue (s : State) (h : HeadId) (k : HeadId) :
    ((State.closeLapse h s).head k).overdue = (s.head k).overdue := by cases h <;> cases k <;> rfl

@[simp] theorem State.closeWatch_pending (b s : State) (h : HeadId) :
    (State.closeWatch b h s).pending = s.pending := by simp [State.closeWatch]
@[simp] theorem State.closeWatch_free (b s : State) (h : HeadId) :
    (State.closeWatch b h s).free = s.free := by simp [State.closeWatch]
@[simp] theorem State.closeWatch_resetHold (b s : State) (h : HeadId) :
    (State.closeWatch b h s).resetHold = s.resetHold := by simp [State.closeWatch]
@[simp] theorem State.closeWatch_lastCause (b s : State) (h : HeadId) :
    (State.closeWatch b h s).lastCause = s.lastCause := by simp [State.closeWatch]
@[simp] theorem State.closeWatch_rate (b s : State) (h : HeadId) :
    (State.closeWatch b h s).rate = s.rate := by simp [State.closeWatch]
@[simp] theorem State.closeWatch_job (b s : State) (h : HeadId) :
    (State.closeWatch b h s).job = s.job := by simp [State.closeWatch]
@[simp] theorem State.closeWatch_bed (b s : State) (h : HeadId) :
    (State.closeWatch b h s).bed = s.bed := by simp [State.closeWatch]
@[simp] theorem State.closeWatch_zoneSettings (b s : State) (h : HeadId) :
    (State.closeWatch b h s).zoneSettings = s.zoneSettings := by simp [State.closeWatch]
@[simp] theorem State.closeWatch_zones (b s : State) (h : HeadId) :
    (State.closeWatch b h s).zones = s.zones := by simp [State.closeWatch]
@[simp] theorem State.closeWatch_mark (b s : State) (h : HeadId) :
    (State.closeWatch b h s).mark = s.mark := by simp [State.closeWatch]
@[simp] theorem State.closeWatch_pieces (b s : State) (h : HeadId) :
    (State.closeWatch b h s).pieces = s.pieces := by simp [State.closeWatch]
@[simp] theorem State.closeWatch_retained (b s : State) (h : HeadId) :
    (State.closeWatch b h s).retained = s.retained := by simp [State.closeWatch]
@[simp] theorem State.closeWatch_prs (b s : State) (h : HeadId) :
    (State.closeWatch b h s).prs = s.prs := by simp [State.closeWatch]

@[simp] theorem State.closeWatch_head_queue (b s : State) (h : HeadId) (k : HeadId) :
    ((State.closeWatch b h s).head k).queue = (s.head k).queue := by simp [State.closeWatch]
@[simp] theorem State.closeWatch_head_nextSeq (b s : State) (h : HeadId) (k : HeadId) :
    ((State.closeWatch b h s).head k).nextSeq = (s.head k).nextSeq := by simp [State.closeWatch]
@[simp] theorem State.closeWatch_head_ref (b s : State) (h : HeadId) (k : HeadId) :
    ((State.closeWatch b h s).head k).ref = (s.head k).ref := by simp [State.closeWatch]
@[simp] theorem State.closeWatch_head_runs (b s : State) (h : HeadId) (k : HeadId) :
    ((State.closeWatch b h s).head k).runs = (s.head k).runs := by simp [State.closeWatch]
@[simp] theorem State.closeWatch_head_floor (b s : State) (h : HeadId) (k : HeadId) :
    ((State.closeWatch b h s).head k).floor = (s.head k).floor := by simp [State.closeWatch]
@[simp] theorem State.closeWatch_head_cut (b s : State) (h : HeadId) (k : HeadId) :
    ((State.closeWatch b h s).head k).cut = (s.head k).cut := by simp [State.closeWatch]
@[simp] theorem State.closeWatch_head_window (b s : State) (h : HeadId) (k : HeadId) :
    ((State.closeWatch b h s).head k).window = (s.head k).window := by simp [State.closeWatch]
@[simp] theorem State.closeWatch_head_standing (b s : State) (h : HeadId) (k : HeadId) :
    ((State.closeWatch b h s).head k).standing = (s.head k).standing := by simp [State.closeWatch]
@[simp] theorem State.closeWatch_head_claim (b s : State) (h : HeadId) (k : HeadId) :
    ((State.closeWatch b h s).head k).claim = (s.head k).claim := by simp [State.closeWatch]
@[simp] theorem State.closeWatch_head_pendingReq (b s : State) (h : HeadId) (k : HeadId) :
    ((State.closeWatch b h s).head k).pendingReq = (s.head k).pendingReq := by simp [State.closeWatch]
@[simp] theorem State.closeWatch_head_lapse (b s : State) (h : HeadId) (k : HeadId) :
    ((State.closeWatch b h s).head k).lapse = (s.head k).lapse := by simp [State.closeWatch]
@[simp] theorem State.closeWatch_head_blade (b s : State) (h : HeadId) (k : HeadId) :
    ((State.closeWatch b h s).head k).blade = (s.head k).blade := by simp [State.closeWatch]
@[simp] theorem State.closeWatch_head_bladeParams (b s : State) (h : HeadId) (k : HeadId) :
    ((State.closeWatch b h s).head k).bladeParams = (s.head k).bladeParams := by simp [State.closeWatch]
@[simp] theorem State.closeWatch_head_guard (b s : State) (h : HeadId) (k : HeadId) :
    ((State.closeWatch b h s).head k).guard = (s.head k).guard := by simp [State.closeWatch]
@[simp] theorem State.closeWatch_head_service (b s : State) (h : HeadId) (k : HeadId) :
    ((State.closeWatch b h s).head k).service = (s.head k).service := by simp [State.closeWatch]
@[simp] theorem State.closeWatch_head_hold (b s : State) (h : HeadId) (k : HeadId) :
    ((State.closeWatch b h s).head k).hold = (s.head k).hold := by simp [State.closeWatch]
@[simp] theorem State.closeWatch_head_overdue (b s : State) (h : HeadId) (k : HeadId) :
    ((State.closeWatch b h s).head k).overdue = (s.head k).overdue := by simp [State.closeWatch]

@[simp] theorem State.closeHead_pending (b s : State) (h : HeadId) :
    (State.closeHead b h s).pending = s.pending := by simp [State.closeHead]
@[simp] theorem State.closeHead_free (b s : State) (h : HeadId) :
    (State.closeHead b h s).free = s.free := by simp [State.closeHead]
@[simp] theorem State.closeHead_resetHold (b s : State) (h : HeadId) :
    (State.closeHead b h s).resetHold = s.resetHold := by simp [State.closeHead]
@[simp] theorem State.closeHead_lastCause (b s : State) (h : HeadId) :
    (State.closeHead b h s).lastCause = s.lastCause := by simp [State.closeHead]
@[simp] theorem State.closeHead_rate (b s : State) (h : HeadId) :
    (State.closeHead b h s).rate = s.rate := by simp [State.closeHead]
@[simp] theorem State.closeHead_job (b s : State) (h : HeadId) :
    (State.closeHead b h s).job = s.job := by simp [State.closeHead]
@[simp] theorem State.closeHead_bed (b s : State) (h : HeadId) :
    (State.closeHead b h s).bed = s.bed := by simp [State.closeHead]
@[simp] theorem State.closeHead_zoneSettings (b s : State) (h : HeadId) :
    (State.closeHead b h s).zoneSettings = s.zoneSettings := by simp [State.closeHead]
@[simp] theorem State.closeHead_zones (b s : State) (h : HeadId) :
    (State.closeHead b h s).zones = s.zones := by simp [State.closeHead]
@[simp] theorem State.closeHead_mark (b s : State) (h : HeadId) :
    (State.closeHead b h s).mark = s.mark := by simp [State.closeHead]
@[simp] theorem State.closeHead_pieces (b s : State) (h : HeadId) :
    (State.closeHead b h s).pieces = s.pieces := by simp [State.closeHead]
@[simp] theorem State.closeHead_retained (b s : State) (h : HeadId) :
    (State.closeHead b h s).retained = s.retained := by simp [State.closeHead]
@[simp] theorem State.closeHead_prs (b s : State) (h : HeadId) :
    (State.closeHead b h s).prs = s.prs := by simp [State.closeHead]

@[simp] theorem State.closeHead_head_queue (b s : State) (h : HeadId) (k : HeadId) :
    ((State.closeHead b h s).head k).queue = (s.head k).queue := by simp [State.closeHead]
@[simp] theorem State.closeHead_head_nextSeq (b s : State) (h : HeadId) (k : HeadId) :
    ((State.closeHead b h s).head k).nextSeq = (s.head k).nextSeq := by simp [State.closeHead]
@[simp] theorem State.closeHead_head_ref (b s : State) (h : HeadId) (k : HeadId) :
    ((State.closeHead b h s).head k).ref = (s.head k).ref := by simp [State.closeHead]
@[simp] theorem State.closeHead_head_runs (b s : State) (h : HeadId) (k : HeadId) :
    ((State.closeHead b h s).head k).runs = (s.head k).runs := by simp [State.closeHead]
@[simp] theorem State.closeHead_head_floor (b s : State) (h : HeadId) (k : HeadId) :
    ((State.closeHead b h s).head k).floor = (s.head k).floor := by simp [State.closeHead]
@[simp] theorem State.closeHead_head_cut (b s : State) (h : HeadId) (k : HeadId) :
    ((State.closeHead b h s).head k).cut = (s.head k).cut := by simp [State.closeHead]
@[simp] theorem State.closeHead_head_window (b s : State) (h : HeadId) (k : HeadId) :
    ((State.closeHead b h s).head k).window = (s.head k).window := by simp [State.closeHead]
@[simp] theorem State.closeHead_head_standing (b s : State) (h : HeadId) (k : HeadId) :
    ((State.closeHead b h s).head k).standing = (s.head k).standing := by simp [State.closeHead]
@[simp] theorem State.closeHead_head_claim (b s : State) (h : HeadId) (k : HeadId) :
    ((State.closeHead b h s).head k).claim = (s.head k).claim := by simp [State.closeHead]
@[simp] theorem State.closeHead_head_pendingReq (b s : State) (h : HeadId) (k : HeadId) :
    ((State.closeHead b h s).head k).pendingReq = (s.head k).pendingReq := by simp [State.closeHead]
@[simp] theorem State.closeHead_head_bladeParams (b s : State) (h : HeadId) (k : HeadId) :
    ((State.closeHead b h s).head k).bladeParams = (s.head k).bladeParams := by simp [State.closeHead]
@[simp] theorem State.closeHead_head_guard (b s : State) (h : HeadId) (k : HeadId) :
    ((State.closeHead b h s).head k).guard = (s.head k).guard := by simp [State.closeHead]
@[simp] theorem State.closeHead_head_service (b s : State) (h : HeadId) (k : HeadId) :
    ((State.closeHead b h s).head k).service = (s.head k).service := by simp [State.closeHead]

@[simp] theorem State.closeEvent_pending (b s : State) :
    (State.closeEvent b s).pending = s.pending := by simp [State.closeEvent]
@[simp] theorem State.closeEvent_free (b s : State) :
    (State.closeEvent b s).free = s.free := by simp [State.closeEvent]
@[simp] theorem State.closeEvent_resetHold (b s : State) :
    (State.closeEvent b s).resetHold = s.resetHold := by simp [State.closeEvent]
@[simp] theorem State.closeEvent_lastCause (b s : State) :
    (State.closeEvent b s).lastCause = s.lastCause := by simp [State.closeEvent]
@[simp] theorem State.closeEvent_rate (b s : State) :
    (State.closeEvent b s).rate = s.rate := by simp [State.closeEvent]
@[simp] theorem State.closeEvent_job (b s : State) : (State.closeEvent b s).job = s.job := by simp [State.closeEvent]
@[simp] theorem State.closeEvent_bed (b s : State) : (State.closeEvent b s).bed = s.bed := by simp [State.closeEvent]
@[simp] theorem State.closeEvent_zoneSettings (b s : State) :
    (State.closeEvent b s).zoneSettings = s.zoneSettings := by simp [State.closeEvent]
@[simp] theorem State.closeEvent_zones (b s : State) :
    (State.closeEvent b s).zones = s.zones := by simp [State.closeEvent]
@[simp] theorem State.closeEvent_mark (b s : State) :
    (State.closeEvent b s).mark = s.mark := by simp [State.closeEvent]
@[simp] theorem State.closeEvent_pieces (b s : State) :
    (State.closeEvent b s).pieces = s.pieces := by simp [State.closeEvent]
@[simp] theorem State.closeEvent_retained (b s : State) :
    (State.closeEvent b s).retained = s.retained := by simp [State.closeEvent]
@[simp] theorem State.closeEvent_prs (b s : State) :
    (State.closeEvent b s).prs = s.prs := by simp [State.closeEvent]

@[simp] theorem State.closeEvent_head_queue (b s : State) (k : HeadId) :
    ((State.closeEvent b s).head k).queue = (s.head k).queue := by simp [State.closeEvent]
@[simp] theorem State.closeEvent_head_nextSeq (b s : State) (k : HeadId) :
    ((State.closeEvent b s).head k).nextSeq = (s.head k).nextSeq := by simp [State.closeEvent]
@[simp] theorem State.closeEvent_head_ref (b s : State) (k : HeadId) :
    ((State.closeEvent b s).head k).ref = (s.head k).ref := by simp [State.closeEvent]
@[simp] theorem State.closeEvent_head_runs (b s : State) (k : HeadId) :
    ((State.closeEvent b s).head k).runs = (s.head k).runs := by simp [State.closeEvent]
@[simp] theorem State.closeEvent_head_floor (b s : State) (k : HeadId) :
    ((State.closeEvent b s).head k).floor = (s.head k).floor := by simp [State.closeEvent]
@[simp] theorem State.closeEvent_head_cut (b s : State) (k : HeadId) :
    ((State.closeEvent b s).head k).cut = (s.head k).cut := by simp [State.closeEvent]
@[simp] theorem State.closeEvent_head_window (b s : State) (k : HeadId) :
    ((State.closeEvent b s).head k).window = (s.head k).window := by simp [State.closeEvent]
@[simp] theorem State.closeEvent_head_standing (b s : State) (k : HeadId) :
    ((State.closeEvent b s).head k).standing = (s.head k).standing := by simp [State.closeEvent]
@[simp] theorem State.closeEvent_head_claim (b s : State) (k : HeadId) :
    ((State.closeEvent b s).head k).claim = (s.head k).claim := by simp [State.closeEvent]
@[simp] theorem State.closeEvent_head_pendingReq (b s : State) (k : HeadId) :
    ((State.closeEvent b s).head k).pendingReq = (s.head k).pendingReq := by simp [State.closeEvent]
@[simp] theorem State.closeEvent_head_bladeParams (b s : State) (k : HeadId) :
    ((State.closeEvent b s).head k).bladeParams = (s.head k).bladeParams := by simp [State.closeEvent]
@[simp] theorem State.closeEvent_head_guard (b s : State) (k : HeadId) :
    ((State.closeEvent b s).head k).guard = (s.head k).guard := by simp [State.closeEvent]
@[simp] theorem State.closeEvent_head_service (b s : State) (k : HeadId) :
    ((State.closeEvent b s).head k).service = (s.head k).service := by simp [State.closeEvent]

end Sys2Proof.Machine
end

