-- ==== Sys2Proof/Laws/Closing.lean ====
section
/-! SUPPORT. What closing an event settles: the reason set, the demand, the lapse timer; and that it touches each head by
itself. -/

namespace Sys2Proof.Machine

/-! ### Each head by itself -/

@[simp] theorem State.tell_head_other (s : State) (h : HeadId) (p : Watch → Bool) :
    (s.tell h p).head h.other = s.head h.other := by
  unfold State.tell; split <;> simp

@[simp] theorem State.closeBlade_head_other (b s : State) (h : HeadId) :
    (State.closeBlade b h s).head h.other = s.head h.other := State.head_modHead_other s h _

@[simp] theorem State.closeHold_head_other (b s : State) (h : HeadId) :
    (State.closeHold b h s).head h.other = s.head h.other := by
  simp only [State.closeHold]; split <;> simp

@[simp] theorem State.closeLapse_head_other (s : State) (h : HeadId) :
    (State.closeLapse h s).head h.other = s.head h.other := State.head_modHead_other s h _

@[simp] theorem State.closeWatch_head_other (b s : State) (h : HeadId) :
    (State.closeWatch b h s).head h.other = s.head h.other := by
  simp [State.closeWatch]

@[simp] theorem State.closeHead_head_other (b s : State) (h : HeadId) :
    (State.closeHead b h s).head h.other = s.head h.other := by
  simp [State.closeHead]

/-- Head A after an event: what closing it left. -/
theorem State.closeEvent_head_a (b s : State) : (State.closeEvent b s).head .a = (State.closeHead b .a s).head .a :=
  State.closeHead_head_other b _ .b

/-- Head B after an event: what closing it left, with head A closed before. -/
theorem State.closeEvent_head_b (b s : State) :
    (State.closeEvent b s).head .b = (State.closeHead b .b (State.closeHead b .a s)).head .b := rfl

/-! ### The zones -/

@[simp] theorem State.zone_closeEvent (b s : State) (k : Nat) : (State.closeEvent b s).zone k = s.zone k := by
  simp [State.zone]

theorem State.allHeld_congr {s t : State} (zones : t.zones = s.zones) (r : ZoneRange) : t.allHeld r = s.allHeld r := by
  simp [State.allHeld, State.zone, zones]

theorem State.activeCount_congr {s t : State} (zones : t.zones = s.zones) : t.activeCount = s.activeCount := by
  simp [State.activeCount, zones]

/-! ### The reason set -/

/-- The reasons depend on the job state, the zones, and of the head on its service state, window, channel, and the two
reasons that stand as set. -/
theorem State.holdNow_congr {s t : State} (h : HeadId) (job : t.job.state = s.job.state) (zones : t.zones = s.zones)
    (service : (t.head h).service = (s.head h).service) (window : (t.head h).window = (s.head h).window)
    (blade : (t.head h).blade = (s.head h).blade) (cell : (t.head h).hold.cellHold = (s.head h).hold.cellHold)
    (overdue : (t.head h).hold.overdue = (s.head h).hold.overdue) : t.holdNow h = s.holdNow h := by
  simp [State.holdNow, Head.inService, Head.bladeHolds, Head.holdsCut, State.zoneHolds, Head.cutsOver, State.zone, job,
    zones, service, window, blade, cell, overdue]

@[simp] theorem State.closeHold_hold (b s : State) (h : HeadId) :
    ((State.closeHold b h s).head h).hold = s.holdNow h := by
  simp only [State.closeHold]; split <;> simp

@[simp] theorem State.closeHold_overdue (b s : State) (h : HeadId) :
    ((State.closeHold b h s).head h).overdue = (s.head h).overdue.follow (s.holdNow h).held := by
  simp only [State.closeHold]; split <;> simp

@[simp] theorem State.closeLapse_lapse (s : State) (h : HeadId) :
    ((State.closeLapse h s).head h).lapse = s.lapseNow h := by
  simp [State.closeLapse]

@[simp] theorem State.closeHead_hold (b s : State) (h : HeadId) :
    ((State.closeHead b h s).head h).hold = (State.closeBlade b h s).holdNow h := by
  simp [State.closeHead]

@[simp] theorem State.closeHead_blade (b s : State) (h : HeadId) :
    ((State.closeHead b h s).head h).blade = ((State.closeBlade b h s).head h).blade := by
  simp [State.closeHead]

@[simp] theorem State.closeHead_overdue (b s : State) (h : HeadId) :
    ((State.closeHead b h s).head h).overdue =
      (s.head h).overdue.follow ((State.closeBlade b h s).holdNow h).held := by
  simp [State.closeHead]

@[simp] theorem State.closeBlade_hold (b s : State) (h : HeadId) :
    ((State.closeBlade b h s).head h).hold = (s.head h).hold := by simp

/-- After closing a head its reason set is the one its owners' conditions give (Table 8-1). -/
theorem State.closeHead_holds (b s : State) (h : HeadId) :
    ((State.closeHead b h s).head h).hold = (State.closeHead b h s).holdNow h := by
  rw [State.closeHead_hold]
  refine (State.holdNow_congr h ?_ ?_ ?_ ?_ ?_ ?_ ?_).symm <;> simp [State.holdNow]

/-- After an event both reason sets are the ones their owners' conditions give (Table 8-1). -/
theorem State.closeEvent_holds (b s : State) (h : HeadId) :
    ((State.closeEvent b s).head h).hold = (State.closeEvent b s).holdNow h := by
  cases h with
  | a =>
    have same := State.closeEvent_head_a b s
    rw [same, State.closeHead_holds]
    refine (State.holdNow_congr .a ?_ ?_ ?_ ?_ ?_ ?_ ?_).symm <;> first | (rw [same]) | simp [State.closeEvent]
  | b => exact State.closeHead_holds b _ .b

/-! ### The demand -/

/-- Reworking a channel leaves its two delay timers as the rework set them. -/
theorem Channel.setDemand_idleTimer (p : BladeParams) (d : Demand) (c : Channel) :
    (c.setDemand p d).idleTimer = c.idleTimer := by
  unfold Channel.setDemand; split
  · rfl
  · unfold Channel.act
    split <;> first | rfl | (split <;> first | rfl | (unfold Channel.raiseToCut; split <;> rfl))

theorem Channel.setDemand_stopTimer (p : BladeParams) (d : Demand) (c : Channel) :
    (c.setDemand p d).stopTimer = c.stopTimer := by
  unfold Channel.setDemand; split
  · rfl
  · unfold Channel.act
    split <;> first | rfl | (split <;> first | rfl | (unfold Channel.raiseToCut; split <;> rfl))

@[simp] theorem Channel.setDemand_demand (p : BladeParams) (d : Demand) (c : Channel) : (c.setDemand p d).demand = d := by
  unfold Channel.setDemand; split
  · next e => exact e.symm
  · rfl

/-- After a rework the demand is the one its cases give (R103). -/
theorem Head.reworkBlade_demand (stoodBy jobOpen : Bool) (hd : Head) :
    (hd.reworkBlade stoodBy jobOpen).blade.demand = (hd.reworkBlade stoodBy jobOpen).demandOf jobOpen := by
  simp [Head.reworkBlade, Head.demandOf, Head.inService, Head.cutCondition, Head.holdsCut, Channel.setDemand_idleTimer,
    Channel.setDemand_stopTimer]

/-- The demand depends on the job, and of the head on its service state, window, OVERDUE and the two delay timers. -/
theorem Head.demandOf_congr {x y : Head} (jobOpen : Bool) (service : x.service = y.service) (window : x.window = y.window)
    (overdue : x.hold.overdue = y.hold.overdue) (blade : x.blade = y.blade) : x.demandOf jobOpen = y.demandOf jobOpen := by
  simp [Head.demandOf, Head.inService, Head.cutCondition, Head.holdsCut, service, window, overdue, blade]

/-- After closing a head its demand is the one its cases give (R103). -/
theorem State.closeHead_demands (b s : State) (h : HeadId) :
    ((State.closeHead b h s).head h).blade.demand = ((State.closeHead b h s).head h).demandOf s.job.state.isOpen := by
  have step : ((State.closeBlade b h s).head h).blade.demand =
      ((State.closeBlade b h s).head h).demandOf s.job.state.isOpen := by
    simp only [State.closeBlade, State.head_modHead_self]
    exact Head.reworkBlade_demand _ _ _
  rw [State.closeHead_blade, step]
  refine Head.demandOf_congr _ ?_ ?_ ?_ ?_ <;> simp [State.holdNow]

/-- After an event both demands are the ones their cases give (R103). -/
theorem State.closeEvent_demands (b s : State) (h : HeadId) :
    ((State.closeEvent b s).head h).blade.demand = ((State.closeEvent b s).head h).demandOf s.job.state.isOpen := by
  cases h with
  | a => rw [State.closeEvent_head_a, State.closeHead_demands]
  | b => rw [State.closeEvent_head_b, State.closeHead_demands]; simp

end Sys2Proof.Machine
end

