-- ==== Sys2Proof/Laws/Zones.lean ====
section
/-! SUPPORT. What the zone operations leave unchanged, field by field. -/

namespace Sys2Proof.Machine

/-- What every step of a fold keeps, the fold keeps. -/
theorem foldl_keeps {α β : Type} (view : State → α) (f : State → β → State)
    (keeps : ∀ s x, view (f s x) = view s) (xs : List β) (s : State) : view (xs.foldl f s) = view s := by
  induction xs generalizing s with
  | nil => rfl
  | cons x xs ih => rw [List.foldl_cons, ih, keeps]

@[simp] theorem State.startZone_head_queue (s : State) (j : Nat) (k : HeadId) :
    ((s.startZone j).head k).queue = (s.head k).queue := rfl
@[simp] theorem State.startZone_head_nextSeq (s : State) (j : Nat) (k : HeadId) :
    ((s.startZone j).head k).nextSeq = (s.head k).nextSeq := rfl
@[simp] theorem State.startZone_head_ref (s : State) (j : Nat) (k : HeadId) :
    ((s.startZone j).head k).ref = (s.head k).ref := rfl
@[simp] theorem State.startZone_head_runs (s : State) (j : Nat) (k : HeadId) :
    ((s.startZone j).head k).runs = (s.head k).runs := rfl
@[simp] theorem State.startZone_head_floor (s : State) (j : Nat) (k : HeadId) :
    ((s.startZone j).head k).floor = (s.head k).floor := rfl
@[simp] theorem State.startZone_head_cut (s : State) (j : Nat) (k : HeadId) :
    ((s.startZone j).head k).cut = (s.head k).cut := rfl
@[simp] theorem State.startZone_head_window (s : State) (j : Nat) (k : HeadId) :
    ((s.startZone j).head k).window = (s.head k).window := rfl
@[simp] theorem State.startZone_head_standing (s : State) (j : Nat) (k : HeadId) :
    ((s.startZone j).head k).standing = (s.head k).standing := rfl
@[simp] theorem State.startZone_head_claim (s : State) (j : Nat) (k : HeadId) :
    ((s.startZone j).head k).claim = (s.head k).claim := rfl
@[simp] theorem State.startZone_head_watch (s : State) (j : Nat) (k : HeadId) :
    ((s.startZone j).head k).watch = (s.head k).watch := rfl
@[simp] theorem State.startZone_head_pendingReq (s : State) (j : Nat) (k : HeadId) :
    ((s.startZone j).head k).pendingReq = (s.head k).pendingReq := rfl
@[simp] theorem State.startZone_head_lapse (s : State) (j : Nat) (k : HeadId) :
    ((s.startZone j).head k).lapse = (s.head k).lapse := rfl
@[simp] theorem State.startZone_head_blade (s : State) (j : Nat) (k : HeadId) :
    ((s.startZone j).head k).blade = (s.head k).blade := rfl
@[simp] theorem State.startZone_head_bladeParams (s : State) (j : Nat) (k : HeadId) :
    ((s.startZone j).head k).bladeParams = (s.head k).bladeParams := rfl
@[simp] theorem State.startZone_head_guard (s : State) (j : Nat) (k : HeadId) :
    ((s.startZone j).head k).guard = (s.head k).guard := rfl
@[simp] theorem State.startZone_head_service (s : State) (j : Nat) (k : HeadId) :
    ((s.startZone j).head k).service = (s.head k).service := rfl
@[simp] theorem State.startZone_head_hold (s : State) (j : Nat) (k : HeadId) :
    ((s.startZone j).head k).hold = (s.head k).hold := rfl
@[simp] theorem State.startZone_head_overdue (s : State) (j : Nat) (k : HeadId) :
    ((s.startZone j).head k).overdue = (s.head k).overdue := rfl

@[simp] theorem State.restartZone_pending (s : State) (j : Nat) :
    (s.restartZone j).pending = s.pending := by unfold State.restartZone; split <;> simp
@[simp] theorem State.restartZone_free (s : State) (j : Nat) :
    (s.restartZone j).free = s.free := by unfold State.restartZone; split <;> simp
@[simp] theorem State.restartZone_resetHold (s : State) (j : Nat) :
    (s.restartZone j).resetHold = s.resetHold := by unfold State.restartZone; split <;> simp
@[simp] theorem State.restartZone_lastCause (s : State) (j : Nat) :
    (s.restartZone j).lastCause = s.lastCause := by unfold State.restartZone; split <;> simp
@[simp] theorem State.restartZone_rate (s : State) (j : Nat) :
    (s.restartZone j).rate = s.rate := by unfold State.restartZone; split <;> simp
@[simp] theorem State.restartZone_links (s : State) (j : Nat) :
    (s.restartZone j).links = s.links := by unfold State.restartZone; split <;> simp
@[simp] theorem State.restartZone_job (s : State) (j : Nat) :
    (s.restartZone j).job = s.job := by unfold State.restartZone; split <;> simp
@[simp] theorem State.restartZone_heads (s : State) (j : Nat) :
    (s.restartZone j).heads = s.heads := by unfold State.restartZone; split <;> simp
@[simp] theorem State.restartZone_bed (s : State) (j : Nat) :
    (s.restartZone j).bed = s.bed := by unfold State.restartZone; split <;> simp
@[simp] theorem State.restartZone_zoneSettings (s : State) (j : Nat) :
    (s.restartZone j).zoneSettings = s.zoneSettings := by unfold State.restartZone; split <;> simp
@[simp] theorem State.restartZone_mark (s : State) (j : Nat) :
    (s.restartZone j).mark = s.mark := by unfold State.restartZone; split <;> simp
@[simp] theorem State.restartZone_pieces (s : State) (j : Nat) :
    (s.restartZone j).pieces = s.pieces := by unfold State.restartZone; split <;> simp
@[simp] theorem State.restartZone_retained (s : State) (j : Nat) :
    (s.restartZone j).retained = s.retained := by unfold State.restartZone; split <;> simp
@[simp] theorem State.restartZone_prs (s : State) (j : Nat) :
    (s.restartZone j).prs = s.prs := by unfold State.restartZone; split <;> simp

@[simp] theorem State.restartZone_head_queue (s : State) (j : Nat) (k : HeadId) :
    ((s.restartZone j).head k).queue = (s.head k).queue := by unfold State.restartZone; split <;> simp
@[simp] theorem State.restartZone_head_nextSeq (s : State) (j : Nat) (k : HeadId) :
    ((s.restartZone j).head k).nextSeq = (s.head k).nextSeq := by unfold State.restartZone; split <;> simp
@[simp] theorem State.restartZone_head_ref (s : State) (j : Nat) (k : HeadId) :
    ((s.restartZone j).head k).ref = (s.head k).ref := by unfold State.restartZone; split <;> simp
@[simp] theorem State.restartZone_head_runs (s : State) (j : Nat) (k : HeadId) :
    ((s.restartZone j).head k).runs = (s.head k).runs := by unfold State.restartZone; split <;> simp
@[simp] theorem State.restartZone_head_floor (s : State) (j : Nat) (k : HeadId) :
    ((s.restartZone j).head k).floor = (s.head k).floor := by unfold State.restartZone; split <;> simp
@[simp] theorem State.restartZone_head_cut (s : State) (j : Nat) (k : HeadId) :
    ((s.restartZone j).head k).cut = (s.head k).cut := by unfold State.restartZone; split <;> simp
@[simp] theorem State.restartZone_head_window (s : State) (j : Nat) (k : HeadId) :
    ((s.restartZone j).head k).window = (s.head k).window := by unfold State.restartZone; split <;> simp
@[simp] theorem State.restartZone_head_standing (s : State) (j : Nat) (k : HeadId) :
    ((s.restartZone j).head k).standing = (s.head k).standing := by unfold State.restartZone; split <;> simp
@[simp] theorem State.restartZone_head_claim (s : State) (j : Nat) (k : HeadId) :
    ((s.restartZone j).head k).claim = (s.head k).claim := by unfold State.restartZone; split <;> simp
@[simp] theorem State.restartZone_head_watch (s : State) (j : Nat) (k : HeadId) :
    ((s.restartZone j).head k).watch = (s.head k).watch := by unfold State.restartZone; split <;> simp
@[simp] theorem State.restartZone_head_pendingReq (s : State) (j : Nat) (k : HeadId) :
    ((s.restartZone j).head k).pendingReq = (s.head k).pendingReq := by unfold State.restartZone; split <;> simp
@[simp] theorem State.restartZone_head_lapse (s : State) (j : Nat) (k : HeadId) :
    ((s.restartZone j).head k).lapse = (s.head k).lapse := by unfold State.restartZone; split <;> simp
@[simp] theorem State.restartZone_head_blade (s : State) (j : Nat) (k : HeadId) :
    ((s.restartZone j).head k).blade = (s.head k).blade := by unfold State.restartZone; split <;> simp
@[simp] theorem State.restartZone_head_bladeParams (s : State) (j : Nat) (k : HeadId) :
    ((s.restartZone j).head k).bladeParams = (s.head k).bladeParams := by unfold State.restartZone; split <;> simp
@[simp] theorem State.restartZone_head_guard (s : State) (j : Nat) (k : HeadId) :
    ((s.restartZone j).head k).guard = (s.head k).guard := by unfold State.restartZone; split <;> simp
@[simp] theorem State.restartZone_head_service (s : State) (j : Nat) (k : HeadId) :
    ((s.restartZone j).head k).service = (s.head k).service := by unfold State.restartZone; split <;> simp
@[simp] theorem State.restartZone_head_hold (s : State) (j : Nat) (k : HeadId) :
    ((s.restartZone j).head k).hold = (s.head k).hold := by unfold State.restartZone; split <;> simp
@[simp] theorem State.restartZone_head_overdue (s : State) (j : Nat) (k : HeadId) :
    ((s.restartZone j).head k).overdue = (s.head k).overdue := by unfold State.restartZone; split <;> simp

@[simp] theorem State.orphanRestart_pending (s : State) :
    (s.orphanRestart).pending = s.pending := foldl_keeps (fun t => t.pending) _ State.restartZone_pending _ s
@[simp] theorem State.orphanRestart_free (s : State) :
    (s.orphanRestart).free = s.free := foldl_keeps (fun t => t.free) _ State.restartZone_free _ s
@[simp] theorem State.orphanRestart_resetHold (s : State) :
    (s.orphanRestart).resetHold = s.resetHold := foldl_keeps (fun t => t.resetHold) _ State.restartZone_resetHold _ s
@[simp] theorem State.orphanRestart_lastCause (s : State) :
    (s.orphanRestart).lastCause = s.lastCause := foldl_keeps (fun t => t.lastCause) _ State.restartZone_lastCause _ s
@[simp] theorem State.orphanRestart_rate (s : State) :
    (s.orphanRestart).rate = s.rate := foldl_keeps (fun t => t.rate) _ State.restartZone_rate _ s
@[simp] theorem State.orphanRestart_links (s : State) :
    (s.orphanRestart).links = s.links := foldl_keeps (fun t => t.links) _ State.restartZone_links _ s
@[simp] theorem State.orphanRestart_job (s : State) :
    (s.orphanRestart).job = s.job := foldl_keeps (fun t => t.job) _ State.restartZone_job _ s
@[simp] theorem State.orphanRestart_heads (s : State) :
    (s.orphanRestart).heads = s.heads := foldl_keeps (fun t => t.heads) _ State.restartZone_heads _ s
@[simp] theorem State.orphanRestart_bed (s : State) :
    (s.orphanRestart).bed = s.bed := foldl_keeps (fun t => t.bed) _ State.restartZone_bed _ s
@[simp] theorem State.orphanRestart_zoneSettings (s : State) :
    (s.orphanRestart).zoneSettings = s.zoneSettings :=
  foldl_keeps (fun t => t.zoneSettings) _ State.restartZone_zoneSettings _ s
@[simp] theorem State.orphanRestart_mark (s : State) :
    (s.orphanRestart).mark = s.mark := foldl_keeps (fun t => t.mark) _ State.restartZone_mark _ s
@[simp] theorem State.orphanRestart_pieces (s : State) :
    (s.orphanRestart).pieces = s.pieces := foldl_keeps (fun t => t.pieces) _ State.restartZone_pieces _ s
@[simp] theorem State.orphanRestart_retained (s : State) :
    (s.orphanRestart).retained = s.retained := foldl_keeps (fun t => t.retained) _ State.restartZone_retained _ s
@[simp] theorem State.orphanRestart_prs (s : State) :
    (s.orphanRestart).prs = s.prs := foldl_keeps (fun t => t.prs) _ State.restartZone_prs _ s
@[simp] theorem State.orphanRestart_head_queue (s : State) (k : HeadId) :
    ((s.orphanRestart).head k).queue = (s.head k).queue :=
  foldl_keeps (fun t => (t.head k).queue) _ (fun t j => t.restartZone_head_queue j k) _ s
@[simp] theorem State.orphanRestart_head_nextSeq (s : State) (k : HeadId) :
    ((s.orphanRestart).head k).nextSeq = (s.head k).nextSeq :=
  foldl_keeps (fun t => (t.head k).nextSeq) _ (fun t j => t.restartZone_head_nextSeq j k) _ s
@[simp] theorem State.orphanRestart_head_ref (s : State) (k : HeadId) :
    ((s.orphanRestart).head k).ref = (s.head k).ref :=
  foldl_keeps (fun t => (t.head k).ref) _ (fun t j => t.restartZone_head_ref j k) _ s
@[simp] theorem State.orphanRestart_head_runs (s : State) (k : HeadId) :
    ((s.orphanRestart).head k).runs = (s.head k).runs :=
  foldl_keeps (fun t => (t.head k).runs) _ (fun t j => t.restartZone_head_runs j k) _ s
@[simp] theorem State.orphanRestart_head_floor (s : State) (k : HeadId) :
    ((s.orphanRestart).head k).floor = (s.head k).floor :=
  foldl_keeps (fun t => (t.head k).floor) _ (fun t j => t.restartZone_head_floor j k) _ s
@[simp] theorem State.orphanRestart_head_cut (s : State) (k : HeadId) :
    ((s.orphanRestart).head k).cut = (s.head k).cut :=
  foldl_keeps (fun t => (t.head k).cut) _ (fun t j => t.restartZone_head_cut j k) _ s
@[simp] theorem State.orphanRestart_head_window (s : State) (k : HeadId) :
    ((s.orphanRestart).head k).window = (s.head k).window :=
  foldl_keeps (fun t => (t.head k).window) _ (fun t j => t.restartZone_head_window j k) _ s
@[simp] theorem State.orphanRestart_head_standing (s : State) (k : HeadId) :
    ((s.orphanRestart).head k).standing = (s.head k).standing :=
  foldl_keeps (fun t => (t.head k).standing) _ (fun t j => t.restartZone_head_standing j k) _ s
@[simp] theorem State.orphanRestart_head_claim (s : State) (k : HeadId) :
    ((s.orphanRestart).head k).claim = (s.head k).claim :=
  foldl_keeps (fun t => (t.head k).claim) _ (fun t j => t.restartZone_head_claim j k) _ s
@[simp] theorem State.orphanRestart_head_watch (s : State) (k : HeadId) :
    ((s.orphanRestart).head k).watch = (s.head k).watch :=
  foldl_keeps (fun t => (t.head k).watch) _ (fun t j => t.restartZone_head_watch j k) _ s
@[simp] theorem State.orphanRestart_head_pendingReq (s : State) (k : HeadId) :
    ((s.orphanRestart).head k).pendingReq = (s.head k).pendingReq :=
  foldl_keeps (fun t => (t.head k).pendingReq) _ (fun t j => t.restartZone_head_pendingReq j k) _ s
@[simp] theorem State.orphanRestart_head_lapse (s : State) (k : HeadId) :
    ((s.orphanRestart).head k).lapse = (s.head k).lapse :=
  foldl_keeps (fun t => (t.head k).lapse) _ (fun t j => t.restartZone_head_lapse j k) _ s
@[simp] theorem State.orphanRestart_head_blade (s : State) (k : HeadId) :
    ((s.orphanRestart).head k).blade = (s.head k).blade :=
  foldl_keeps (fun t => (t.head k).blade) _ (fun t j => t.restartZone_head_blade j k) _ s
@[simp] theorem State.orphanRestart_head_bladeParams (s : State) (k : HeadId) :
    ((s.orphanRestart).head k).bladeParams = (s.head k).bladeParams :=
  foldl_keeps (fun t => (t.head k).bladeParams) _ (fun t j => t.restartZone_head_bladeParams j k) _ s
@[simp] theorem State.orphanRestart_head_guard (s : State) (k : HeadId) :
    ((s.orphanRestart).head k).guard = (s.head k).guard :=
  foldl_keeps (fun t => (t.head k).guard) _ (fun t j => t.restartZone_head_guard j k) _ s
@[simp] theorem State.orphanRestart_head_service (s : State) (k : HeadId) :
    ((s.orphanRestart).head k).service = (s.head k).service :=
  foldl_keeps (fun t => (t.head k).service) _ (fun t j => t.restartZone_head_service j k) _ s
@[simp] theorem State.orphanRestart_head_hold (s : State) (k : HeadId) :
    ((s.orphanRestart).head k).hold = (s.head k).hold :=
  foldl_keeps (fun t => (t.head k).hold) _ (fun t j => t.restartZone_head_hold j k) _ s
@[simp] theorem State.orphanRestart_head_overdue (s : State) (k : HeadId) :
    ((s.orphanRestart).head k).overdue = (s.head k).overdue :=
  foldl_keeps (fun t => (t.head k).overdue) _ (fun t j => t.restartZone_head_overdue j k) _ s

@[simp] theorem State.ventZone_pending (s : State) (j : Nat) :
    (s.ventZone j).pending = s.pending := by simp [State.ventZone]
@[simp] theorem State.ventZone_free (s : State) (j : Nat) : (s.ventZone j).free = s.free := by simp [State.ventZone]
@[simp] theorem State.ventZone_resetHold (s : State) (j : Nat) :
    (s.ventZone j).resetHold = s.resetHold := by simp [State.ventZone]
@[simp] theorem State.ventZone_lastCause (s : State) (j : Nat) :
    (s.ventZone j).lastCause = s.lastCause := by simp [State.ventZone]
@[simp] theorem State.ventZone_rate (s : State) (j : Nat) : (s.ventZone j).rate = s.rate := by simp [State.ventZone]
@[simp] theorem State.ventZone_job (s : State) (j : Nat) : (s.ventZone j).job = s.job := by simp [State.ventZone]
@[simp] theorem State.ventZone_bed (s : State) (j : Nat) : (s.ventZone j).bed = s.bed := by simp [State.ventZone]
@[simp] theorem State.ventZone_zoneSettings (s : State) (j : Nat) :
    (s.ventZone j).zoneSettings = s.zoneSettings := by simp [State.ventZone]
@[simp] theorem State.ventZone_mark (s : State) (j : Nat) : (s.ventZone j).mark = s.mark := by simp [State.ventZone]
@[simp] theorem State.ventZone_pieces (s : State) (j : Nat) :
    (s.ventZone j).pieces = s.pieces := by simp [State.ventZone]
@[simp] theorem State.ventZone_retained (s : State) (j : Nat) :
    (s.ventZone j).retained = s.retained := by simp [State.ventZone]
@[simp] theorem State.ventZone_prs (s : State) (j : Nat) :
    (s.ventZone j).prs = s.prs := by simp [State.ventZone]

@[simp] theorem State.ventZone_head_queue (s : State) (j : Nat) (k : HeadId) :
    ((s.ventZone j).head k).queue = (s.head k).queue := by simp [State.ventZone]
@[simp] theorem State.ventZone_head_nextSeq (s : State) (j : Nat) (k : HeadId) :
    ((s.ventZone j).head k).nextSeq = (s.head k).nextSeq := by simp [State.ventZone]
@[simp] theorem State.ventZone_head_ref (s : State) (j : Nat) (k : HeadId) :
    ((s.ventZone j).head k).ref = (s.head k).ref := by simp [State.ventZone]
@[simp] theorem State.ventZone_head_runs (s : State) (j : Nat) (k : HeadId) :
    ((s.ventZone j).head k).runs = (s.head k).runs := by simp [State.ventZone]
@[simp] theorem State.ventZone_head_floor (s : State) (j : Nat) (k : HeadId) :
    ((s.ventZone j).head k).floor = (s.head k).floor := by simp [State.ventZone]
@[simp] theorem State.ventZone_head_cut (s : State) (j : Nat) (k : HeadId) :
    ((s.ventZone j).head k).cut = (s.head k).cut := by simp [State.ventZone]
@[simp] theorem State.ventZone_head_window (s : State) (j : Nat) (k : HeadId) :
    ((s.ventZone j).head k).window = (s.head k).window := by simp [State.ventZone]
@[simp] theorem State.ventZone_head_standing (s : State) (j : Nat) (k : HeadId) :
    ((s.ventZone j).head k).standing = (s.head k).standing := by simp [State.ventZone]
@[simp] theorem State.ventZone_head_claim (s : State) (j : Nat) (k : HeadId) :
    ((s.ventZone j).head k).claim = (s.head k).claim := by simp [State.ventZone]
@[simp] theorem State.ventZone_head_pendingReq (s : State) (j : Nat) (k : HeadId) :
    ((s.ventZone j).head k).pendingReq = (s.head k).pendingReq := by simp [State.ventZone]
@[simp] theorem State.ventZone_head_lapse (s : State) (j : Nat) (k : HeadId) :
    ((s.ventZone j).head k).lapse = (s.head k).lapse := by simp [State.ventZone]
@[simp] theorem State.ventZone_head_blade (s : State) (j : Nat) (k : HeadId) :
    ((s.ventZone j).head k).blade = (s.head k).blade := by simp [State.ventZone]
@[simp] theorem State.ventZone_head_bladeParams (s : State) (j : Nat) (k : HeadId) :
    ((s.ventZone j).head k).bladeParams = (s.head k).bladeParams := by simp [State.ventZone]
@[simp] theorem State.ventZone_head_guard (s : State) (j : Nat) (k : HeadId) :
    ((s.ventZone j).head k).guard = (s.head k).guard := by simp [State.ventZone]
@[simp] theorem State.ventZone_head_service (s : State) (j : Nat) (k : HeadId) :
    ((s.ventZone j).head k).service = (s.head k).service := by simp [State.ventZone]
@[simp] theorem State.ventZone_head_hold (s : State) (j : Nat) (k : HeadId) :
    ((s.ventZone j).head k).hold = (s.head k).hold := by simp [State.ventZone]
@[simp] theorem State.ventZone_head_overdue (s : State) (j : Nat) (k : HeadId) :
    ((s.ventZone j).head k).overdue = (s.head k).overdue := by simp [State.ventZone]

@[simp] theorem State.ventIfUnneeded_pending (s : State) (j : Nat) :
    (s.ventIfUnneeded j).pending = s.pending := by unfold State.ventIfUnneeded; split <;> simp
@[simp] theorem State.ventIfUnneeded_free (s : State) (j : Nat) :
    (s.ventIfUnneeded j).free = s.free := by unfold State.ventIfUnneeded; split <;> simp
@[simp] theorem State.ventIfUnneeded_resetHold (s : State) (j : Nat) :
    (s.ventIfUnneeded j).resetHold = s.resetHold := by unfold State.ventIfUnneeded; split <;> simp
@[simp] theorem State.ventIfUnneeded_lastCause (s : State) (j : Nat) :
    (s.ventIfUnneeded j).lastCause = s.lastCause := by unfold State.ventIfUnneeded; split <;> simp
@[simp] theorem State.ventIfUnneeded_rate (s : State) (j : Nat) :
    (s.ventIfUnneeded j).rate = s.rate := by unfold State.ventIfUnneeded; split <;> simp
@[simp] theorem State.ventIfUnneeded_job (s : State) (j : Nat) :
    (s.ventIfUnneeded j).job = s.job := by unfold State.ventIfUnneeded; split <;> simp
@[simp] theorem State.ventIfUnneeded_bed (s : State) (j : Nat) :
    (s.ventIfUnneeded j).bed = s.bed := by unfold State.ventIfUnneeded; split <;> simp
@[simp] theorem State.ventIfUnneeded_zoneSettings (s : State) (j : Nat) :
    (s.ventIfUnneeded j).zoneSettings = s.zoneSettings := by unfold State.ventIfUnneeded; split <;> simp
@[simp] theorem State.ventIfUnneeded_mark (s : State) (j : Nat) :
    (s.ventIfUnneeded j).mark = s.mark := by unfold State.ventIfUnneeded; split <;> simp
@[simp] theorem State.ventIfUnneeded_pieces (s : State) (j : Nat) :
    (s.ventIfUnneeded j).pieces = s.pieces := by unfold State.ventIfUnneeded; split <;> simp
@[simp] theorem State.ventIfUnneeded_retained (s : State) (j : Nat) :
    (s.ventIfUnneeded j).retained = s.retained := by unfold State.ventIfUnneeded; split <;> simp
@[simp] theorem State.ventIfUnneeded_prs (s : State) (j : Nat) :
    (s.ventIfUnneeded j).prs = s.prs := by unfold State.ventIfUnneeded; split <;> simp

@[simp] theorem State.ventIfUnneeded_head_queue (s : State) (j : Nat) (k : HeadId) :
    ((s.ventIfUnneeded j).head k).queue = (s.head k).queue := by unfold State.ventIfUnneeded; split <;> simp
@[simp] theorem State.ventIfUnneeded_head_nextSeq (s : State) (j : Nat) (k : HeadId) :
    ((s.ventIfUnneeded j).head k).nextSeq = (s.head k).nextSeq := by unfold State.ventIfUnneeded; split <;> simp
@[simp] theorem State.ventIfUnneeded_head_ref (s : State) (j : Nat) (k : HeadId) :
    ((s.ventIfUnneeded j).head k).ref = (s.head k).ref := by unfold State.ventIfUnneeded; split <;> simp
@[simp] theorem State.ventIfUnneeded_head_runs (s : State) (j : Nat) (k : HeadId) :
    ((s.ventIfUnneeded j).head k).runs = (s.head k).runs := by unfold State.ventIfUnneeded; split <;> simp
@[simp] theorem State.ventIfUnneeded_head_floor (s : State) (j : Nat) (k : HeadId) :
    ((s.ventIfUnneeded j).head k).floor = (s.head k).floor := by unfold State.ventIfUnneeded; split <;> simp
@[simp] theorem State.ventIfUnneeded_head_cut (s : State) (j : Nat) (k : HeadId) :
    ((s.ventIfUnneeded j).head k).cut = (s.head k).cut := by unfold State.ventIfUnneeded; split <;> simp
@[simp] theorem State.ventIfUnneeded_head_window (s : State) (j : Nat) (k : HeadId) :
    ((s.ventIfUnneeded j).head k).window = (s.head k).window := by unfold State.ventIfUnneeded; split <;> simp
@[simp] theorem State.ventIfUnneeded_head_standing (s : State) (j : Nat) (k : HeadId) :
    ((s.ventIfUnneeded j).head k).standing = (s.head k).standing := by unfold State.ventIfUnneeded; split <;> simp
@[simp] theorem State.ventIfUnneeded_head_claim (s : State) (j : Nat) (k : HeadId) :
    ((s.ventIfUnneeded j).head k).claim = (s.head k).claim := by unfold State.ventIfUnneeded; split <;> simp
@[simp] theorem State.ventIfUnneeded_head_pendingReq (s : State) (j : Nat) (k : HeadId) :
    ((s.ventIfUnneeded j).head k).pendingReq = (s.head k).pendingReq := by unfold State.ventIfUnneeded; split <;> simp
@[simp] theorem State.ventIfUnneeded_head_lapse (s : State) (j : Nat) (k : HeadId) :
    ((s.ventIfUnneeded j).head k).lapse = (s.head k).lapse := by unfold State.ventIfUnneeded; split <;> simp
@[simp] theorem State.ventIfUnneeded_head_blade (s : State) (j : Nat) (k : HeadId) :
    ((s.ventIfUnneeded j).head k).blade = (s.head k).blade := by unfold State.ventIfUnneeded; split <;> simp
@[simp] theorem State.ventIfUnneeded_head_bladeParams (s : State) (j : Nat) (k : HeadId) :
    ((s.ventIfUnneeded j).head k).bladeParams = (s.head k).bladeParams :=
  by unfold State.ventIfUnneeded; split <;> simp
@[simp] theorem State.ventIfUnneeded_head_guard (s : State) (j : Nat) (k : HeadId) :
    ((s.ventIfUnneeded j).head k).guard = (s.head k).guard := by unfold State.ventIfUnneeded; split <;> simp
@[simp] theorem State.ventIfUnneeded_head_service (s : State) (j : Nat) (k : HeadId) :
    ((s.ventIfUnneeded j).head k).service = (s.head k).service := by unfold State.ventIfUnneeded; split <;> simp
@[simp] theorem State.ventIfUnneeded_head_hold (s : State) (j : Nat) (k : HeadId) :
    ((s.ventIfUnneeded j).head k).hold = (s.head k).hold := by unfold State.ventIfUnneeded; split <;> simp
@[simp] theorem State.ventIfUnneeded_head_overdue (s : State) (j : Nat) (k : HeadId) :
    ((s.ventIfUnneeded j).head k).overdue = (s.head k).overdue := by unfold State.ventIfUnneeded; split <;> simp

@[simp] theorem State.ventAll_pending (s : State) :
    ((List.range Config.zoneCount).foldl State.ventIfUnneeded s).pending = s.pending :=
  foldl_keeps (fun t => t.pending) _ State.ventIfUnneeded_pending _ s
@[simp] theorem State.ventAll_free (s : State) :
    ((List.range Config.zoneCount).foldl State.ventIfUnneeded s).free = s.free :=
  foldl_keeps (fun t => t.free) _ State.ventIfUnneeded_free _ s
@[simp] theorem State.ventAll_resetHold (s : State) :
    ((List.range Config.zoneCount).foldl State.ventIfUnneeded s).resetHold = s.resetHold :=
  foldl_keeps (fun t => t.resetHold) _ State.ventIfUnneeded_resetHold _ s
@[simp] theorem State.ventAll_lastCause (s : State) :
    ((List.range Config.zoneCount).foldl State.ventIfUnneeded s).lastCause = s.lastCause :=
  foldl_keeps (fun t => t.lastCause) _ State.ventIfUnneeded_lastCause _ s
@[simp] theorem State.ventAll_rate (s : State) :
    ((List.range Config.zoneCount).foldl State.ventIfUnneeded s).rate = s.rate :=
  foldl_keeps (fun t => t.rate) _ State.ventIfUnneeded_rate _ s
@[simp] theorem State.ventAll_job (s : State) :
    ((List.range Config.zoneCount).foldl State.ventIfUnneeded s).job = s.job :=
  foldl_keeps (fun t => t.job) _ State.ventIfUnneeded_job _ s
@[simp] theorem State.ventAll_bed (s : State) :
    ((List.range Config.zoneCount).foldl State.ventIfUnneeded s).bed = s.bed :=
  foldl_keeps (fun t => t.bed) _ State.ventIfUnneeded_bed _ s
@[simp] theorem State.ventAll_zoneSettings (s : State) :
    ((List.range Config.zoneCount).foldl State.ventIfUnneeded s).zoneSettings = s.zoneSettings :=
  foldl_keeps (fun t => t.zoneSettings) _ State.ventIfUnneeded_zoneSettings _ s
@[simp] theorem State.ventAll_mark (s : State) :
    ((List.range Config.zoneCount).foldl State.ventIfUnneeded s).mark = s.mark :=
  foldl_keeps (fun t => t.mark) _ State.ventIfUnneeded_mark _ s
@[simp] theorem State.ventAll_pieces (s : State) :
    ((List.range Config.zoneCount).foldl State.ventIfUnneeded s).pieces = s.pieces :=
  foldl_keeps (fun t => t.pieces) _ State.ventIfUnneeded_pieces _ s
@[simp] theorem State.ventAll_retained (s : State) :
    ((List.range Config.zoneCount).foldl State.ventIfUnneeded s).retained = s.retained :=
  foldl_keeps (fun t => t.retained) _ State.ventIfUnneeded_retained _ s
@[simp] theorem State.ventAll_prs (s : State) :
    ((List.range Config.zoneCount).foldl State.ventIfUnneeded s).prs = s.prs :=
  foldl_keeps (fun t => t.prs) _ State.ventIfUnneeded_prs _ s
@[simp] theorem State.ventAll_head_queue (s : State) (k : HeadId) :
    (((List.range Config.zoneCount).foldl State.ventIfUnneeded s).head k).queue = (s.head k).queue :=
  foldl_keeps (fun t => (t.head k).queue) _ (fun t j => t.ventIfUnneeded_head_queue j k) _ s
@[simp] theorem State.ventAll_head_nextSeq (s : State) (k : HeadId) :
    (((List.range Config.zoneCount).foldl State.ventIfUnneeded s).head k).nextSeq = (s.head k).nextSeq :=
  foldl_keeps (fun t => (t.head k).nextSeq) _ (fun t j => t.ventIfUnneeded_head_nextSeq j k) _ s
@[simp] theorem State.ventAll_head_ref (s : State) (k : HeadId) :
    (((List.range Config.zoneCount).foldl State.ventIfUnneeded s).head k).ref = (s.head k).ref :=
  foldl_keeps (fun t => (t.head k).ref) _ (fun t j => t.ventIfUnneeded_head_ref j k) _ s
@[simp] theorem State.ventAll_head_runs (s : State) (k : HeadId) :
    (((List.range Config.zoneCount).foldl State.ventIfUnneeded s).head k).runs = (s.head k).runs :=
  foldl_keeps (fun t => (t.head k).runs) _ (fun t j => t.ventIfUnneeded_head_runs j k) _ s
@[simp] theorem State.ventAll_head_floor (s : State) (k : HeadId) :
    (((List.range Config.zoneCount).foldl State.ventIfUnneeded s).head k).floor = (s.head k).floor :=
  foldl_keeps (fun t => (t.head k).floor) _ (fun t j => t.ventIfUnneeded_head_floor j k) _ s
@[simp] theorem State.ventAll_head_cut (s : State) (k : HeadId) :
    (((List.range Config.zoneCount).foldl State.ventIfUnneeded s).head k).cut = (s.head k).cut :=
  foldl_keeps (fun t => (t.head k).cut) _ (fun t j => t.ventIfUnneeded_head_cut j k) _ s
@[simp] theorem State.ventAll_head_window (s : State) (k : HeadId) :
    (((List.range Config.zoneCount).foldl State.ventIfUnneeded s).head k).window = (s.head k).window :=
  foldl_keeps (fun t => (t.head k).window) _ (fun t j => t.ventIfUnneeded_head_window j k) _ s
@[simp] theorem State.ventAll_head_standing (s : State) (k : HeadId) :
    (((List.range Config.zoneCount).foldl State.ventIfUnneeded s).head k).standing = (s.head k).standing :=
  foldl_keeps (fun t => (t.head k).standing) _ (fun t j => t.ventIfUnneeded_head_standing j k) _ s
@[simp] theorem State.ventAll_head_claim (s : State) (k : HeadId) :
    (((List.range Config.zoneCount).foldl State.ventIfUnneeded s).head k).claim = (s.head k).claim :=
  foldl_keeps (fun t => (t.head k).claim) _ (fun t j => t.ventIfUnneeded_head_claim j k) _ s
@[simp] theorem State.ventAll_head_pendingReq (s : State) (k : HeadId) :
    (((List.range Config.zoneCount).foldl State.ventIfUnneeded s).head k).pendingReq = (s.head k).pendingReq :=
  foldl_keeps (fun t => (t.head k).pendingReq) _ (fun t j => t.ventIfUnneeded_head_pendingReq j k) _ s
@[simp] theorem State.ventAll_head_lapse (s : State) (k : HeadId) :
    (((List.range Config.zoneCount).foldl State.ventIfUnneeded s).head k).lapse = (s.head k).lapse :=
  foldl_keeps (fun t => (t.head k).lapse) _ (fun t j => t.ventIfUnneeded_head_lapse j k) _ s
@[simp] theorem State.ventAll_head_blade (s : State) (k : HeadId) :
    (((List.range Config.zoneCount).foldl State.ventIfUnneeded s).head k).blade = (s.head k).blade :=
  foldl_keeps (fun t => (t.head k).blade) _ (fun t j => t.ventIfUnneeded_head_blade j k) _ s
@[simp] theorem State.ventAll_head_bladeParams (s : State) (k : HeadId) :
    (((List.range Config.zoneCount).foldl State.ventIfUnneeded s).head k).bladeParams = (s.head k).bladeParams :=
  foldl_keeps (fun t => (t.head k).bladeParams) _ (fun t j => t.ventIfUnneeded_head_bladeParams j k) _ s
@[simp] theorem State.ventAll_head_guard (s : State) (k : HeadId) :
    (((List.range Config.zoneCount).foldl State.ventIfUnneeded s).head k).guard = (s.head k).guard :=
  foldl_keeps (fun t => (t.head k).guard) _ (fun t j => t.ventIfUnneeded_head_guard j k) _ s
@[simp] theorem State.ventAll_head_service (s : State) (k : HeadId) :
    (((List.range Config.zoneCount).foldl State.ventIfUnneeded s).head k).service = (s.head k).service :=
  foldl_keeps (fun t => (t.head k).service) _ (fun t j => t.ventIfUnneeded_head_service j k) _ s
@[simp] theorem State.ventAll_head_hold (s : State) (k : HeadId) :
    (((List.range Config.zoneCount).foldl State.ventIfUnneeded s).head k).hold = (s.head k).hold :=
  foldl_keeps (fun t => (t.head k).hold) _ (fun t j => t.ventIfUnneeded_head_hold j k) _ s
@[simp] theorem State.ventAll_head_overdue (s : State) (k : HeadId) :
    (((List.range Config.zoneCount).foldl State.ventIfUnneeded s).head k).overdue = (s.head k).overdue :=
  foldl_keeps (fun t => (t.head k).overdue) _ (fun t j => t.ventIfUnneeded_head_overdue j k) _ s

@[simp] theorem State.reevaluate_pending (s : State) :
    (s.reevaluate).pending = s.pending := by simp only [State.reevaluate]; split <;> simp
@[simp] theorem State.reevaluate_free (s : State) :
    (s.reevaluate).free = s.free := by simp only [State.reevaluate]; split <;> simp
@[simp] theorem State.reevaluate_resetHold (s : State) :
    (s.reevaluate).resetHold = s.resetHold := by simp only [State.reevaluate]; split <;> simp
@[simp] theorem State.reevaluate_lastCause (s : State) :
    (s.reevaluate).lastCause = s.lastCause := by simp only [State.reevaluate]; split <;> simp
@[simp] theorem State.reevaluate_rate (s : State) :
    (s.reevaluate).rate = s.rate := by simp only [State.reevaluate]; split <;> simp
@[simp] theorem State.reevaluate_job (s : State) :
    (s.reevaluate).job = s.job := by simp only [State.reevaluate]; split <;> simp
@[simp] theorem State.reevaluate_bed (s : State) :
    (s.reevaluate).bed = s.bed := by simp only [State.reevaluate]; split <;> simp
@[simp] theorem State.reevaluate_zoneSettings (s : State) :
    (s.reevaluate).zoneSettings = s.zoneSettings := by simp only [State.reevaluate]; split <;> simp
@[simp] theorem State.reevaluate_mark (s : State) :
    (s.reevaluate).mark = s.mark := by simp only [State.reevaluate]; split <;> simp
@[simp] theorem State.reevaluate_pieces (s : State) :
    (s.reevaluate).pieces = s.pieces := by simp only [State.reevaluate]; split <;> simp
@[simp] theorem State.reevaluate_retained (s : State) :
    (s.reevaluate).retained = s.retained := by simp only [State.reevaluate]; split <;> simp
@[simp] theorem State.reevaluate_prs (s : State) :
    (s.reevaluate).prs = s.prs := by simp only [State.reevaluate]; split <;> simp

@[simp] theorem State.reevaluate_head_queue (s : State) (k : HeadId) :
    ((s.reevaluate).head k).queue = (s.head k).queue := by simp only [State.reevaluate]; split <;> simp
@[simp] theorem State.reevaluate_head_nextSeq (s : State) (k : HeadId) :
    ((s.reevaluate).head k).nextSeq = (s.head k).nextSeq := by simp only [State.reevaluate]; split <;> simp
@[simp] theorem State.reevaluate_head_ref (s : State) (k : HeadId) :
    ((s.reevaluate).head k).ref = (s.head k).ref := by simp only [State.reevaluate]; split <;> simp
@[simp] theorem State.reevaluate_head_runs (s : State) (k : HeadId) :
    ((s.reevaluate).head k).runs = (s.head k).runs := by simp only [State.reevaluate]; split <;> simp
@[simp] theorem State.reevaluate_head_floor (s : State) (k : HeadId) :
    ((s.reevaluate).head k).floor = (s.head k).floor := by simp only [State.reevaluate]; split <;> simp
@[simp] theorem State.reevaluate_head_cut (s : State) (k : HeadId) :
    ((s.reevaluate).head k).cut = (s.head k).cut := by simp only [State.reevaluate]; split <;> simp
@[simp] theorem State.reevaluate_head_window (s : State) (k : HeadId) :
    ((s.reevaluate).head k).window = (s.head k).window := by simp only [State.reevaluate]; split <;> simp
@[simp] theorem State.reevaluate_head_standing (s : State) (k : HeadId) :
    ((s.reevaluate).head k).standing = (s.head k).standing := by simp only [State.reevaluate]; split <;> simp
@[simp] theorem State.reevaluate_head_claim (s : State) (k : HeadId) :
    ((s.reevaluate).head k).claim = (s.head k).claim := by simp only [State.reevaluate]; split <;> simp
@[simp] theorem State.reevaluate_head_pendingReq (s : State) (k : HeadId) :
    ((s.reevaluate).head k).pendingReq = (s.head k).pendingReq := by simp only [State.reevaluate]; split <;> simp
@[simp] theorem State.reevaluate_head_lapse (s : State) (k : HeadId) :
    ((s.reevaluate).head k).lapse = (s.head k).lapse := by simp only [State.reevaluate]; split <;> simp
@[simp] theorem State.reevaluate_head_blade (s : State) (k : HeadId) :
    ((s.reevaluate).head k).blade = (s.head k).blade := by simp only [State.reevaluate]; split <;> simp
@[simp] theorem State.reevaluate_head_bladeParams (s : State) (k : HeadId) :
    ((s.reevaluate).head k).bladeParams = (s.head k).bladeParams := by simp only [State.reevaluate]; split <;> simp
@[simp] theorem State.reevaluate_head_guard (s : State) (k : HeadId) :
    ((s.reevaluate).head k).guard = (s.head k).guard := by simp only [State.reevaluate]; split <;> simp
@[simp] theorem State.reevaluate_head_service (s : State) (k : HeadId) :
    ((s.reevaluate).head k).service = (s.head k).service := by simp only [State.reevaluate]; split <;> simp
@[simp] theorem State.reevaluate_head_hold (s : State) (k : HeadId) :
    ((s.reevaluate).head k).hold = (s.head k).hold := by simp only [State.reevaluate]; split <;> simp
@[simp] theorem State.reevaluate_head_overdue (s : State) (k : HeadId) :
    ((s.reevaluate).head k).overdue = (s.head k).overdue := by simp only [State.reevaluate]; split <;> simp

@[simp] theorem State.dropMark_pending (s : State) (h : HeadId) :
    (s.dropMark h).pending = s.pending := by
  unfold State.dropMark; split
  · rfl
  · split <;> first | rfl | (split <;> rfl)
@[simp] theorem State.dropMark_free (s : State) (h : HeadId) :
    (s.dropMark h).free = s.free := by
  unfold State.dropMark; split
  · rfl
  · split <;> first | rfl | (split <;> rfl)
@[simp] theorem State.dropMark_resetHold (s : State) (h : HeadId) :
    (s.dropMark h).resetHold = s.resetHold := by
  unfold State.dropMark; split
  · rfl
  · split <;> first | rfl | (split <;> rfl)
@[simp] theorem State.dropMark_lastCause (s : State) (h : HeadId) :
    (s.dropMark h).lastCause = s.lastCause := by
  unfold State.dropMark; split
  · rfl
  · split <;> first | rfl | (split <;> rfl)
@[simp] theorem State.dropMark_rate (s : State) (h : HeadId) :
    (s.dropMark h).rate = s.rate := by
  unfold State.dropMark; split
  · rfl
  · split <;> first | rfl | (split <;> rfl)
@[simp] theorem State.dropMark_job (s : State) (h : HeadId) :
    (s.dropMark h).job = s.job := by
  unfold State.dropMark; split
  · rfl
  · split <;> first | rfl | (split <;> rfl)
@[simp] theorem State.dropMark_bed (s : State) (h : HeadId) :
    (s.dropMark h).bed = s.bed := by
  unfold State.dropMark; split
  · rfl
  · split <;> first | rfl | (split <;> rfl)
@[simp] theorem State.dropMark_zoneSettings (s : State) (h : HeadId) :
    (s.dropMark h).zoneSettings = s.zoneSettings := by
  unfold State.dropMark; split
  · rfl
  · split <;> first | rfl | (split <;> rfl)
@[simp] theorem State.dropMark_zones (s : State) (h : HeadId) :
    (s.dropMark h).zones = s.zones := by
  unfold State.dropMark; split
  · rfl
  · split <;> first | rfl | (split <;> rfl)
@[simp] theorem State.dropMark_pieces (s : State) (h : HeadId) :
    (s.dropMark h).pieces = s.pieces := by
  unfold State.dropMark; split
  · rfl
  · split <;> first | rfl | (split <;> rfl)
@[simp] theorem State.dropMark_retained (s : State) (h : HeadId) :
    (s.dropMark h).retained = s.retained := by
  unfold State.dropMark; split
  · rfl
  · split <;> first | rfl | (split <;> rfl)
@[simp] theorem State.dropMark_prs (s : State) (h : HeadId) :
    (s.dropMark h).prs = s.prs := by
  unfold State.dropMark; split
  · rfl
  · split <;> first | rfl | (split <;> rfl)

@[simp] theorem State.dropMark_head_queue (s : State) (h : HeadId) (k : HeadId) :
    ((s.dropMark h).head k).queue = (s.head k).queue := by
  unfold State.dropMark; split
  · rfl
  · split <;> first | rfl | (split <;> first | rfl | (simp; rfl))
@[simp] theorem State.dropMark_head_nextSeq (s : State) (h : HeadId) (k : HeadId) :
    ((s.dropMark h).head k).nextSeq = (s.head k).nextSeq := by
  unfold State.dropMark; split
  · rfl
  · split <;> first | rfl | (split <;> first | rfl | (simp; rfl))
@[simp] theorem State.dropMark_head_ref (s : State) (h : HeadId) (k : HeadId) :
    ((s.dropMark h).head k).ref = (s.head k).ref := by
  unfold State.dropMark; split
  · rfl
  · split <;> first | rfl | (split <;> first | rfl | (simp; rfl))
@[simp] theorem State.dropMark_head_runs (s : State) (h : HeadId) (k : HeadId) :
    ((s.dropMark h).head k).runs = (s.head k).runs := by
  unfold State.dropMark; split
  · rfl
  · split <;> first | rfl | (split <;> first | rfl | (simp; rfl))
@[simp] theorem State.dropMark_head_floor (s : State) (h : HeadId) (k : HeadId) :
    ((s.dropMark h).head k).floor = (s.head k).floor := by
  unfold State.dropMark; split
  · rfl
  · split <;> first | rfl | (split <;> first | rfl | (simp; rfl))
@[simp] theorem State.dropMark_head_cut (s : State) (h : HeadId) (k : HeadId) :
    ((s.dropMark h).head k).cut = (s.head k).cut := by
  unfold State.dropMark; split
  · rfl
  · split <;> first | rfl | (split <;> first | rfl | (simp; rfl))
@[simp] theorem State.dropMark_head_window (s : State) (h : HeadId) (k : HeadId) :
    ((s.dropMark h).head k).window = (s.head k).window := by
  unfold State.dropMark; split
  · rfl
  · split <;> first | rfl | (split <;> first | rfl | (simp; rfl))
@[simp] theorem State.dropMark_head_standing (s : State) (h : HeadId) (k : HeadId) :
    ((s.dropMark h).head k).standing = (s.head k).standing := by
  unfold State.dropMark; split
  · rfl
  · split <;> first | rfl | (split <;> first | rfl | (simp; rfl))
@[simp] theorem State.dropMark_head_claim (s : State) (h : HeadId) (k : HeadId) :
    ((s.dropMark h).head k).claim = (s.head k).claim := by
  unfold State.dropMark; split
  · rfl
  · split <;> first | rfl | (split <;> first | rfl | (simp; rfl))
@[simp] theorem State.dropMark_head_pendingReq (s : State) (h : HeadId) (k : HeadId) :
    ((s.dropMark h).head k).pendingReq = (s.head k).pendingReq := by
  unfold State.dropMark; split
  · rfl
  · split <;> first | rfl | (split <;> first | rfl | (simp; rfl))
@[simp] theorem State.dropMark_head_lapse (s : State) (h : HeadId) (k : HeadId) :
    ((s.dropMark h).head k).lapse = (s.head k).lapse := by
  unfold State.dropMark; split
  · rfl
  · split <;> first | rfl | (split <;> first | rfl | (simp; rfl))
@[simp] theorem State.dropMark_head_blade (s : State) (h : HeadId) (k : HeadId) :
    ((s.dropMark h).head k).blade = (s.head k).blade := by
  unfold State.dropMark; split
  · rfl
  · split <;> first | rfl | (split <;> first | rfl | (simp; rfl))
@[simp] theorem State.dropMark_head_bladeParams (s : State) (h : HeadId) (k : HeadId) :
    ((s.dropMark h).head k).bladeParams = (s.head k).bladeParams := by
  unfold State.dropMark; split
  · rfl
  · split <;> first | rfl | (split <;> first | rfl | (simp; rfl))
@[simp] theorem State.dropMark_head_guard (s : State) (h : HeadId) (k : HeadId) :
    ((s.dropMark h).head k).guard = (s.head k).guard := by
  unfold State.dropMark; split
  · rfl
  · split <;> first | rfl | (split <;> first | rfl | (simp; rfl))
@[simp] theorem State.dropMark_head_service (s : State) (h : HeadId) (k : HeadId) :
    ((s.dropMark h).head k).service = (s.head k).service := by
  unfold State.dropMark; split
  · rfl
  · split <;> first | rfl | (split <;> first | rfl | (simp; rfl))
@[simp] theorem State.dropMark_head_hold (s : State) (h : HeadId) (k : HeadId) :
    ((s.dropMark h).head k).hold = (s.head k).hold := by
  unfold State.dropMark; split
  · rfl
  · split <;> first | rfl | (split <;> first | rfl | (simp; rfl))
@[simp] theorem State.dropMark_head_overdue (s : State) (h : HeadId) (k : HeadId) :
    ((s.dropMark h).head k).overdue = (s.head k).overdue := by
  unfold State.dropMark; split
  · rfl
  · split <;> first | rfl | (split <;> first | rfl | (simp; rfl))

@[simp] theorem State.startZones_pending (s : State) (ks : List Nat) :
    (ks.foldl State.startZone s).pending = s.pending := foldl_keeps (fun t => t.pending) _ State.startZone_pending _ s
@[simp] theorem State.startZones_free (s : State) (ks : List Nat) :
    (ks.foldl State.startZone s).free = s.free := foldl_keeps (fun t => t.free) _ State.startZone_free _ s
@[simp] theorem State.startZones_resetHold (s : State) (ks : List Nat) :
    (ks.foldl State.startZone s).resetHold = s.resetHold :=
  foldl_keeps (fun t => t.resetHold) _ State.startZone_resetHold _ s
@[simp] theorem State.startZones_lastCause (s : State) (ks : List Nat) :
    (ks.foldl State.startZone s).lastCause = s.lastCause :=
  foldl_keeps (fun t => t.lastCause) _ State.startZone_lastCause _ s
@[simp] theorem State.startZones_rate (s : State) (ks : List Nat) :
    (ks.foldl State.startZone s).rate = s.rate := foldl_keeps (fun t => t.rate) _ State.startZone_rate _ s
@[simp] theorem State.startZones_links (s : State) (ks : List Nat) :
    (ks.foldl State.startZone s).links = s.links := foldl_keeps (fun t => t.links) _ State.startZone_links _ s
@[simp] theorem State.startZones_job (s : State) (ks : List Nat) :
    (ks.foldl State.startZone s).job = s.job := foldl_keeps (fun t => t.job) _ State.startZone_job _ s
@[simp] theorem State.startZones_bed (s : State) (ks : List Nat) :
    (ks.foldl State.startZone s).bed = s.bed := foldl_keeps (fun t => t.bed) _ State.startZone_bed _ s
@[simp] theorem State.startZones_zoneSettings (s : State) (ks : List Nat) :
    (ks.foldl State.startZone s).zoneSettings = s.zoneSettings :=
  foldl_keeps (fun t => t.zoneSettings) _ State.startZone_zoneSettings _ s
@[simp] theorem State.startZones_pieces (s : State) (ks : List Nat) :
    (ks.foldl State.startZone s).pieces = s.pieces := foldl_keeps (fun t => t.pieces) _ State.startZone_pieces _ s
@[simp] theorem State.startZones_retained (s : State) (ks : List Nat) :
    (ks.foldl State.startZone s).retained = s.retained :=
  foldl_keeps (fun t => t.retained) _ State.startZone_retained _ s
@[simp] theorem State.startZones_prs (s : State) (ks : List Nat) :
    (ks.foldl State.startZone s).prs = s.prs :=
  foldl_keeps (fun t => t.prs) _ State.startZone_prs _ s
@[simp] theorem State.startZones_head_queue (s : State) (ks : List Nat) (k : HeadId) :
    ((ks.foldl State.startZone s).head k).queue = (s.head k).queue :=
  foldl_keeps (fun t => (t.head k).queue) _ (fun t j => t.startZone_head_queue j k) _ s
@[simp] theorem State.startZones_head_nextSeq (s : State) (ks : List Nat) (k : HeadId) :
    ((ks.foldl State.startZone s).head k).nextSeq = (s.head k).nextSeq :=
  foldl_keeps (fun t => (t.head k).nextSeq) _ (fun t j => t.startZone_head_nextSeq j k) _ s
@[simp] theorem State.startZones_head_ref (s : State) (ks : List Nat) (k : HeadId) :
    ((ks.foldl State.startZone s).head k).ref = (s.head k).ref :=
  foldl_keeps (fun t => (t.head k).ref) _ (fun t j => t.startZone_head_ref j k) _ s
@[simp] theorem State.startZones_head_runs (s : State) (ks : List Nat) (k : HeadId) :
    ((ks.foldl State.startZone s).head k).runs = (s.head k).runs :=
  foldl_keeps (fun t => (t.head k).runs) _ (fun t j => t.startZone_head_runs j k) _ s
@[simp] theorem State.startZones_head_floor (s : State) (ks : List Nat) (k : HeadId) :
    ((ks.foldl State.startZone s).head k).floor = (s.head k).floor :=
  foldl_keeps (fun t => (t.head k).floor) _ (fun t j => t.startZone_head_floor j k) _ s
@[simp] theorem State.startZones_head_cut (s : State) (ks : List Nat) (k : HeadId) :
    ((ks.foldl State.startZone s).head k).cut = (s.head k).cut :=
  foldl_keeps (fun t => (t.head k).cut) _ (fun t j => t.startZone_head_cut j k) _ s
@[simp] theorem State.startZones_head_window (s : State) (ks : List Nat) (k : HeadId) :
    ((ks.foldl State.startZone s).head k).window = (s.head k).window :=
  foldl_keeps (fun t => (t.head k).window) _ (fun t j => t.startZone_head_window j k) _ s
@[simp] theorem State.startZones_head_standing (s : State) (ks : List Nat) (k : HeadId) :
    ((ks.foldl State.startZone s).head k).standing = (s.head k).standing :=
  foldl_keeps (fun t => (t.head k).standing) _ (fun t j => t.startZone_head_standing j k) _ s
@[simp] theorem State.startZones_head_claim (s : State) (ks : List Nat) (k : HeadId) :
    ((ks.foldl State.startZone s).head k).claim = (s.head k).claim :=
  foldl_keeps (fun t => (t.head k).claim) _ (fun t j => t.startZone_head_claim j k) _ s
@[simp] theorem State.startZones_head_watch (s : State) (ks : List Nat) (k : HeadId) :
    ((ks.foldl State.startZone s).head k).watch = (s.head k).watch :=
  foldl_keeps (fun t => (t.head k).watch) _ (fun t j => t.startZone_head_watch j k) _ s
@[simp] theorem State.startZones_head_pendingReq (s : State) (ks : List Nat) (k : HeadId) :
    ((ks.foldl State.startZone s).head k).pendingReq = (s.head k).pendingReq :=
  foldl_keeps (fun t => (t.head k).pendingReq) _ (fun t j => t.startZone_head_pendingReq j k) _ s
@[simp] theorem State.startZones_head_lapse (s : State) (ks : List Nat) (k : HeadId) :
    ((ks.foldl State.startZone s).head k).lapse = (s.head k).lapse :=
  foldl_keeps (fun t => (t.head k).lapse) _ (fun t j => t.startZone_head_lapse j k) _ s
@[simp] theorem State.startZones_head_blade (s : State) (ks : List Nat) (k : HeadId) :
    ((ks.foldl State.startZone s).head k).blade = (s.head k).blade :=
  foldl_keeps (fun t => (t.head k).blade) _ (fun t j => t.startZone_head_blade j k) _ s
@[simp] theorem State.startZones_head_bladeParams (s : State) (ks : List Nat) (k : HeadId) :
    ((ks.foldl State.startZone s).head k).bladeParams = (s.head k).bladeParams :=
  foldl_keeps (fun t => (t.head k).bladeParams) _ (fun t j => t.startZone_head_bladeParams j k) _ s
@[simp] theorem State.startZones_head_guard (s : State) (ks : List Nat) (k : HeadId) :
    ((ks.foldl State.startZone s).head k).guard = (s.head k).guard :=
  foldl_keeps (fun t => (t.head k).guard) _ (fun t j => t.startZone_head_guard j k) _ s
@[simp] theorem State.startZones_head_service (s : State) (ks : List Nat) (k : HeadId) :
    ((ks.foldl State.startZone s).head k).service = (s.head k).service :=
  foldl_keeps (fun t => (t.head k).service) _ (fun t j => t.startZone_head_service j k) _ s
@[simp] theorem State.startZones_head_hold (s : State) (ks : List Nat) (k : HeadId) :
    ((ks.foldl State.startZone s).head k).hold = (s.head k).hold :=
  foldl_keeps (fun t => (t.head k).hold) _ (fun t j => t.startZone_head_hold j k) _ s
@[simp] theorem State.startZones_head_overdue (s : State) (ks : List Nat) (k : HeadId) :
    ((ks.foldl State.startZone s).head k).overdue = (s.head k).overdue :=
  foldl_keeps (fun t => (t.head k).overdue) _ (fun t j => t.startZone_head_overdue j k) _ s
@[simp] theorem State.zoneRequest_pending (s : State) (h : HeadId) (r : ZoneRange) :
    ((s.zoneRequest h r).1).pending = s.pending := by
  simp only [State.zoneRequest]; repeat (first | rfl | split | simp)
@[simp] theorem State.zoneRequest_free (s : State) (h : HeadId) (r : ZoneRange) :
    ((s.zoneRequest h r).1).free = s.free := by
  simp only [State.zoneRequest]; repeat (first | rfl | split | simp)
@[simp] theorem State.zoneRequest_resetHold (s : State) (h : HeadId) (r : ZoneRange) :
    ((s.zoneRequest h r).1).resetHold = s.resetHold := by
  simp only [State.zoneRequest]; repeat (first | rfl | split | simp)
@[simp] theorem State.zoneRequest_lastCause (s : State) (h : HeadId) (r : ZoneRange) :
    ((s.zoneRequest h r).1).lastCause = s.lastCause := by
  simp only [State.zoneRequest]; repeat (first | rfl | split | simp)
@[simp] theorem State.zoneRequest_rate (s : State) (h : HeadId) (r : ZoneRange) :
    ((s.zoneRequest h r).1).rate = s.rate := by
  simp only [State.zoneRequest]; repeat (first | rfl | split | simp)
@[simp] theorem State.zoneRequest_links (s : State) (h : HeadId) (r : ZoneRange) :
    ((s.zoneRequest h r).1).links = s.links := by
  simp only [State.zoneRequest]; repeat (first | rfl | split | simp)
@[simp] theorem State.zoneRequest_job (s : State) (h : HeadId) (r : ZoneRange) :
    ((s.zoneRequest h r).1).job = s.job := by
  simp only [State.zoneRequest]; repeat (first | rfl | split | simp)
@[simp] theorem State.zoneRequest_bed (s : State) (h : HeadId) (r : ZoneRange) :
    ((s.zoneRequest h r).1).bed = s.bed := by
  simp only [State.zoneRequest]; repeat (first | rfl | split | simp)
@[simp] theorem State.zoneRequest_zoneSettings (s : State) (h : HeadId) (r : ZoneRange) :
    ((s.zoneRequest h r).1).zoneSettings = s.zoneSettings := by
  simp only [State.zoneRequest]; repeat (first | rfl | split | simp)
@[simp] theorem State.zoneRequest_pieces (s : State) (h : HeadId) (r : ZoneRange) :
    ((s.zoneRequest h r).1).pieces = s.pieces := by
  simp only [State.zoneRequest]; repeat (first | rfl | split | simp)
@[simp] theorem State.zoneRequest_retained (s : State) (h : HeadId) (r : ZoneRange) :
    ((s.zoneRequest h r).1).retained = s.retained := by
  simp only [State.zoneRequest]; repeat (first | rfl | split | simp)
@[simp] theorem State.zoneRequest_prs (s : State) (h : HeadId) (r : ZoneRange) :
    ((s.zoneRequest h r).1).prs = s.prs := by
  simp only [State.zoneRequest]; repeat (first | rfl | split | simp)

end Sys2Proof.Machine
end

