-- ==== Sys2Proof/Laws/Requests.lean ====
section
/-! SUPPORT. What taking a frame can do, and the fields of a request read back from the bytes that carry them. -/

namespace Sys2Proof.Machine

/-! ### Taking a frame -/

/-- A frame taken by a link that listens: the block acts, and its reply waits in the link's buffer (R160). -/
theorem State.takeFrame_listens (s : State) (l : LinkId) (type : Byte) (act : State → State × Reply)
    (free : s.listens l = true) :
    s.takeFrame l type act = (act (s.toLead l)).1.replyWith l type (act (s.toLead l)).2 := by
  simp [State.takeFrame, free]

/-- A frame that a link cannot take changes at most the assembly of that link (R160, R165). -/
theorem State.takeFrame_lost (s : State) (l : LinkId) (type : Byte) (act : State → State × Reply)
    (lost : s.listens l = false) : s.takeFrame l type act = s ∨ s.takeFrame l type act = s.toLead l := by
  simp only [State.takeFrame, lost, Bool.false_eq_true, if_false]
  split <;> simp

/-- A request served by a link that listens. -/
theorem State.serve_listens (s : State) (l : LinkId) (r : Request) (free : s.listens l = true) :
    s.serve l r = ((s.toLead l).judge l r).1.replyWith l (requestCode r) ((s.toLead l).judge l r).2 :=
  State.takeFrame_listens s l _ _ free

/-- A request that a link cannot take. -/
theorem State.serve_lost (s : State) (l : LinkId) (r : Request) (lost : s.listens l = false) :
    s.serve l r = s ∨ s.serve l r = s.toLead l := State.takeFrame_lost s l _ _ lost

/-- A request that its link does not permit changes nothing (R161). -/
theorem State.judge_refused (s : State) (l : LinkId) (r : Request) (no : permitted l r = false) :
    s.judge l r = (s, .refused .notOnThisLink .none) := by
  simp [State.judge, no]

/-- A request that its link permits goes to its owning block (R161). -/
theorem State.judge_permitted (s : State) (l : LinkId) (r : Request) (yes : permitted l r = true) :
    s.judge l r = s.run l r := by
  simp [State.judge, yes]

@[simp] theorem State.head_toLead (s : State) (l : LinkId) (h : HeadId) : (s.toLead l).head h = s.head h := rfl
@[simp] theorem State.zone_toLead (s : State) (l : LinkId) (k : Nat) : (s.toLead l).zone k = s.zone k := rfl
@[simp] theorem State.head_replyWith (s : State) (l : LinkId) (type : Byte) (reply : Reply) (h : HeadId) :
    (s.replyWith l type reply).head h = s.head h := rfl
@[simp] theorem State.zone_replyWith (s : State) (l : LinkId) (type : Byte) (reply : Reply) (k : Nat) :
    (s.replyWith l type reply).zone k = s.zone k := rfl

theorem State.link_replyWith_self (s : State) (l : LinkId) (type : Byte) (reply : Reply) :
    (s.replyWith l type reply).link l = { s.link l with inFlight := some ⟨type, reply, false⟩ } :=
  State.link_setLink_self s l _

/-! ### Fields -/

@[simp] theorem halfOf_extract (v : Half) : halfOf (v.extractLsb' 0 8) (v.extractLsb' 8 8) = v := by
  unfold halfOf
  ext i hi
  simp only [BitVec.getElem_append, BitVec.getElem_extractLsb', Nat.zero_add]
  split
  · simp [BitVec.getLsbD_eq_getElem, hi]
  · next h => simp only [show 8 + (i - 8) = i by omega]; simp [BitVec.getLsbD_eq_getElem, hi]

@[simp] theorem longOf_extract (v : Long) :
    longOf (v.extractLsb' 0 8) (v.extractLsb' 8 8) (v.extractLsb' 16 8) (v.extractLsb' 24 8) = v := by
  unfold longOf
  ext i hi
  simp only [BitVec.getElem_append, BitVec.getElem_extractLsb', Nat.zero_add]
  split
  · split
    · simp [BitVec.getLsbD_eq_getElem, hi]
    · simp only [show 8 + (i - 8) = i by omega]; simp [BitVec.getLsbD_eq_getElem, hi]
  · split
    · simp only [show 16 + (i - (8 + 8)) = i by omega]; simp [BitVec.getLsbD_eq_getElem, hi]
    · simp only [show 24 + (i - (8 + 8) - 8) = i by omega]; simp [BitVec.getLsbD_eq_getElem, hi]

@[simp] theorem getByte_cons (b : Byte) (rest : List Byte) : getByte (b :: rest) = some (b, rest) := rfl

@[simp] theorem getHalf_halfBytes (v : Half) (rest : List Byte) : getHalf (halfBytes v ++ rest) = some (v, rest) := by
  simp [halfBytes, getHalf]

@[simp] theorem getHalf_halfBytes_end (v : Half) : getHalf (halfBytes v) = some (v, []) := by
  simpa using getHalf_halfBytes v []

@[simp] theorem getLong_longBytes (v : Long) (rest : List Byte) : getLong (longBytes v ++ rest) = some (v, rest) := by
  simp [longBytes, getLong]

@[simp] theorem getPoint_pointBytes (p : PointReq) (rest : List Byte) :
    getPoint (pointBytes p ++ rest) = some (p, rest) := by
  simp [pointBytes, getPoint]

@[simp] theorem getBytes_append (bs rest : List Byte) : getBytes bs.length (bs ++ rest) = some (bs, rest) := by
  induction bs with
  | nil => rfl
  | cons b bs ih => simp [getBytes, ih]

@[simp] theorem getLayers_append (ls : List LayerReq) (rest : List Byte) :
    getLayers ls.length (ls.flatMap layerBytes ++ rest) = some (ls, rest) := by
  induction ls with
  | nil => rfl
  | cons l ls ih => simp [getLayers, layerBytes, ih]

@[simp] theorem halfBytes_length (v : Half) : (halfBytes v).length = 2 := rfl
@[simp] theorem longBytes_length (v : Long) : (longBytes v).length = 4 := rfl
@[simp] theorem pointBytes_length (p : PointReq) : (pointBytes p).length = 4 := rfl

/-! ### Types -/

theorem getRequest_status (p : List Byte) : getRequest 0x01 p = atEnd p .status := rfl
theorem getRequest_ident (p : List Byte) : getRequest 0x02 p = atEnd p .ident := rfl
theorem getRequest_headRead (p : List Byte) : getRequest 0x03 p = getOne .headRead p := rfl
theorem getRequest_pieceRead (p : List Byte) : getRequest 0x04 p = getPieceRead p := rfl
theorem getRequest_segment (p : List Byte) : getRequest 0x10 p = getSegment p := rfl
theorem getRequest_flush (p : List Byte) : getRequest 0x11 p = atEnd p .flush := rfl
theorem getRequest_grant (p : List Byte) : getRequest 0x12 p = atEnd p .grant := rfl
theorem getRequest_done (p : List Byte) : getRequest 0x13 p = getDone p := rfl
theorem getRequest_blockLoad (p : List Byte) : getRequest 0x20 p = getBlockLoad p := rfl
theorem getRequest_open (p : List Byte) : getRequest 0x21 p = getOpen p := rfl
theorem getRequest_close (p : List Byte) : getRequest 0x22 p = atEnd p .close := rfl
theorem getRequest_abort (p : List Byte) : getRequest 0x23 p = atEnd p .abort := rfl
theorem getRequest_classSet (p : List Byte) : getRequest 0x24 p = getTwo .classSet p := rfl
theorem getRequest_cutSet (p : List Byte) : getRequest 0x28 p = getCutSet p := rfl
theorem getRequest_bedSet (p : List Byte) : getRequest 0x29 p = getBedSet p := rfl
theorem getRequest_zoneSet (p : List Byte) : getRequest 0x2A p = getZoneSet p := rfl
theorem getRequest_bladeSet (p : List Byte) : getRequest 0x2B p = getBladeSet p := rfl
theorem getRequest_guardSet (p : List Byte) : getRequest 0x2C p = getGuardSet p := rfl
theorem getRequest_pieceDeclare (p : List Byte) : getRequest 0x30 p = getPieceDeclare p := rfl
theorem getRequest_take (p : List Byte) : getRequest 0x31 p = getOne .take p := rfl
theorem getRequest_release (p : List Byte) : getRequest 0x38 p = getRelease p := rfl
theorem getRequest_hold (p : List Byte) : getRequest 0x39 p = getOne .hold p := rfl
theorem getRequest_resume (p : List Byte) : getRequest 0x3A p = getOne .resume p := rfl
theorem getRequest_service (p : List Byte) : getRequest 0x3B p = getTwo .service p := rfl
theorem getRequest_faultClear (p : List Byte) : getRequest 0x3C p = getOne .faultClear p := rfl
theorem getRequest_zoneClear (p : List Byte) : getRequest 0x3D p = getOne .zoneClear p := rfl
theorem getRequest_zoneRead (p : List Byte) : getRequest 0x3E p = atEnd p .zoneRead := rfl
theorem getRequest_reset (p : List Byte) : getRequest 0x3F p = atEnd p .reset := rfl

theorem requestCode_known (r : Request) : requestCodes.contains (requestCode r) = true := by cases r <;> rfl

/-- A body of a known type whose payload reads as a request (R161). -/
theorem parse_of_getRequest {type : Byte} {payload : List Byte} {r : Request}
    (known : requestCodes.contains type = true) (reads : getRequest type payload = some r) :
    parse (type :: payload) = .request r := by
  simp only [parse, known, reads, if_true]

/-- A body of a known type whose payload does not agree with it (R161). -/
theorem parse_malformed {type : Byte} {payload : List Byte} (known : requestCodes.contains type = true)
    (fails : getRequest type payload = none) : parse (type :: payload) = .malformed type := by
  simp only [parse, known, fails, if_true]

end Sys2Proof.Machine
end

