-- ==== Sys2Proof/Laws/Timing.lean ====
section
/-! SUPPORT. What the pressure lines, the debouncing and the time before a pulse can do: one lemma for each operation, and the
small lemmas of the line levels and of a run of steps. -/

namespace Sys2Proof.Machine

/-! ### The pressure lines -/

@[simp] theorem State.head_flipLine (k : Nat) (s : State) (h : HeadId) : (State.flipLine k s).head h = s.head h := rfl
@[simp] theorem State.link_flipLine (k : Nat) (s : State) (l : LinkId) : (State.flipLine k s).link l = s.link l := rfl
@[simp] theorem State.job_flipLine (k : Nat) (s : State) : (State.flipLine k s).job = s.job := rfl
@[simp] theorem State.mark_flipLine (k : Nat) (s : State) : (State.flipLine k s).mark = s.mark := rfl
@[simp] theorem State.pieces_flipLine (k : Nat) (s : State) : (State.flipLine k s).pieces = s.pieces := rfl
@[simp] theorem State.zoneSettings_flipLine (k : Nat) (s : State) : (State.flipLine k s).zoneSettings = s.zoneSettings := rfl
@[simp] theorem State.pending_flipLine (k : Nat) (s : State) : (State.flipLine k s).pending = s.pending := rfl
@[simp] theorem State.resetHold_flipLine (k : Nat) (s : State) : (State.flipLine k s).resetHold = s.resetHold := rfl

/-- The line that changes over reads the other level (R85). -/
theorem State.readsGood_flipLine_self (s : State) {k : Nat} (lt : k < 16) :
    (State.flipLine k s).readsGood k = !s.readsGood k := by
  have flips : (State.flipLine k s).prs.getLsbD k = !s.prs.getLsbD k := by simp [State.flipLine, lt]
  unfold State.readsGood
  rw [flips, State.zoneSettings_flipLine]
  cases s.prs.getLsbD k <;> cases s.zoneSettings.activeHigh.getLsbD k <;> rfl

/-- Every other line stays as it is (R85). -/
theorem State.prs_flipLine_ne (s : State) {k j : Nat} (lt : j < 16) (ne : j ≠ k) :
    (State.flipLine k s).prs.getLsbD j = s.prs.getLsbD j := by
  simp [State.flipLine, lt, ne]

/-! ### Debouncing -/

/-- An input that reads as the debounced level has it brings no change (R85). -/
theorem State.changeIn_same {s : State} {k : Nat} (same : s.readsGood k = (s.zone k).good) : s.changeIn k = none := by
  simp [State.changeIn, same]

/-- An input that reads the other level changes it after the rest of the deglitch time (R84, R85). -/
theorem State.changeIn_other {s : State} {k : Nat} (other : s.readsGood k ≠ (s.zone k).good) :
    s.changeIn k = some (s.zoneSettings.deglitch * 1000 - (s.zone k).steady) := by
  simp [State.changeIn, other]

/-! ### Time at the zones -/

@[simp] theorem earliest_nil : earliest [] = none := rfl

/-- The earliest moment is one of them, and none comes before it. -/
theorem earliest_some {es : List ZoneDeadline} {e : ZoneDeadline} (found : earliest es = some e) :
    e ∈ es ∧ ∀ f ∈ es, e.left ≤ f.left := by
  induction es generalizing e with
  | nil => simp at found
  | cons x xs ih =>
    rw [earliest] at found
    cases r : earliest xs with
    | none =>
      rw [r] at found
      cases xs with
      | nil => simp at found; simp [found]
      | cons y ys =>
        rw [earliest] at r
        split at r <;> simp at r
    | some f =>
      rw [r] at found
      obtain ⟨mem, least⟩ := ih r
      simp only [Option.some.injEq] at found
      split at found <;> rename_i le <;> subst found
      · exact ⟨by simp, by simp; exact fun g hg => Nat.le_trans le (least g hg)⟩
      · exact ⟨by simp [mem], by simp; exact ⟨by omega, least⟩⟩

/-- A moment at which a zone moves is its change of level or its pull timeout. -/
theorem State.mem_zoneDeadlines {s : State} {e : ZoneDeadline} :
    e ∈ s.zoneDeadlines ↔
      e.zone < Config.zoneCount ∧
        ((e.timeout = false ∧ s.changeIn e.zone = some e.left) ∨
          (e.timeout = true ∧ (s.zone e.zone).pullLeft = some e.left)) := by
  obtain ⟨left, zone, timeout⟩ := e
  simp only [State.zoneDeadlines, List.mem_append, List.mem_filterMap, List.mem_range, Option.map_eq_some_iff,
    ZoneDeadline.mk.injEq]
  constructor
  · rintro (⟨k, lt, d, e, rfl, rfl, rfl⟩ | ⟨k, lt, d, e, rfl, rfl, rfl⟩)
    · exact ⟨lt, .inl ⟨rfl, e⟩⟩
    · exact ⟨lt, .inr ⟨rfl, e⟩⟩
  · rintro ⟨lt, ⟨rfl, e⟩ | ⟨rfl, e⟩⟩
    · exact .inl ⟨zone, lt, left, e, rfl, rfl, rfl⟩
    · exact .inr ⟨zone, lt, left, e, rfl, rfl, rfl⟩

/-- Where no zone moves before the end of a stretch of time, it is time alone. -/
theorem State.passBy_quiet (fuel : Nat) {d : Nat} {s : State} (quiet : ZonesQuietFor d s) :
    State.passBy fuel d s = s.elapse d := by
  cases fuel with
  | zero => rfl
  | succ n =>
    rw [State.passBy]
    cases e : earliest s.zoneDeadlines with
    | none => rfl
    | some x =>
      obtain ⟨lt, ⟨-, at'⟩ | ⟨-, at'⟩⟩ := State.mem_zoneDeadlines.mp (earliest_some e).1
      · simp [Nat.not_lt.mpr ((quiet x.zone lt).1 x.left at')]
      · simp [Nat.not_lt.mpr ((quiet x.zone lt).2 x.left at')]

theorem State.pass_quiet {d : Nat} {s : State} (quiet : ZonesQuietFor d s) : State.pass d s = s.elapse d :=
  State.passBy_quiet _ quiet

/-- What every moment of a zone keeps and time keeps, a stretch of time keeps. -/
theorem State.passBy_keeps (P : State → Prop) (time : ∀ s d, P s → P (s.elapse d))
    (moment : ∀ s e, P s → P (State.reach e s)) (fuel d : Nat) {s : State} (start : P s) : P (State.passBy fuel d s) := by
  induction fuel generalizing d s with
  | zero => exact time _ _ start
  | succ n ih =>
    rw [State.passBy]
    split
    · exact time _ _ start
    · split
      · exact ih _ (moment _ _ start)
      · exact time _ _ start

/-! ### The pressure rows -/

/-- During the reset hold a pressure row does nothing (log 27). -/
theorem State.pressure_held {s : State} (k : Nat) (good : Bool) (edges : List Edge) (held : s.resetHold.isSome = true) :
    s.pressure k good edges = s := if_pos held

/-- What an edge, time and a change of level keep, a pressure row keeps (R85). -/
theorem State.pressure_keeps (P : State → Prop) (time : ∀ s d, P s → P (State.pass d s))
    (change : ∀ s j, P s → P (State.changeLevel j s)) (flip : ∀ s j, P s → P (State.flipLine j s)) (k : Nat) (good : Bool)
    (edges : List Edge) {s : State} (start : P s) : P (s.pressure k good edges) := by
  have take : ∀ s j, P s → P (State.takeLevel j s) := fun s j p => by
    unfold State.takeLevel; split
    · exact change _ _ p
    · exact p
  have moved : P (edges.foldl State.edge s) := by
    induction edges generalizing s with
    | nil => exact start
    | cons e es ih => exact ih (flip _ _ (take _ _ (time _ _ start)))
  unfold State.pressure
  dsimp only
  split
  · exact start
  · split
    · exact moved
    · split
      · exact moved
      · exact take _ _ (time _ _ moved)

/-! ### The time before a pulse -/

/-- Where the stroke watch has not run out by then, the time before a pulse is time alone (R111). -/
theorem State.awaitPulse_inTime (h : HeadId) {d : Nat} (fuel : Nat) {s : State}
    (inTime : ∀ left ∈ (s.head h).blade.watchLeft, d ≤ left) : State.awaitPulse h fuel d s = s.elapse d := by
  cases fuel with
  | zero => rfl
  | succ n =>
    rw [State.awaitPulse]
    cases e : (s.head h).blade.watchLeft with
    | none => rfl
    | some left => simp [Nat.not_lt.mpr (inTime left e)]

/-- A channel that does not run has no stroke watch to run out (R111). -/
theorem State.awaitPulse_off (h : HeadId) (fuel d : Nat) {s : State} (off : (s.head h).blade.st.accepts = false) :
    State.awaitPulse h fuel d s = s.elapse d := by
  cases fuel with
  | zero => rfl
  | succ n =>
    rw [State.awaitPulse]
    cases (s.head h).blade.watchLeft with
    | none => rfl
    | some left => simp [off]

theorem State.beforePulse_inTime {s : State} {h : HeadId} {p : Pulse} (inTime : (s.head h).InTime p) :
    s.beforePulse h p = s.elapse p.after := State.awaitPulse_inTime h p.after inTime

/-- A channel in STOPPED, RETRY-WAIT or FAULTED disregards a pulse (R110). -/
theorem State.pulse_off {s : State} {h : HeadId} (p : Pulse) (off : (s.head h).blade.st.accepts = false) :
    s.pulse h p = s.elapse p.after := by
  have before : s.beforePulse h p = s.elapse p.after := State.awaitPulse_off h p.after p.after off
  simp [State.pulse, before, off]

/-! ### Runs of steps -/

@[simp] theorem runFor_zero (s : State) : runFor 0 s = .next s := rfl

/-- A run whose first command answers a next state goes on from it. -/
theorem runFor_next {n : Nat} {s t : State} (next : step s = .next t) : runFor (n + 1) s = runFor n t := by
  rw [runFor, next]

end Sys2Proof.Machine
end

