-- ==== Sys2Proof/Tests/Slice0.lean ====
section
/-! SUPPORT. The model's own tests: terms that WellFormed refuses, the manual's worked cases, and for every statement with
hypotheses a witness `witness_<Name>`: states and operands that meet them, each clause at a boundary of its range. -/

namespace Sys2Proof.Tests

open Sys2Proof Sys2Proof.Machine

/-! ### WellFormed refuses -/

/-- A SEGMENT frame carries no third tag (R167). -/
theorem test_wf_segment_tags :
    (Instr.segment (.head .a) ⟨1, 0, ⟨0, 0⟩, ⟨9, 0⟩, 0, 9, 0, 0, 9, none, [1, 2]⟩).wf = true ∧
      (Instr.segment (.head .a) ⟨1, 0, ⟨0, 0⟩, ⟨9, 0⟩, 0, 9, 0, 0, 9, none, [1, 2, 3]⟩).wf = false := by decide

/-- A BLOCK-LOAD of 83 layers is longer than a frame (R158). -/
theorem test_wf_blockLoad_length :
    (Instr.blockLoad .cell (List.replicate 82 ⟨1, 0⟩) none).wf = true ∧
      (Instr.blockLoad .cell (List.replicate 83 ⟨1, 0⟩) none).wf = false ∧
      (Instr.blockLoad .cell (List.replicate 82 ⟨1, 0⟩) (some 7)).wf = false := by decide

/-- A BLADE SET carries eight step codes. -/
theorem test_wf_bladeSet_ramp :
    (Instr.bladeSet .cell 0 ⟨2400, 900, [0, 1, 2, 3, 4, 5, 6, 7], 8, 8, 3000, 60, 1400, 2600⟩).wf = true ∧
      (Instr.bladeSet .cell 0 ⟨2400, 900, [0, 1, 2, 3, 4, 5, 6], 8, 8, 3000, 60, 1400, 2600⟩).wf = false := by decide

/-- A request type is no unknown type (R161). -/
theorem test_wf_unknownRequest :
    (Instr.unknownRequest .cell 0x14).wf = true ∧ (Instr.unknownRequest .cell 0x13).wf = false := by decide

/-! ### The manual's worked cases -/

/-- A job with this stack and these class coefficients. -/
def jobOf (stack : List Layer) (coefs : List Nat) : Job := ⟨.cutting, stack, none, coefs.map some⟩

/-- A queue entry of kind, length, radius, joint and turn; the governor reads nothing else. -/
def entryOf (kind : SegKind) (length : Nat) (radius : Option Nat) (joint : JointClass) (turn : Nat) : Entry :=
  ⟨⟨1, kind, ⟨0, 0⟩, ⟨0, 0⟩, 0, 0, radius, 0, 0, length, []⟩, joint, turn⟩

/-- 3.10, a resistance of 3920: the crown's arc at T = 14 (Table 3-3) and the straight cut after it at T = 16. -/
theorem test_governor_crown :
    govern (jobOf [⟨196, 0⟩] [20]) CutParams.default 2400 14 (entryOf .arcCw 1257 (some 800) .pivot 900) =
        ⟨1687, false, false, 4471, 13102⟩ ∧
      govern (jobOf [⟨196, 0⟩] [20]) CutParams.default 2400 16 (entryOf .line 3000 none .smooth 0) =
        ⟨2896, false, false, 6216, 14432⟩ := by decide +kernel

/-- 3.10, the heavy block: Table 3-4, and the long cut at the cap. -/
theorem test_governor_heavy :
    govern (jobOf [⟨400, 0⟩] [255]) CutParams.default 2400 8 (entryOf .arcCw 157 (some 100) .pivot 1350) =
        ⟨192, true, false, 4907, 15054⟩ ∧
      govern (jobOf [⟨400, 0⟩] [255]) CutParams.default 2400 16 (entryOf .line 65535 none .smooth 0) =
        ⟨496, false, false, 792763, 600000⟩ := by decide +kernel

/-- 3.10, the thin sheet at a high ceiling, and the air move. -/
theorem test_governor_ceiling_and_air :
    (govern (jobOf [⟨20, 0⟩] [10]) { CutParams.default with pMax := 4000 } 3000 16 (entryOf .line 100 none .smooth 0)).feed =
        6000 ∧
      (govern (jobOf [⟨20, 0⟩] [10]) { CutParams.default with pMax := 4000 } 3000 16
        (entryOf .line 100 none .smooth 0)).ceiling = true ∧
      govern (jobOf [⟨20, 0⟩] [10]) CutParams.default 2400 4 (entryOf .air 1200 none .free 0) =
        ⟨15000, false, false, 480, 2960⟩ := by decide +kernel

/-- Table 6-2, and the step at which a climb from IDLE to CUT joins (R108). -/
theorem test_ramp :
    [1, 2, 3, 4, 5, 6, 7, 8].map (BladeParams.default.stepRate .idle) = [300, 360, 495, 630, 720, 810, 855, 900] ∧
      [1, 2, 3, 4, 5, 6, 7, 8].map (BladeParams.default.stepRate .cut) =
        [600, 960, 1320, 1680, 1920, 2160, 2280, 2400] ∧
      BladeParams.default.joinStep = some 2 := by decide

/-- 11.4: the reply that grants segment 24, byte by byte, in its frame of type 92 and length 18. -/
theorem test_grant_record_bytes :
    (Reply.accepted (.grant ⟨24, 1687, false, false, .pivot, 900, 4471, 13102⟩)).payload =
        [0x00, 0x18, 0x00, 0x97, 0x06, 0x00, 0x01, 0x84, 0x03, 0x77, 0x11, 0x00, 0x00, 0x2E, 0x33, 0x00, 0x00] ∧
      (⟨0x12, .accepted (.grant ⟨24, 1687, false, false, .pivot, 900, 4471, 13102⟩), false⟩ : InFlight).frame.take 3 =
        [0xA5, 18, 0x92] := by decide +kernel

/-- Table 10-1: the divisors and rates of the straps. -/
theorem test_link_rates :
    [(⟨false, false⟩ : LinkRate), ⟨false, true⟩, ⟨true, false⟩, ⟨true, true⟩].map (fun r => (r.divisor, r.baud)) =
      [(40, 57600), (20, 115200), (10, 230400), (5, 460800)] := by decide

/-! ### Helpers -/

/-- What holds of head A and of head B holds of both. -/
theorem both {P : HeadId → Prop} (a : P .a) (b : P .b) : ∀ h, P h
  | .a => a
  | .b => b

/-- A head is steady, as a test that computes. -/
def steadyOk (s : State) (h : HeadId) : Bool :=
  let hd := s.head h
  decide (hd.hold = s.holdNow h) &&
    (match hd.window with
      | [] => decide (hd.overdue.st = .stopped) && !hd.hold.overdue
      | w :: _ =>
        if hd.hold.overdue = true then decide (hd.overdue.st = .stopped)
        else decide (hd.overdue.st = (if hd.hold.held then .paused else .counting) ∧
          hd.overdue.allowance = w.result.allowance * 1000 ∧ hd.overdue.elapsed ≤ hd.overdue.allowance)) &&
    (!hd.watch.reasons.headHeld || hd.hold.beyondBlade) &&
    decide (hd.blade.demand = hd.demandOf s.job.state.isOpen) &&
    (decide (hd.blade.demand ≠ .off) || !hd.blade.st.accepts) &&
    (!hd.blade.stopTimer.isSome || hd.standsBy s.job.state.isOpen) &&
    decide (hd.lapse.isSome = (match hd.pendingReq with
      | none => false
      | some r => s.allHeld r))

/-- The test says so only of a steady head. -/
theorem steady_of {s : State} {h : HeadId} (ok : steadyOk s h = true) : s.Steady h := by
  simp only [steadyOk, Bool.and_eq_true, decide_eq_true_eq, Bool.or_eq_true, Bool.not_eq_true'] at ok
  obtain ⟨⟨⟨⟨⟨⟨o1, o2⟩, o3⟩, o4⟩, o5⟩, o6⟩, o7⟩ := ok
  refine ⟨o1, ?_, ?_, ⟨o4, ?_, ?_⟩, o7⟩
  · unfold Head.OverdueFollows
    split at o2 <;> simp_all
  · intro g; simpa [g] using o3
  · intro g; simpa [g] using o5
  · intro g; simpa [g] using o6

/-- Both heads are steady. -/
theorem steady {s : State} (ok : (steadyOk s .a && steadyOk s .b) = true) : ∀ h, s.Steady h := by
  rw [Bool.and_eq_true] at ok
  exact both (steady_of ok.1) (steady_of ok.2)

/-- The empty feed-hold reason set. -/
def noHold : HoldSet := ⟨false, false, false, false, false, false⟩

/-- A head of an open job standing at a point, its blade in RUN at IDLE. -/
def idleAt (p : Point) : Head :=
  { Head.reset p 16 FaultRecord.clear with
    hold := noHold
    blade := { Channel.reset 16 FaultRecord.clear with
      st := .run, demand := .idle, commanded := 900, pulseSeen := true, stopTimer := some 60000000 } }

/-- The same head with its blade in RUN at CUT, kept there by the idle-delay timer. -/
def cutAt (p : Point) : Head :=
  { idleAt p with
    blade := { (idleAt p).blade with
      target := .cut, demand := .cut, commanded := 2400, stopTimer := none, idleTimer := some 3000000 } }

/-- A CUTTING job, with both heads as given. -/
def cutting (a b : Head) : State :=
  { State.reset with job := ⟨.cutting, [⟨100, 0⟩], none, List.replicate 16 (some 50)⟩, heads := ⟨a, b⟩ }

/-- The places of the two heads. -/
def pA : Point := ⟨1000, 500⟩
def pB : Point := ⟨20000, 500⟩

/-- An open job with nothing queued. -/
def open0 : State := cutting (idleAt pA) (idleAt pB)

/-- A straight cut over zones 0 and 1 that contributes to piece 7, and an air move along it. -/
def cutSeg : Segment := ⟨1, .line, ⟨1000, 500⟩, ⟨3000, 500⟩, 1000, 3000, none, 900, 900, 2000, [7]⟩
def airSeg : Segment := { cutSeg with kind := .air, tags := [] }

/-- Those two as queue entries, and as window entries of the oldest number. -/
def cutEntry : Entry := ⟨cutSeg, .free, 0⟩
def airEntry : Entry := ⟨airSeg, .free, 0⟩
def cutWin : WinEntry := ⟨cutEntry, ⟨2896, false, false, 4144, 10288⟩, some ⟨0, 1⟩⟩
def airWin : WinEntry := ⟨airEntry, ⟨15000, false, false, 800, 3600⟩, none⟩

/-- A head with one entry queued. -/
def queued (e : Entry) (hd : Head) : Head := { hd with queue := [e], nextSeq := 2 }

/-- A head cutting its one window entry, its feed released and its timer counting. -/
def cuttingHead : Head :=
  { cutAt pA with
    window := [cutWin], nextSeq := 2, claim := ⟨1000, 3000⟩, overdue := ⟨.counting, 10288000, 10288000⟩
    blade := { (cutAt pA).blade with idleTimer := none, lastRunPeriod := some 25000 } }

/-- Zones 0 and 1 HELD, the others OFF. -/
def heldZones : List Zone :=
  [⟨.held, none, true, 0, 0⟩, ⟨.held, none, true, 0, 0⟩] ++ List.replicate 14 Zone.reset

/-- Piece 7 is open and lacks one edge. -/
def openPiece : Piece := ⟨7, .declared, 1, 0, 1000, 3000, none, []⟩

/-- Head A cuts over held zones, its last stroke of 25 ms ended in RUN. -/
def cut0 : State := { cutting cuttingHead (idleAt pB) with zones := heldZones, pieces := [openPiece] }

/-- Head A of a state is changed. -/
def onA (s : State) (f : Head → Head) : State := s.modHead .a f

/-- The blade of head A is changed. -/
def bladeA (s : State) (f : Channel → Channel) : State := onA s fun hd => { hd with blade := f hd.blade }

theorem steady_reset : ∀ h, State.reset.Steady h := steady (by decide)
theorem steady_open0 : ∀ h, open0.Steady h := steady (by decide)
theorem steady_cut0 : ∀ h, cut0.Steady h := steady (by decide)

/-! ### Witnesses: the step, the resets, the links -/

/-- A link that holds a reply. -/
def busyWith (l : LinkId) (type : Byte) (r : Reply) (begun : Bool) (s : State) : State :=
  s.setLink l { s.link l with inFlight := some ⟨type, r, begun⟩ }

/-- The cell link holds the reply to RESET. -/
def resetAsked (begun : Bool) : State := busyWith .cell 0x3F (.accepted .none) begun open0

/-- A reset hold by the pin, ended or not. -/
def held0 : State := { State.reset with resetHold := some ⟨.pin, 0⟩ }

theorem witness_FrontCommandIsTaken :
    ({ open0 with pending := [.powerOn, .close .cell] } : State).pending = .powerOn :: [.close .cell] := rfl

theorem witness_CommandsAnswerAndIdlingLetsTimePass :
    (open0.pending = [] ∧ open0.due = []) ∧
      (onA open0 fun hd => { hd with lapse := some 0 }).pending = [] ∧
      (onA open0 fun hd => { hd with lapse := some 0 }).due ≠ [] ∧
      cut0.due = [.overdueExpiry .a] ∧ (bladeA open0 fun c => { c with stopTimer := some 1 }).due = [] ∧
      ({ (open0.setZone 0 { Zone.reset with steady := 20000 }) with prs := 0xFFFE } : State).due = [.pressureGood ⟨0, []⟩] ∧
      ({ (open0.setZone 0 { Zone.reset with steady := 19999 }) with prs := 0xFFFE } : State).due = [] := by decide

theorem witness_EveryResetLeaves :
    BeginsReset open0 .powerOn = some .power ∧ BeginsReset open0 .nresetTaken = some .pin ∧
      BeginsReset held0 .powerOn = some .power ∧ BeginsReset (resetAsked true) (.replyComplete .cell) = some .command ∧
      BeginsReset (resetAsked false) (.breakDetected .cell) = some .command := by decide

theorem witness_ResetHoldBeginsAndEnds :
    BeginsReset cut0 .powerOn = some .power ∧ BeginsReset cut0 .nresetTaken = some .pin ∧
      held0.resetHold = some ⟨.pin, 0⟩ ∧ held0.mark = none ∧ (held0.head .a).blade.st = .stopped ∧
      (held0.head .a).overdue.st = .stopped ∧ (held0.head .a).lapse = none ∧ (held0.head .a).blade.idleTimer = none ∧
      (held0.head .a).blade.stopTimer = none ∧ (held0.head .a).blade.retryTimer = none ∧
      (held0.head .a).blade.watchLeft = none ∧ (held0.zone 15).pull = none := by decide

theorem witness_HoldDeafensEveryLink :
    held0.resetHold.isSome = true ∧ (linkOf (.characterReceived (.head .b) 0xA5)).isSome = true := by decide

/-- A busy link whose receiver hunts. -/
def busy0 : State := busyWith (.head .a) 0x12 (.wait WaitSet.empty 1) false open0

theorem witness_UnfitAndUntimelyRequests :
    (open0.listens (.head .a) = true ∧ requestOf (.close (.head .a)) = some (.head .a, .close) ∧
        (requestCode .close ∉ ([0x01, 0x02, 0x03, 0x04, 0x10, 0x11, 0x12, 0x13] : List Byte))) ∧
      (open0.listens .cell = true ∧ requestOf (.done .cell 1) = some (.cell, .done 1) ∧
        (requestCode (.done 1) ∈ ([0x10, 0x11, 0x12, 0x13] : List Byte))) ∧
      ((0x14 : Byte) ∉ requestCodes ∧ (0x00 : Byte) ∉ requestCodes) ∧
      busy0.resetHold = none ∧ (busy0.link (.head .a)).rx = .hunting ∧
      (busy0.link (.head .a)).inFlight.isSome = true := by decide

theorem witness_StatusReportsAndEmpties :
    open0.listens (.head .a) = true ∧ open0.listens (.head .b) = true ∧ open0.listens .cell = true ∧
      (open0.link .cell).attention ≠ AttSet.empty := by decide

theorem witness_ReadsChangeNothing :
    cut0.listens .cell = true ∧ cut0.listens (.head .b) = true ∧ 1 < (2 : Byte).toNat ∧
      cut0.findPiece (7 : Byte).toNat = some openPiece ∧ cut0.findPiece (1 : Byte).toNat = none ∧
      cut0.findPiece (250 : Byte).toNat = none ∧ (0 : Byte).toNat = 0 ∧ 250 < (251 : Byte).toNat := by decide

/-- Head link A in frame assembly. -/
def assembling (a : Assembly) : State := open0.setLink (.head .a) { Link.reset with asm := a }

theorem witness_CharactersAssemble :
    (assembling .lead).resetHold = none ∧ ((assembling .lead).link (.head .a)).rx = .hunting ∧
      ((assembling .lead).link (.head .a)).asm = .lead ∧ ((assembling .length).link (.head .a)).asm = .length ∧
      ((0 : Byte).toNat = 0 ∨ 250 < (0 : Byte).toNat) ∧ 250 < (251 : Byte).toNat ∧
      ((assembling (.gather 1 [0x01, 0x02])).link (.head .a)).asm = .gather 1 [0x01, 0x02] ∧
      [(0x01 : Byte)].length + 1 < (1 : Byte).toNat + 2 ∧ (1 : Byte).toNat + 2 ≤ [(0x01 : Byte), 0x02].length + 1 := by decide

/-- A frame check that fails, whichever the bit order. -/
theorem witness_CharactersAssemble_check :
    [(0x02 : Byte)] ++ [0x00] ≠ halfBytes (crc16 [1, 0x01]) := by
  unfold crc16
  generalize Config.crcLsbFirst = b
  cases b <;> decide +kernel

theorem witness_FrameBytesTakeTheRequest :
    requestOf (.done (.head .a) 1) = some (.head .a, .done 1) ∧ (Request.done 1).wf = true ∧
      requestBody (.done 1) = some [0x13, 0x01, 0x00] ∧ open0.pending = [] ∧ open0.listens (.head .a) = true ∧
      (open0.link (.head .a)).asm = .lead := by decide

/-- Types and payloads at the edges of the link's tests: an unknown type with the longest payload, a fixed length missed by
one, and a PIECE READ of two bytes. -/
theorem witness_FrameBytesTakeTheRequest_refused :
    ((0x14 : Byte) ∉ requestCodes ∧ (List.replicate 249 (0 : Byte)).length + 1 ≤ 250) ∧
      ((0x3B : Byte) ∈ requestCodes ∧ Misfit 0x3B [0] ∧ Misfit 0x3B [0, 1, 0]) ∧
      (0x04 : Byte) ∈ requestCodes ∧ Misfit 0x04 [1, 2] := by
  refine ⟨⟨by decide, by rw [List.length_replicate]⟩, ⟨by decide, by simp [Misfit, tableLength], by simp [Misfit, tableLength]⟩, by decide, ?_⟩
  intro r _ h
  cases r with
  | pieceRead id => cases id <;> simp [requestBody, requestPayload] at h
  | _ => simp [requestBody, requestPayload, requestCode] at h

theorem witness_RequestBytesReadBack :
    (Request.segment ⟨1, 1, ⟨0, 0⟩, ⟨9, 0⟩, 0, 9, 0, 0, 9, some 800, [1, 250]⟩).wf = true ∧
      (requestBody (.segment ⟨1, 1, ⟨0, 0⟩, ⟨9, 0⟩, 0, 9, 0, 0, 9, some 800, [1, 250]⟩)).isSome = true ∧
      requestBody (.zoneSet ⟨1, 100, 5, 0⟩) = none ∧ ((Reason.bladeNotLatched, 0x61) : Reason × Byte).1.code = 0x61 := by decide

theorem witness_BreaksAndReplies :
    (open0.resetHold = none ∧ (open0.link (.head .a)).inFlight = none) ∧
      (busy0.resetHold = none ∧ (busy0.link (.head .a)).inFlight = some ⟨0x12, .wait WaitSet.empty 1, false⟩ ∧
        BeginsReset busy0 (.breakDetected (.head .a)) = none) ∧
      ((busyWith .cell 0x22 (.accepted .none) true open0).link .cell).inFlight = some ⟨0x22, .accepted .none, true⟩ ∧
      BeginsReset (busyWith .cell 0x22 (.accepted .none) true open0) (.replyComplete .cell) = none ∧
      open0.listens .cell = true := by decide

/-! ### Witnesses: the whole machine -/

theorem witness_OtherLinksAreUntouched : ∃ t : State, linkOf (.framingError (.head .a)) = some (.head .a) ∧
    exec (.framingError (.head .a)) open0 = .next t ∧ t.resetHold = open0.resetHold ∧ LinkId.cell ≠ .head .a :=
  ⟨_, rfl, rfl, rfl, by decide⟩

theorem witness_RefusedRequestsChangeNothing : ∃ t : State,
    requestOf (.blockLoad .cell [] none) = some (.cell, .blockLoad [] none) ∧ open0.listens .cell = true ∧
      exec (.blockLoad .cell [] none) open0 = .next t ∧
      (t.link .cell).inFlight = some ⟨0x20, .refused .wrongJobState .none, false⟩ :=
  ⟨_, rfl, rfl, rfl, rfl⟩

theorem witness_JobStateMoves :
    (∃ t, exec (.abort .cell) open0 = .next t ∧ t.resetHold = none ∧ t.job.state ≠ open0.job.state) ∧
      ∃ t, exec (.close .cell) cut0 = .next t ∧ t.resetHold = none ∧ t.job.state = .closing :=
  ⟨⟨_, rfl, by decide +kernel, by decide +kernel⟩, ⟨_, rfl, by decide +kernel, by decide +kernel⟩⟩

/-- Head A cuts over held zones whose lines read good. -/
def holding0 : State := { cut0 with prs := 0xFFFC }

theorem witness_EventsRaiseTheirCauses :
    (∃ t, exec (.hold .cell 0) open0 = .next t ∧ t.resetHold = none ∧ (t.head .a).hold ≠ (open0.head .a).hold ∧
      open0.Steady .b ∧ (t.head .b).hold = (open0.head .b).hold) ∧
      ∃ t, exec (.strokeWatchExpiry .a) (bladeA cut0 fun c => { c with watchLeft := some 0 }) = .next t ∧ t.resetHold = none ∧
        (cut0.head .a).blade.st.accepts = true ∧ (t.head .a).blade.st = .retryWait :=
  ⟨⟨_, rfl, by decide +kernel, by decide +kernel, steady_open0 .b, by decide +kernel⟩,
    ⟨_, rfl, by decide +kernel, by decide, by decide +kernel⟩⟩

/-- Lines 0 and 1 read not good together: the row of line 1 is one event, which changes the set of head A and not of B. -/
theorem witness_EventsRaiseTheirCauses_pressure :
    (∃ t, exec (.pressureLoss ⟨1, []⟩) cut0 = .next t ∧ t.resetHold = none ∧ cut0.changeIn 1 = some 20000 ∧
      ZonesQuietFor 20000 cut0 ∧ (t.head .a).hold ≠ (cut0.head .a).hold ∧ (t.head .b).hold = (cut0.head .b).hold) ∧
      holding0.resetHold = none ∧
        (((holding0.edge ⟨0, 0⟩).edge ⟨30000, 0⟩).head .a).hold ≠ ((holding0.edge ⟨0, 0⟩).head .a).hold :=
  ⟨⟨_, rfl, by decide +kernel, by decide +kernel, by unfold ZonesQuietFor; decide +kernel, by decide +kernel, by decide +kernel⟩,
    by decide, by decide +kernel⟩

/-- R134: zone 0 is LOST 20 ms after its line opens and HELD again 20 ms after it closes, within one row: the set of head A is
as before, and HOLD-CHANGED stands. -/
theorem test_lost_and_regained : ∃ t : State,
    exec (.pressureGood ⟨0, [⟨0, 0⟩, ⟨30000, 0⟩]⟩) holding0 = .next t ∧ (t.zone 0).st = .held ∧
      (t.head .a).hold = (holding0.head .a).hold ∧ (holding0.link (.head .a)).attention.holdChanged = false ∧
      (t.link (.head .a)).attention.holdChanged = true :=
  ⟨_, rfl, by decide +kernel, by decide +kernel, by decide, by decide +kernel⟩

theorem witness_WindowKeepsItsEntries :
    (∃ t, exec (.done (.head .a) 1) cut0 = .next t ∧ t.resetHold = none ∧ (t.head .a).window ≠ (cut0.head .a).window) ∧
      (∃ t, exec (.hold .cell 0) cut0 = .next t ∧ t.resetHold = none) ∧ NoWorkOutsideJob cut0 :=
  ⟨⟨_, rfl, by decide +kernel, by decide +kernel⟩, ⟨_, rfl, by decide +kernel⟩, fun h => absurd h (by decide)⟩

/-! ### Witnesses: the settings and the job -/

/-- A job IDLE with every class defined. -/
def idle0 : State := { State.reset with job := ⟨.idle, [], none, List.replicate 16 (some 50)⟩ }

/-- A job STAGED. -/
def staged0 : State := { State.reset with job := ⟨.staged, [⟨400, 0⟩], none, List.replicate 16 (some 50)⟩ }

/-- The least and the greatest guard settings of Table 7-2. -/
def guardLow : GuardReq :=
  ⟨some .ignore, some .ignore, some .ignore, some .ignore, some .ignore, 2, 1, 1, 0, 100, some (.upTo 1), some .coast,
    some .ignore, 1, 1, 1⟩
def guardHigh : GuardReq :=
  ⟨some .report, some .report, some .report, some .report, some .report, 6, 4095, 64, 4094, 10000, some .unlimited,
    some .brake, some .relief, 4095, 7, 32⟩

theorem witness_ParametersAreSetInIdle :
    (idle0.listens .cell = true ∧ idle0.job.state = .idle ∧ (15 : Byte).toNat ≤ 15 ∧ (1 : Byte).toNat ≠ 0 ∧
        (2 : Byte).toNat ≤ 2) ∧
      (cutInTable ⟨100, 20, 20, 100, 100, 0, 300, 2, 200⟩ ∧ cutInTable ⟨4000, 500, 300, 12000, 30000, 300, 1700, 100, 10000⟩) ∧
      (bladeInTable ⟨600, 300, [0, 0, 0, 0, 0, 0, 0, 0], 1, 4, 500, 5, 0, 1⟩ ∧
        bladeInTable ⟨3000, 3000, [7, 7, 7, 7, 7, 7, 7, 7], 64, 32, 30000, 600, 4094, 4095⟩) ∧
      (∃ g, guardSettingsOf guardLow = some g ∧ guardInTable g) ∧ ∃ g, guardSettingsOf guardHigh = some g ∧ guardInTable g := by
  refine ⟨by decide, ⟨by unfold cutInTable; decide, by unfold cutInTable; decide⟩,
    ⟨by unfold bladeInTable; decide, by unfold bladeInTable; decide⟩, ⟨_, rfl, ?_⟩, ⟨_, rfl, ?_⟩⟩
  · refine ⟨by decide, by decide, by decide, by decide, by decide, by decide, by decide, by decide, ?_, by decide⟩
    intro n h; cases h; decide
  · refine ⟨by decide, by decide, by decide, by decide, by decide, by decide, by decide, by decide, ?_, by decide⟩
    intro n h; cases h

theorem witness_SettingsAreRefused :
    (open0.listens .cell = true ∧ requestOf (.zoneSet .cell ⟨8, 1500, 20, 0⟩) = some (.cell, .zoneSet ⟨8, 1500, 20, 0⟩) ∧
        open0.job.state ≠ .idle) ∧
      (idle0.listens .cell = true ∧ idle0.job.state = .idle ∧ 15 < (16 : Byte).toNat ∧ 2 < (3 : Byte).toNat) ∧
      ¬ cutInTable ⟨1500, 1501, 100, 6000, 15000, 50, 1350, 12, 2000⟩ ∧ ¬ bedInTable 1999 ⟨0, 0⟩ ⟨31999, 0⟩ ∧
      ¬ zoneInTable ⟨17, 1500, 20, 0⟩ ∧
      ¬ bladeInTable ⟨2400, 900, [0, 1, 2, 3, 4, 5, 6, 8], 8, 8, 3000, 60, 1400, 2600⟩ ∧
      ∀ g, guardSettingsOf { guardLow with rough := 5 } = some g → ¬ guardInTable g := by
  refine ⟨by decide, by decide, by unfold cutInTable; decide, by unfold bedInTable; decide, by unfold zoneInTable; decide,
    by unfold bladeInTable; decide, ?_⟩
  intro g h
  cases h
  exact fun h => absurd h.1 (by decide)

theorem witness_ZoneSetAndBedSetAreTaken :
    (idle0.listens .cell = true ∧ idle0.job.state = .idle ∧ idle0.zones.length = 16 ∧ (∀ k < 16, idle0.vac k = false)) ∧
      (zoneInTable ⟨1, 100, 5, 0⟩ ∧ zoneInTable ⟨16, 5000, 200, 0xFFFF⟩) ∧
      (∃ k < 16, ({ idle0 with zones := heldZones } : State).vac k = true) ∧
      (bedInTable 2000 ⟨0, 0⟩ ⟨2000, 20999⟩ ∧ bedInTable 20000 ⟨0, 0⟩ ⟨31999, 0⟩) ∧
      (0 + 2000 ≤ (2000 : Half).toNat ∧ (1999 : Half).toNat < 0 + 2000) ∧
      (idle0.heads.b.standing.x - idle0.heads.a.standing.x = 31999) ∧ (∀ h, idle0.Steady h) ∧
      (onA idle0 fun hd => { hd with standing := ⟨30000, 0⟩ }).heads.b.standing.x < 30000 + 2000 ∧
      ∀ h, (idle0.head h).window = [] ∧ (idle0.head h).watch = Watch.empty :=
  ⟨by decide, ⟨by unfold zoneInTable; decide, by unfold zoneInTable; decide⟩, ⟨1, by decide, by decide⟩,
    ⟨by unfold bedInTable; decide, by unfold bedInTable; decide⟩, by decide, by decide, steady (by decide), by decide,
    both (by decide) (by decide)⟩

theorem witness_BlockLoadStages :
    idle0.listens .cell = true ∧ idle0.job.state = .idle ∧
      (∀ y ∈ (List.replicate 5 ⟨1, 0⟩ ++ [⟨395, 15⟩] : List LayerReq), 1 ≤ y.thickness.toNat ∧ y.thickness.toNat ≤ 400 ∧
        y.cls.toNat ≤ 15 ∧ (idle0.job.classes.getD y.cls.toNat none).isSome = true) ∧
      ((List.replicate 5 ⟨1, 0⟩ ++ [⟨395, 15⟩] : List LayerReq).map fun y => y.thickness.toNat).sum ≤ 400 ∧
      idle0.zones.length = 16 ∧ (∀ h, idle0.Steady h) ∧
      (∀ h, (idle0.head h).window = [] ∧ (idle0.head h).pendingReq = none ∧ (idle0.head h).watch = Watch.empty) ∧
      ([(⟨401, 0⟩ : LayerReq), ⟨0, 0⟩, ⟨1, 16⟩].all fun y => !(1 ≤ y.thickness.toNat && y.thickness.toNat ≤ 400 && y.cls.toNat ≤ 15)) ∧
      400 < ([⟨200, 0⟩, ⟨201, 15⟩].map fun y : LayerReq => y.thickness.toNat).sum ∧
      (State.reset.job.classes.getD (15 : Byte).toNat none).isSome = false :=
  ⟨by decide, by decide, by decide, by decide, by decide, steady (by decide), both (by decide) (by decide), by decide,
    by decide, by decide⟩

theorem witness_OpenBeginsTheJob :
    staged0.listens .cell = true ∧ staged0.job.state = .staged ∧ (∀ h, staged0.Steady h) ∧
      (∀ h, (staged0.head h).window = [] ∧ (staged0.head h).blade.idleTimer = none) ∧
      (∀ h, (staged0.head h).service = .inService) ∧ (8999 : Half).toNat < 0 + staged0.bed.separation ∧
      0 + staged0.bed.separation ≤ (9000 : Half).toNat ∧ (31999 : Half).toNat ≤ 31999 ∧ (20999 : Half).toNat ≤ 20999 ∧
      open0.job.state ≠ .staged ∧ 31999 < (32000 : Half).toNat ∧ 20999 < (21000 : Half).toNat :=
  ⟨by decide, by decide, steady (by decide), both (by decide) (by decide), both rfl rfl, by decide, by decide, by decide,
    by decide, by decide, by decide, by decide⟩

/-- A job CLOSING with an open piece and a zone that nothing needs. -/
def closing0 : State := { open0 with job := { open0.job with state := .closing }, pieces := [openPiece] }

theorem witness_CloseDrainsOrWaits :
    (closing0.listens .cell = true ∧ closing0.job.state ≠ .cutting) ∧
      (cut0.listens .cell = true ∧ cut0.job.state = .cutting ∧ (cut0.head .a).window ≠ []) ∧ (∀ h, cut0.Steady h) ∧
      (open0.job.state = .cutting ∧ open0.zones.length = 16) ∧ (∀ h, open0.Steady h) ∧
      ∀ h, (open0.head h).queue = [] ∧ (open0.head h).window = [] :=
  ⟨by decide, by decide, steady_cut0, by decide, steady_open0, both (by decide) (by decide)⟩

theorem witness_AbortStopsEverything :
    (cut0.listens .cell = true ∧ cut0.job.state ≠ .idle ∧ cut0.zones.length = 16) ∧
      (cut0.head .a).blade.st.accepts = true ∧ (cut0.head .a).runs.length + (cut0.head .a).numbers.length ≤ 16 ∧
      1 ∈ (cut0.head .a).numbers ∧ (idle0.listens .cell = true ∧ idle0.job.state = .idle) := by decide

/-! ### Witnesses: segments and the governor -/

/-- The request that carries `cutSeg`. -/
def cutReq : SegmentReq := ⟨1, 0, ⟨1000, 500⟩, ⟨3000, 500⟩, 1000, 3000, 900, 900, 2000, none, [7]⟩

/-- An open job with piece 7, its heads waiting for segment 1. -/
def seg0 : State := { open0 with pieces := [openPiece] }

/-- The same with head A's reference a cut that ended at heading 3599. -/
def seg1 : State := onA seg0 fun hd => { hd with ref := ⟨pA, some 3599, .cutting⟩ }

/-- Segment 1 passes its checks at either state. -/
theorem cutReq_passes : seg0.SegPasses .a cutSeg ∧ seg1.SegPasses .a cutSeg := by
  refine ⟨⟨by unfold State.SegTaken; decide, ⟨rfl, by decide⟩, ⟨by decide, fun h => ?_, fun _ => by decide⟩,
      fun _ => by decide, ⟨by decide, by decide, fun h => ?_, fun _ => by decide⟩, fun h => ?_⟩,
    ⟨by unfold State.SegTaken; decide, ⟨rfl, by decide⟩, ⟨by decide, fun h => ?_, fun _ => by decide⟩,
      fun _ => by decide, ⟨by decide, by decide, fun h => ?_, fun _ => by decide⟩, fun h => ?_⟩⟩ <;>
  · unfold Segment.Arc at h; exact absurd h (by decide)

theorem witness_SegmentsAreQueued :
    (seg0.listens (.head .a) = true ∧ (seg0.head .a).ref.heading.getD 0 ≤ 3599 ∧ segKindOf cutReq.kind = some .line ∧
        cutSeg = segmentOf cutReq .line) ∧
      (seg0.SegPasses .a cutSeg ∧ seg1.SegPasses .a cutSeg) ∧ ¬ (seg0.head .a).Jointed cutSeg ∧
      ((seg1.head .a).ref.heading.getD 0 = 3599 ∧ (seg1.head .a).Jointed cutSeg ∧ (seg1.head .a).Turns cutSeg 901 ∧
        901 ≤ (seg1.head .a).cut.maxTurn) ∧
      seg0.TagsOpen cutSeg ∧ (∀ i, seg0.Steady i) ∧ (∀ i, seg1.Steady i) ∧
      ∃ t content, exec (.segment (.head .a) cutReq) seg0 = .next t ∧
        (t.link (.head .a)).inFlight = some ⟨0x10, .accepted content, false⟩ := by
  refine ⟨by decide, cutReq_passes, by unfold Head.Jointed; decide,
    ⟨by decide, by unfold Head.Jointed; decide, by unfold Head.Turns; decide, by decide⟩,
    ⟨by decide, by decide, ?_⟩, steady (by decide), steady (by decide), _, _, rfl, rfl⟩
  intro t h
  simp only [cutSeg, List.mem_singleton] at h
  subst h
  exact ⟨openPiece, by decide, Or.inl rfl⟩

/-- R34: from heading 3599 to 900 the head turns by 901, a PIVOT; the reference moves to the segment's end (R36). -/
theorem test_segment_joint : ∃ t : State, exec (.segment (.head .a) cutReq) seg1 = .next t ∧
    (t.head .a).queue = [⟨cutSeg, .pivot, 901⟩] ∧ (t.head .a).ref = ⟨⟨3000, 500⟩, some 900, .cutting⟩ :=
  ⟨_, rfl, by decide +kernel, by decide +kernel⟩

/-- Head A with all of its 32 places taken. -/
def full0 : State := onA seg0 fun hd => { hd with queue := List.replicate 32 cutEntry }

/-- Head A with its numbers exhausted. -/
def spent0 : State := onA seg0 fun hd => { hd with nextSeq := 65536, queue := [cutEntry] }

theorem witness_SegmentNumbersAreChecked :
    (idle0.listens (.head .a) = true ∧ idle0.job.state ≠ .cutting) ∧
      ((onA seg0 fun hd => { hd with service := .outOfService }).head .a).service ≠ .inService ∧
      (seg0.job.state = .cutting ∧ (seg0.head .a).service = .inService ∧ (0 : Half).toNat = 0 ∧
        (seg0.head .a).nextSeq < (2 : Half).toNat) ∧
      ((1 : Half).toNat ≠ 0 ∧ (1 : Half).toNat < (cut0.head .a).nextSeq ∧ (cut0.head .a).nextSeq ≠ 65536) ∧
      ((spent0.head .a).nextSeq = 65536 ∧ (65535 : Half).toNat = 65535 ∧ 1 ∈ (spent0.head .a).numbers ∧
        65534 ∉ (spent0.head .a).numbers) ∧
      (full0.listens (.head .a) = true ∧ (1 : Half).toNat = (full0.head .a).nextSeq ∧
        32 ≤ (full0.head .a).queue.length + (full0.head .a).window.length) := by decide

/-- Requests whose checks 1 to 3 pass and that check 4, 5 or 6 refuses, each by one step. -/
theorem witness_SegmentNumbersAreChecked_ranges :
    (∀ r ∈ [{ cutReq with kind := 4 }, { cutReq with entry := 3600 }, { cutReq with tags := [251] }, { cutReq with length := 0 },
        { cutReq with xlo := 3001 }, { cutReq with radius := some 1 }, { cutReq with xhi := 32000 },
        { cutReq with first := ⟨1001, 500⟩ }, { cutReq with xhi := 3001 }],
        seg0.SegTaken .a (segmentOf r ((segKindOf r.kind).getD .line))) ∧
      (∀ r ∈ [{ cutReq with kind := 4 }, { cutReq with entry := 3600 }, { cutReq with tags := [251] },
        { cutReq with length := 0 }, { cutReq with xlo := 3001 }, { cutReq with radius := some 1 }], SegOutOfRange r) ∧
      (¬ SegOutOfRange { cutReq with xhi := 32000 } ∧ SegOffBed { cutReq with xhi := 32000 }) ∧
      ((segmentOf { cutReq with first := ⟨1001, 500⟩ } .line).InRanges ∧
        (segmentOf { cutReq with first := ⟨1001, 500⟩ } .line).first ≠ (seg0.head .a).ref.point) ∧
      (segmentOf { cutReq with xhi := 3001 } .line).InRanges ∧ (segmentOf { cutReq with xhi := 3001 } .line).first = pA ∧
      ¬ (seg0.head .a).SegPlaced (segmentOf { cutReq with xhi := 3001 } .line) := by
  refine ⟨by unfold State.SegTaken; decide, ?_, ⟨?_, by unfold SegOffBed; decide⟩, ⟨⟨rfl, by decide⟩, by decide⟩,
    ⟨rfl, by decide⟩, by decide, fun h => absurd (h.2.2 (by unfold Segment.Arc; decide)).2 (by decide)⟩
  · intro r hr
    simp only [List.mem_cons, List.not_mem_nil, or_false] at hr
    rcases hr with rfl | rfl | rfl | rfl | rfl | rfl
    · exact Or.inl (by decide)
    · exact Or.inr (Or.inr (Or.inl (by decide)))
    · exact Or.inr (Or.inr (Or.inr (Or.inr (Or.inr (Or.inr (by decide))))))
    · exact Or.inr (Or.inr (Or.inr (Or.inr (Or.inl (by decide)))))
    · exact Or.inr (Or.inr (Or.inr (Or.inr (Or.inr (Or.inl (by decide))))))
    · exact Or.inr (Or.inl ⟨.line, by decide, Or.inr (by decide)⟩)
  · rintro (h | ⟨k, hk, h⟩ | h | h | h | h | h)
    · exact absurd h (by decide)
    · obtain rfl : SegKind.line = k := Option.some.inj hk
      revert h; decide
    all_goals revert h; decide

theorem witness_HeadingsMustAgree :
    (seg0.listens (.head .a) = true ∧ segKindOf cutReq.kind = some .line) ∧
      (seg0.SegTaken .a (segmentOf cutReq .line) ∧ (segmentOf cutReq .line).InRanges ∧
        (seg0.head .a).SegPlaced (segmentOf cutReq .line) ∧ cutReq.entry = cutReq.exit) ∧
      seg0.SegTaken .a (segmentOf { cutReq with exit := 901 } .line) ∧
      (segmentOf { cutReq with exit := 901 } .line).InRanges ∧
      (seg0.head .a).SegPlaced (segmentOf { cutReq with exit := 901 } .line) ∧ (900 : Half) ≠ 901 := by
  refine ⟨by decide, ⟨by unfold State.SegTaken; decide, ⟨rfl, by decide⟩, ⟨by decide, fun h => ?_, fun _ => by decide⟩, by decide⟩,
    by unfold State.SegTaken; decide, ⟨rfl, by decide⟩, ⟨by decide, fun h => ?_, fun _ => by decide⟩, by decide⟩ <;>
  · unfold Segment.Arc at h; exact absurd h (by decide)

/-- An arc of radius r from head A's point. -/
def arcReq (r : Half) (tags : List Byte) : SegmentReq :=
  ⟨1, 1, ⟨1000, 500⟩, ⟨1050, 550⟩, 1000, 1050, 900, 0, 78, some r, tags⟩

/-- The checks before the ninth pass such an arc, and at radius 100 the ninth does. -/
theorem witness_ArcsTurnsAndTagsAreChecked :
    (seg1.listens (.head .a) = true ∧ segKindOf (arcReq 99 []).kind = some .arcCw ∧
        (seg1.head .a).ref.heading.getD 0 ≤ 3599) ∧
      (seg1.SegTaken .a (segmentOf (arcReq 99 []) .arcCw) ∧ (segmentOf (arcReq 99 []) .arcCw).InRanges ∧
        (seg1.head .a).SegPlaced (segmentOf (arcReq 99 []) .arcCw) ∧ (segmentOf (arcReq 99 []) .arcCw).OneHeading ∧
        (segmentOf (arcReq 99 []) .arcCw).PlausibleLength ∧ ¬ (seg1.head .a).WideEnough (segmentOf (arcReq 99 []) .arcCw)) ∧
      ((seg1.head .a).WideEnough (segmentOf (arcReq 100 []) .arcCw) ∧
        (seg1.head .a).Jointed (segmentOf (arcReq 100 []) .arcCw) ∧
        (seg1.head .a).Turns (segmentOf (arcReq 100 []) .arcCw) 901 ∧ 900 < Int.natAbs 901 ∧ Int.natAbs 901 ≤ 1350) ∧
      ¬ (segmentOf (arcReq 100 [7, 7]) .arcCw).tags.Nodup ∧
      ((segmentOf (arcReq 100 [7, 8]) .arcCw).tags = [7] ++ 8 :: [] ∧ seg1.findPiece 7 = some openPiece ∧
        openPiece.st = .declared ∧ seg1.findPiece 8 = none) := by
  refine ⟨by decide, ⟨by unfold State.SegTaken; decide, ⟨⟨99, by decide, by decide⟩, by decide⟩,
    ⟨by decide, fun _ => by decide, fun h => absurd (Or.inl rfl) h⟩, fun h => absurd (Or.inl rfl) h,
    ⟨by decide, by decide, fun _ => by decide, fun h => absurd (Or.inl rfl) h⟩, fun h => ?_⟩,
    ⟨fun _ => by decide, by unfold Head.Jointed; decide, by unfold Head.Turns; decide, by decide, by decide⟩, by decide,
    by decide⟩
  exact absurd (h (Or.inl rfl)) (by decide)

/-- Lengths just outside what the points and the circle allow: a straight cut of 2000, and an arc of radius 99. -/
theorem witness_ArcsTurnsAndTagsAreChecked_length :
    (¬ (segmentOf { cutReq with length := 1999 } .line).PlausibleLength ∧
        ¬ (segmentOf { cutReq with length := 2001 } .line).PlausibleLength) ∧
      ¬ (segmentOf { arcReq 99 [] with length := 49 } .arcCw).PlausibleLength ∧
      ¬ (segmentOf { arcReq 99 [] with length := 624 } .arcCw).PlausibleLength ∧
      (segmentOf { arcReq 99 [] with length := 623 } .arcCw).PlausibleLength :=
  ⟨⟨fun h => absurd h.1 (by decide), fun h => absurd (h.2.2.2 (by unfold Segment.Arc; decide)) (by decide)⟩,
    fun h => absurd h.1 (by decide), fun h => absurd (h.2.2.1 (Or.inl rfl)) (by decide),
    by decide, by decide, fun _ => by decide, fun h => absurd (Or.inl rfl) h⟩

/-- Head A with one cutting segment queued, at the number before the next. -/
def queue0 : State := { onA seg0 (queued cutEntry) with zones := heldZones }

theorem witness_FlushRetiresTheQueue :
    (queue0.listens (.head .a) = true ∧ (queue0.head .a).service = .inService ∧ (queue0.head .a).queue = cutEntry :: [] ∧
        (cutEntry :: []).getLast? = some cutEntry ∧ queue0.zones.length = 16 ∧ queue0.job.state ≠ .closing) ∧
      ((open0.head .a).service = .inService ∧ (open0.head .a).queue = []) ∧
      ((onA closing0 (queued cutEntry)).job.state = .closing ∧ ((onA closing0 (queued cutEntry)).head .a).window = [] ∧
        ((onA closing0 (queued cutEntry)).head .b).queue = [] ∧ ((onA closing0 (queued cutEntry)).head .b).window = []) ∧
      (∀ i, (onA closing0 (queued cutEntry)).Steady i) ∧ (∀ i, queue0.Steady i) ∧ NoOrphans queue0 :=
  ⟨by decide, by decide, by decide, steady (by decide), steady (by decide), by unfold NoOrphans; decide⟩

theorem witness_GovernorRanges :
    CutParams.default.inRange = true ∧ (⟨4000, 500, 20, 12000, 30000, 300, 1700, 100, 10000⟩ : CutParams).inRange = true ∧
      (⟨100, 20, 300, 100, 100, 0, 300, 2, 200⟩ : CutParams).inRange = true ∧
      (entryOf .arcCcw 1 (some 1) .pivot 1700).turn ≤ 1700 ∧ 1 ≤ (entryOf .arcCcw 1 (some 1) .pivot 1700).seg.length ∧
      (entryOf .air 65535 none .free 0).seg.length ≤ 65535 := by decide

/-! ### Witnesses: grants -/

/-- The gantry separation of a state is changed. -/
def apart (n : Nat) (s : State) : State := { s with bed := { s.bed with separation := n } }

/-- Head A with an air move queued; the claim that a grant would take ends 17000 before head B. -/
def air0 : State := apart 17000 (onA seg0 (queued airEntry))

/-- Head A with a cut queued, its blade in RUN at CUT, its zones HELD. -/
def ready0 : State := { cutting (queued cutEntry (cutAt pA)) (idleAt pB) with zones := heldZones, pieces := [openPiece] }

/-- The window of head A is put in place, with the claim and the overdue timer it brings. -/
def withWindow (ws : List WinEntry) (s : State) : State :=
  onA s fun hd => { hd with window := ws, claim := ⟨1000, 3000⟩, overdue := ⟨.counting, 3600000, 0⟩ }

theorem witness_AirIsGranted :
    (air0.listens (.head .a) = true ∧ air0.job.state.isOpen = true ∧ (air0.head .a).service = .inService ∧
        (air0.head .a).queue = airEntry :: [] ∧ (air0.head .a).hold.beyondBlade = false ∧ airEntry.seg.kind = .air) ∧
      (air0.head .a).ClaimIsHull ∧ air0.Clear .a ⟨min (air0.head .a).claim.lo airSeg.xlo, max (air0.head .a).claim.hi airSeg.xhi⟩ ∧
      (∀ i, air0.Steady i) ∧ (NoOrphans air0 ∧ air0.zones.length = 16) ∧
      ((withWindow [airWin, airWin, airWin] air0).head .a).window.length < 4 ∧
      ((withWindow [airWin, airWin, airWin] air0).head .a).ClaimIsHull ∧ ∀ i, (withWindow [airWin, airWin, airWin] air0).Steady i :=
  ⟨by decide, by unfold Head.ClaimIsHull; decide, by unfold State.Clear; decide, steady (by decide),
    ⟨by unfold NoOrphans; decide, by decide⟩, by decide, by unfold Head.ClaimIsHull; decide, steady (by decide)⟩

theorem witness_CutIsGranted :
    (ready0.listens (.head .a) = true ∧ ready0.job.state.isOpen = true ∧ (ready0.head .a).service = .inService ∧
        (ready0.head .a).queue = cutEntry :: [] ∧ (ready0.head .a).window.length < 4 ∧
        (ready0.head .a).hold.beyondBlade = false ∧ cutEntry.seg.kind ≠ .air ∧ (ready0.head .a).blade.st = .run ∧
        (ready0.head .a).blade.target = .cut) ∧
      (∀ k < 16, cutSeg.xlo / 2000 ≤ k → k ≤ cutSeg.xhi / 2000 → (ready0.zone k).st = .held) ∧
      (ready0.head .a).ClaimIsHull ∧ (∀ i, ready0.Steady i) ∧ ready0.Clear .a ⟨1000, 3000⟩ ∧ NoOrphans ready0 ∧
      ready0.zones.length = 16 :=
  ⟨by decide, by decide, by unfold Head.ClaimIsHull; decide, steady (by decide), by unfold State.Clear; decide,
    by unfold NoOrphans; decide, by decide⟩

theorem witness_GrantsWaitForTheirTurn :
    (idle0.listens (.head .a) = true ∧ idle0.job.state.isOpen = false) ∧
      ((onA open0 fun hd => { hd with service := .outOfService }).head .a).service ≠ .inService ∧
      ((open0.head .a).service = .inService ∧ (open0.head .a).queue = []) ∧
      ((air0.head .a).queue = airEntry :: [] ∧
        4 ≤ ((withWindow [airWin, airWin, airWin, airWin] air0).head .a).window.length ∧ (air0.head .a).window.length < 4 ∧
        ((onA air0 fun hd => { hd with hold := { noHold with cellHold := true } }).head .a).hold.beyondBlade = true ∧
        (air0.head .a).hold.beyondBlade = false) ∧
      (air0.head .a).ClaimIsHull ∧ ¬ (apart 17001 air0).Clear .a ⟨1000, 3000⟩ :=
  ⟨by decide, by decide, by decide, by decide, by unfold Head.ClaimIsHull; decide, by unfold State.Clear; decide⟩

/-- Head A with a cut queued, its blade at IDLE, its zones OFF, under a budget. -/
def lacking (budget : Nat) : State :=
  { onA seg0 (queued cutEntry) with zoneSettings := { ZoneSettings.default with budget := budget } }

/-- The zones are enough for a budget of 2, not of 1. -/
theorem witness_PreparationsAreMade :
    ((lacking 2).listens (.head .a) = true ∧ (lacking 2).job.state.isOpen = true ∧ ((lacking 2).head .a).service = .inService ∧
        ((lacking 2).head .a).queue = cutEntry :: [] ∧ ((lacking 2).head .a).window.length < 4 ∧
        ((lacking 2).head .a).hold.beyondBlade = false ∧ (lacking 2).zones.length = 16) ∧
      ((lacking 2).head .a).ClaimIsHull ∧ (lacking 2).Clear .a ⟨1000, 3000⟩ ∧ ((lacking 2).head .a).blade.runAtCut = false ∧
      (∀ i, (lacking 2).Steady i) ∧ NoOrphans (lacking 2) ∧
      ((lacking 1).activeCount + 2 + 0 = 2 ∧ (lacking 1).zoneSettings.budget = 1 ∧ (lacking 1).mark = none) ∧
      ({ ready0 with zones := (List.replicate 16 Zone.reset).set 0 ⟨.fault, none, false, 1, 0⟩ } : State).mark = none ∧
      (ready0.head .a).blade.runAtCut = true :=
  ⟨by decide, by unfold Head.ClaimIsHull; decide, by unfold State.Clear; decide, by decide, steady (by decide),
    by unfold NoOrphans; decide, by decide, by decide, by decide⟩

/-- The channels that a demand's rise to CUT finds: stopped, climbing, running or settling at IDLE, and waiting. At an f_idle
of f_cut no step lies above it. -/
theorem witness_PreparationsAreMade_demand :
    (∀ st ∈ [ChState.stopped, .spinup, .run, .settling, .retryWait, .faulted],
        (((bladeA (lacking 2) fun c => { c with st := st }).head .a).blade.demand ≠ .cut ∧
          ((bladeA (lacking 2) fun c => { c with st := st }).head .a).blade.target = .idle ∧
          ((bladeA (lacking 2) fun c => { c with st := st }).head .a).blade.st = st ∧
          ((bladeA (lacking 2) fun c => { c with st := st }).head .a).blade.runAtCut = false)) ∧
      (BladeParams.default.fIdle < BladeParams.default.stepRate .cut 2 ∧
        ∀ j < 2, 1 ≤ j → BladeParams.default.stepRate .cut j ≤ BladeParams.default.fIdle) ∧
      (∀ i < 9, 1 ≤ i → ({ BladeParams.default with fIdle := 2400 }).stepRate .cut i ≤ 2400) ∧
      ((ready0.head .a).blade.demand = .cut ∧ (∃ k ∈ (⟨0, 1⟩ : ZoneRange).list, (open0.zone k).st ≠ .held)) := by decide

/-- The job of a state closes. -/
def closing (s : State) : State := { s with job := { s.job with state := .closing } }

theorem witness_DoneCompletes :
    (cut0.listens (.head .a) = true ∧ (cut0.head .a).window = cutWin :: [] ∧ cutWin.entry.seg.number = (1 : Half).toNat ∧
        (1 : Half).toNat ≠ 0 ∧ cutWin.entry.seg.tags.Nodup ∧ cut0.zones.length = 16) ∧ NoOrphans cut0 ∧
      ((1 : Half).toNat < (cut0.head .a).nextSeq ∧ (cut0.head .a).runs = [] ∧ (cut0.head .a).queue = []) ∧
      ((closing cut0).job.state = .closing ∧ ((closing cut0).head .b).queue = [] ∧ ((closing cut0).head .b).window = []) ∧
      (∀ i, (closing cut0).Steady i) ∧
      (cut0.job.state ≠ .closing ∧ openPiece ∈ cut0.pieces ∧ openPiece.id ∈ cutWin.entry.seg.tags ∧
        openPiece.st = .declared ∧ openPiece.edges + 1 = openPiece.required) ∧
      (∀ i, cut0.Steady i) ∧ ((cut0.head .a).hold.overdue = false ∧ cut0.job.state.isOpen = true ∧
        (cut0.head .a).service = .inService) :=
  ⟨by decide, by unfold NoOrphans; decide, by decide, by decide, steady (by decide), by decide, steady_cut0, by decide⟩

/-- Head A with number 1 and 2 in its window, 3 queued, 5 the next, 4 withdrawn. -/
def numbers0 : State := onA cut0 fun hd => { hd with
  window := [cutWin, { airWin with entry := { airEntry with seg := { airSeg with number := 2 } } }]
  queue := [{ airEntry with seg := { airSeg with number := 3 } }], nextSeq := 5, runs := [⟨4, 4, .withdrawn⟩] }

theorem witness_OtherDonesChangeNothing :
    (cut0.listens (.head .a) = true ∧ (0 : Half).toNat = 0) ∧
      (numbers0.listens (.head .a) = true ∧ (∀ m ∈ [2, 3, 4, 5], cutWin.entry.seg.number ≠ m) ∧
        (numbers0.head .a).window.head? = some cutWin) ∧
      (3 ∈ (numbers0.head .a).queue.map (fun e => e.seg.number) ∧
        2 ∈ (numbers0.head .a).window.map (fun w => w.entry.seg.number) ∧ (numbers0.head .a).nextSeq ≤ (5 : Half).toNat) ∧
      ((4 : Half).toNat < (numbers0.head .a).nextSeq ∧ (⟨4, 4, .withdrawn⟩ : Run) ∈ (numbers0.head .a).runs ∧
        (numbers0.head .a).floor ≤ 4) ∧
      ((1 : Half).toNat < ((onA open0 fun hd => { hd with nextSeq := 2, floor := 2 }).head .a).floor ∧
        ((onA open0 fun hd => { hd with nextSeq := 2 }).head .a).runs = []) := by decide

/-- Head A stopped over its cut by the cell master. -/
def stopped0 : State := onA cut0 fun hd => { hd with
  hold := { noHold with cellHold := true }, overdue := ⟨.paused, 10288000, 0⟩ }

theorem witness_ReleaseFreesTheHead :
    (stopped0.listens .cell = true ∧ (stopped0.head .a).service = .inService ∧ (stopped0.head .a).hold.held = true ∧
        (1000 : Half).toNat ≤ 31999 ∧ (20999 : Half).toNat ≤ 20999 ∧ (stopped0.head .a).claim.lo ≤ (1000 : Half).toNat ∧
        (3000 : Half).toNat ≤ (stopped0.head .a).claim.hi) ∧
      (NoOrphans stopped0 ∧ stopped0.zones.length = 16) ∧
      ((stopped0.head .a).runs.length + (stopped0.head .a).numbers.length ≤ 16 ∧ 1 ∈ (stopped0.head .a).numbers) ∧
      ((closing stopped0).job.state = .closing ∧ (∀ i, (closing stopped0).Steady i) ∧ stopped0.job.state ≠ .closing ∧
        ∀ i, stopped0.Steady i) ∧
      (1 < (2 : Byte).toNat ∧ ((onA stopped0 fun hd => { hd with service := .outOfService }).head .a).service ≠ .inService ∧
        ¬ (cut0.head .a).hold.held = true ∧ ¬ (32000 : Half).toNat ≤ 31999 ∧ ¬ (21000 : Half).toNat ≤ 20999 ∧
        ¬ (stopped0.head .a).claim.lo ≤ (999 : Half).toNat ∧ ¬ (3001 : Half).toNat ≤ (stopped0.head .a).claim.hi) :=
  ⟨by decide, ⟨by unfold NoOrphans; decide, by decide⟩, by decide, ⟨by decide, steady (by decide), by decide, steady (by decide)⟩,
    by decide⟩

/-! ### Witnesses: zones and timers -/

/-- Zone 0 of a state is replaced. -/
def zone0 (z : Zone) (s : State) : State := s.setZone 0 z

theorem witness_ZonesFaultAndClear :
    (cut0.zones.length = 16 ∧ (cut0.zone 1).st ≠ .pulling ∧ (cut0.zone 1).st ≠ .lost) ∧
      (((zone0 ⟨.pulling, some 0, false, 255, 0⟩ cut0).zone 0).pull = some 0 ∧
        ((zone0 ⟨.lost, some 1, false, 254, 0⟩ cut0).zone 0).st = .lost ∧ (cut0.head .a).cutsOver 0 = true) ∧
      NoOrphans (zone0 ⟨.pulling, some 0, false, 255, 0⟩ cut0) ∧
      (15 < (16 : Byte).toNat ∧ (cut0.zone (15 : Byte).toNat).st ≠ .fault) ∧
      (((zone0 ⟨.fault, none, false, 1, 0⟩ cut0).zone (0 : Byte).toNat).st = .fault ∧
        (zone0 ⟨.fault, none, false, 1, 0⟩ cut0).activeCount < (zone0 ⟨.fault, none, false, 1, 0⟩ cut0).zoneSettings.budget ∧
        ((zone0 ⟨.fault, none, false, 1, 0⟩ open0).head .a).cutsOver 0 = false ∧
        ((zone0 ⟨.fault, none, false, 1, 0⟩ open0).head .b).cutsOver 0 = false) ∧
      NoOrphans (zone0 ⟨.fault, none, false, 1, 0⟩ cut0) ∧ (∀ h, (zone0 ⟨.fault, none, false, 1, 0⟩ open0).Steady h) :=
  ⟨by decide, by decide, by unfold NoOrphans; decide, by decide, by decide, by unfold NoOrphans; decide, steady (by decide)⟩

/-- Head A waits for zones 0 and 1 to settle; zone 0 pulls. -/
def settling0 : State := zone0 ⟨.pulling, some 1500000, false, 0, 0⟩ (onA { open0 with zones := heldZones } fun hd =>
  { hd with watch := ⟨{ WaitSet.empty with zonesSettling := true }, some ⟨0, 1⟩⟩, pendingReq := some ⟨0, 1⟩ })

/-- Line 0 of that state has changed over `since` microseconds ago, so that it reads good. -/
def turned0 (since : Nat) : State :=
  { zone0 ⟨.pulling, some 1500000, false, 0, since⟩ settling0 with prs := 0xFFFE }

theorem witness_PressureMovesTheZone :
    (settling0.zones.length = 16 ∧ settling0.resetHold = none ∧ settling0.changeIn 0 = none ∧
        settling0.readsGood 0 = (settling0.zone 0).good ∧ (turned0 7).readsGood 0 ≠ ((turned0 7).zone 0).good) ∧
      (ZonesQuietFor 19993 (turned0 7) ∧ (turned0 7).changeIn 0 = some 19993 ∧ ((turned0 7).zone 0).good = false ∧
        ((turned0 7).zone 0).st = .pulling ∧ ((turned0 7).head .a).watch.range = some ⟨0, 1⟩ ∧
        ((turned0 7).head .a).watch.reasons.zonesSettling = true ∧ (⟨0, 1⟩ : ZoneRange).has 0 = true ∧
        (∀ j < 16, (⟨0, 1⟩ : ZoneRange).has j = true → j ≠ 0 → ((turned0 7).zone j).st = .held)) ∧
      (((zone0 ⟨.pulling, some 4999, false, 0, 15000⟩ (turned0 0)).zone 0).pullLeft = some 4999 ∧
        (zone0 ⟨.pulling, some 4999, false, 0, 15000⟩ (turned0 0)).changeIn 0 = some 5000 ∧
        NoOrphans (zone0 ⟨.pulling, some 4999, false, 0, 15000⟩ (turned0 0)) ∧
        ∀ j < 16, j ≠ 0 → (turned0 0).changeIn j = (if j < 2 then some 20000 else none) ∧ ((turned0 0).zone j).pullLeft = none) ∧
      ((cut0.zone 1).good = true ∧ cut0.changeIn 1 = some 20000 ∧ ZonesQuietFor 20000 cut0 ∧ (cut0.zone 1).st = .held ∧
        (cut0.head .a).cutsOver 1 = true ∧ (cut0.zone 15).st = .off ∧ (cut0.zone 15).good = false) :=
  ⟨by decide +kernel, ⟨by unfold ZonesQuietFor; decide +kernel, by decide +kernel⟩,
    ⟨by decide +kernel, by decide +kernel, by unfold NoOrphans; decide +kernel, by decide +kernel⟩,
    ⟨by decide, by decide +kernel, by unfold ZonesQuietFor; decide +kernel, by decide⟩⟩

/-- R85, with a deglitch time of 20 ms: line 0 reads good 5 µs on; for 19999 µs it is ignored, for 20000 it is not. A line
that reads good from the entry to PULLING on and opens for good after 5 ms brings no level at all. -/
theorem test_debounce : ∃ t u v : State,
    exec (.pressureGood ⟨0, [⟨5, 0⟩, ⟨19999, 0⟩]⟩) settling0 = .next t ∧ (t.zone 0).st = .pulling ∧ t.changeIn 0 = none ∧
      exec (.pressureGood ⟨0, [⟨5, 0⟩, ⟨20000, 0⟩]⟩) settling0 = .next u ∧ (u.zone 0).st = .held ∧ u.changeIn 0 = some 20000 ∧
      exec (.pressureGood ⟨0, [⟨5000, 0⟩]⟩) (turned0 0) = .next v ∧ (v.zone 0).st = .pulling ∧ v.changeIn 0 = none :=
  ⟨_, _, _, rfl, by decide +kernel, by decide +kernel, rfl, by decide +kernel, by decide +kernel, rfl, by decide +kernel,
    by decide +kernel⟩

/-- R85: two inputs time at once; when zone 0 is HELD, line 4, which turned 5 ms after line 0, has 5 ms to go. -/
theorem test_two_inputs : ∃ t : State,
    exec (.pressureGood ⟨0, [⟨0, 0⟩, ⟨5000, 4⟩]⟩) { settling0 with prs := 0xFFFD } = .next t ∧ (t.zone 0).st = .held ∧
      t.changeIn 4 = some 5000 := ⟨_, rfl, by decide +kernel, by decide +kernel⟩

/-- R92, R94: with 1500 ms left on the pull timer, PRS0 reads good from 1480000 µs on and zone 0 is HELD; from 1480001 µs on,
and the zone has faulted before. -/
theorem test_pull_timeout_before_the_change : ∃ t u : State,
    exec (.pressureGood ⟨0, [⟨1480000, 0⟩]⟩) settling0 = .next t ∧ (t.zone 0).st = .held ∧
      exec (.pressureGood ⟨0, [⟨1480001, 0⟩]⟩) settling0 = .next u ∧ (u.zone 0).st = .fault ∧ (u.zone 0).good = true :=
  ⟨_, _, rfl, by decide +kernel, rfl, by decide +kernel, by decide +kernel⟩

/-- Head A holds a pending request for held zones, whose lapse runs out. -/
def lapsing0 : State := onA { open0 with zones := heldZones } fun hd =>
  { hd with pendingReq := some ⟨0, 1⟩, lapse := some 0 }

/-- Head A holds the budget mark, for which head B waits. -/
def marked0 : State :=
  { onA open0 fun hd => { hd with pendingReq := some ⟨0, 1⟩ } with mark := some ⟨.a, 0⟩ }.modHead .b fun hd =>
    { hd with watch := ⟨{ WaitSet.empty with zoneBudget := true }, some ⟨8, 9⟩⟩ }

theorem witness_RequestsLapseAndMarksExpire :
    ((open0.head .a).lapse = none ∧ open0.mark = none) ∧ (lapsing0.head .a).lapse = some 0 ∧
      (NoOrphans lapsing0 ∧ lapsing0.zones.length = 16) ∧ marked0.mark = some ⟨.a, 0⟩ ∧
      (marked0.head .b).watch.reasons.zoneBudget = true :=
  ⟨by decide, by decide, ⟨by unfold NoOrphans; decide, by decide⟩, by decide, by decide⟩

theorem witness_OverdueSuspendsTheHead :
    (open0.head .a).overdue.st ≠ .counting ∧ (cut0.head .a).overdue.st = .counting ∧ (∀ h, cut0.Steady h) ∧
      (cut0.head .a).blade.demand = .cut ∧ (cut0.head .a).blade.runAtCut = true ∧ (cut0.head .a).holdsCut = true :=
  ⟨by decide, by decide, steady_cut0, by decide, by decide, by decide⟩

/-- Head A cuts with its idle-delay timer running too. -/
def both0 : State := bladeA cut0 fun c => { c with idleTimer := some 0 }

theorem witness_DelaysExpire :
    ((open0.head .a).blade.idleTimer = none ∧ (cut0.head .a).blade.stopTimer = none) ∧
      ((ready0.head .a).blade.idleTimer = some 3000000 ∧ ready0.job.state.isOpen = true ∧
        (ready0.head .a).service = .inService ∧ (ready0.head .a).holdsCut = false ∧ (ready0.head .a).blade.demand = .cut ∧
        (ready0.head .a).blade.runAtCut = true) ∧ (∀ h, ready0.Steady h) ∧
      ((both0.head .a).blade.idleTimer = some 0 ∧ (both0.head .a).holdsCut = true) ∧ (∀ h, both0.Steady h) ∧
      ((open0.head .a).blade.stopTimer = some 60000000 ∧ (open0.head .a).blade.st.accepts = true) ∧ (∀ h, open0.Steady h) ∧
      ((bladeA open0 fun c => { c with st := .faulted }).head .a).blade.st.accepts = false ∧
      ∀ h, (bladeA open0 fun c => { c with st := .faulted }).Steady h :=
  ⟨by decide, by decide, steady (by decide), by decide, steady (by decide), by decide, steady_open0, by decide,
    steady (by decide)⟩

/-- Head A's blade waits to be tried again, or is latched; without a job it is asked for nothing. -/
def waiting (s : State) : State := bladeA s fun c => { c with st := .retryWait, commanded := 0, retryTimer := some 0 }
def latched (s : State) : State := bladeA s fun c => { c with st := .faulted, commanded := 0, retries := 3 }

theorem witness_RetryAndClearRestart :
    ((∀ h, (waiting open0).Steady h) ∧ ((waiting open0).head .a).blade.retryTimer = some 0 ∧
        ((waiting open0).head .a).blade.demand = .idle ∧ ((waiting ready0).head .a).blade.demand = .cut) ∧
      ((∀ h, (waiting idle0).Steady h) ∧ ((waiting idle0).head .a).blade.demand = .off) ∧
      ((∀ h, (latched open0).Steady h) ∧ (latched open0).listens .cell = true ∧ ((latched open0).head .a).blade.st = .faulted) ∧
      (∀ h, (latched idle0).Steady h) ∧ (open0.head .a).blade.st ≠ .faulted ∧ (open0.head .a).blade.retryTimer = none :=
  ⟨⟨steady (by decide), by decide⟩, ⟨steady (by decide), by decide⟩, ⟨steady (by decide), by decide⟩, steady (by decide),
    by decide, by decide⟩

/-- Codes that name no head. -/
theorem witness_headCodes : 1 < (2 : Byte).toNat ∧ 1 < (255 : Byte).toNat := by decide

/-- Head A's stroke watch runs out under a response mode. -/
def silent (m : FaultMode) : State := onA cut0 fun hd => { hd with
  blade := { hd.blade with watchLeft := some 0 }, guard := { hd.guard with modes := { hd.guard.modes with strokeLost := m } } }

theorem witness_StrokeWatchRunsOut :
    (cut0.head .a).blade.watchLeft = none ∧
      (((silent .retryBrake).head .a).blade.watchLeft = some 0 ∧ ((silent .retryBrake).head .a).blade.st.accepts = true ∧
        ((silent .retryBrake).head .a).holdsCut = true) ∧ (∀ h, (silent .retryBrake).Steady h) ∧
      ((silent .ignore).head .a).guard.modes.strokeLost = .ignore ∧ (∀ h, (silent .ignore).Steady h) ∧
      ((silent .report).head .a).guard.modes.strokeLost = .report ∧ ∀ h, (silent .report).Steady h :=
  ⟨by decide, by decide, steady (by decide), by decide, steady (by decide), by decide, steady (by decide)⟩

/-! ### Witnesses: the blades and their guard -/

/-- A pulse after so many microseconds with one load sample. -/
def pulse (after : Nat) (sample : Sample) : Pulse := ⟨after, [sample]⟩

/-- Head A's stroke watch has so long to run. -/
def watched (left : Nat) : State := bladeA open0 fun c => { c with watchLeft := some left }

/-- Half of the 66666 microseconds of 900 strokes a minute is the boundary of the blanking. -/
theorem witness_IndexPulsesCount :
    ((idle0.head .a).blade.st.accepts = false) ∧
      ((open0.head .a).blade.st.accepts = true ∧ (open0.head .a).blade.pulseSeen = true ∧
        2 * ((open0.head .a).blade.since + 33332) < 60000000 / (open0.head .a).blade.commanded ∧
        60000000 / (open0.head .a).blade.commanded ≤ 2 * ((open0.head .a).blade.since + 33333)) ∧
      (∀ h, open0.Steady h) ∧ (open0.head .a).EndsStroke (pulse 33333 0) ∧
      ((bladeA open0 fun c => { c with pulseSeen := false }).head .a).blade.pulseSeen = false ∧
      (((watched 33333).head .a).InTime (pulse 33333 0) ∧ ((watched 33332).head .a).blade.watchLeft = some 33332 ∧
        33332 < (pulse 33333 0).after ∧ 300 ≤ ((watched 33332).head .a).blade.commanded ∧
        ((watched 33332).head .a).blade.commanded ≤ 3000 ∧ ∀ h, (watched 33332).Steady h) ∧
      (StrokeEvents.trimDown (cut0.pulseEvents .a (pulse 25000 2601)) = false ∧
        StrokeEvents.trimDown ((bladeA cut0 fun c => { c with heavy := 3 }).pulseEvents .a (pulse 25000 2601)) = true) :=
  ⟨by decide, by decide, steady_open0, by unfold Head.EndsStroke Head.InTime; decide, by decide,
    ⟨by unfold Head.InTime; decide, by decide, by decide, by decide, by decide, steady (by decide)⟩, by decide +kernel⟩

/-- R120: a pulse that comes 1 µs after the watch has run out finds the channel already stopped by STROKE-LOST. -/
theorem test_pulse_after_the_watch : ∃ t : State, exec (.indexPulse .a (pulse 33333 0)) (watched 33332) = .next t ∧
    (t.head .a).blade.st = .retryWait ∧ (t.head .a).blade.record.last = some .strokeLost ∧
      (t.head .a).blade.retryTimer = some 999999 := ⟨_, rfl, by decide +kernel, by decide +kernel, by decide +kernel⟩

/-- Head A climbs toward IDLE, or settles at it. -/
def climbing (step count : Nat) : State :=
  bladeA open0 fun c => { c with st := .spinup, step := step, stepCount := count }
def levelling (count strokes : Nat) : State :=
  bladeA open0 fun c => { c with st := .settling, settleCount := count, settleStrokes := strokes }

theorem witness_SpinupClimbsToRun_rates :
    1 ≤ 8 ∧ BladeParams.default.ramp[8 - 1]? = some 7 ∧ [25, 40, 55, 70, 80, 90, 95, 100][7]? = some 100 ∧
      BladeParams.default.ramp[1 - 1]? = some 0 := by decide

/-- The first pulse of a climb, at the last stroke of a step of one stroke and before it. -/
theorem witness_SpinupClimbsToRun_first :
    (∀ s ∈ [bladeA (climbing 1 0) fun c => { c with pulseSeen := false, watchLeft := some 33333 }],
        (s.head .a).blade.st = .spinup ∧ (s.head .a).blade.pulseSeen = false ∧ 33333 ≤ (s.head .a).blade.watchLeft.getD 0) ∧
      (∀ h, (bladeA (climbing 1 0) fun c => { c with pulseSeen := false, watchLeft := some 33333 }).Steady h) ∧
      ((bladeA (climbing 1 0) fun c => { c with pulseSeen := false, watchLeft := some 33333 }).head .a).InTime (pulse 33333 0) ∧
      (0 + 1 < BladeParams.default.stepStrokes ∧ ({ BladeParams.default with stepStrokes := 1 }).stepStrokes ≤ 0 + 1) :=
  ⟨by decide, steady (by decide), by unfold Head.InTime; decide, by decide⟩

theorem witness_SpinupClimbsToRun :
    ((∀ h, (climbing 7 6).Steady h) ∧ (∀ h, (climbing 7 7).Steady h) ∧ (∀ h, (climbing 8 7).Steady h) ∧
        ((climbing 7 6).head .a).EndsStroke (pulse 63492 3400) ∧ ((climbing 7 6).head .a).QuietStroke (pulse 63492 3400) ∧
        ((climbing 7 6).head .a).QuietStroke (pulse 63492 200)) ∧
      (6 + 1 < BladeParams.default.stepStrokes ∧ BladeParams.default.stepStrokes ≤ 7 + 1) ∧
      ((∀ h, (levelling 7 62).Steady h) ∧ (∀ h, (levelling 6 63).Steady h) ∧
        ((levelling 7 62).head .a).EndsStroke (pulse 63492 3400) ∧ ((levelling 7 62).head .a).QuietStroke (pulse 63492 3400)) ∧
      (1 ≤ BladeParams.default.settle ∧ 20 * absDiff (60000000 / 63492) 900 ≤ 900 ∧ BladeParams.default.settle ≤ 7 + 1 ∧
        6 + 1 < BladeParams.default.settle ∧ ¬ 20 * absDiff (60000000 / 63424) 900 ≤ 900) ∧
      ((levelling 6 63).head .a).guard.modes.noSettle ≠ .ignore :=
  ⟨⟨steady (by decide), steady (by decide), steady (by decide), by unfold Head.EndsStroke Head.InTime; decide,
      by unfold Head.QuietStroke Head.EvenStroke; decide, by unfold Head.QuietStroke Head.EvenStroke; decide⟩, by decide,
    ⟨steady (by decide), steady (by decide), by unfold Head.EndsStroke Head.InTime; decide, by unfold Head.QuietStroke Head.EvenStroke; decide⟩,
    by decide, by decide⟩

/-- R112: at 2400 the band runs from 2280 to 2520; a stroke of 25300 measures 2371, in it, one of 26500 2264, out of it. -/
theorem test_settling_band :
    60000000 / 25300 = 2371 ∧ 20 * absDiff 2371 2400 ≤ 2400 ∧ 60000000 / 26500 = 2264 ∧ ¬ 20 * absDiff 2264 2400 ≤ 2400 ∧
      20 * absDiff 2520 2400 ≤ 2400 ∧ ¬ 20 * absDiff 2279 2400 ≤ 2400 := by decide

/-- Head A in a relief pause of so many strokes. -/
def pausing (n : Nat) : State := onA cut0 fun hd => { hd with
  hold := { noHold with blade := true }, overdue := ⟨.paused, 10288000, 0⟩, blade := { hd.blade with pause := n } }

theorem witness_TrimAndReliefJudgeTheStroke :
    ((∀ h, cut0.Steady h) ∧ (cut0.head .a).blade.st = .run ∧ (cut0.head .a).blade.target = .cut ∧
        (cut0.head .a).feeding = true ∧ (cut0.head .a).EndsStroke (pulse 25000 2601) ∧
        (cut0.head .a).QuietStroke (pulse 25000 2601) ∧ (cut0.head .a).QuietStroke (pulse 25000 1399)) ∧
      ((cut0.head .a).bladeParams.trimHigh < (cut0.head .a).strokeAverage (pulse 25000 2601) ∧
        (cut0.head .a).strokeAverage (pulse 25000 2600) ≤ (cut0.head .a).bladeParams.trimHigh ∧
        (cut0.head .a).strokeAverage (pulse 25000 1399) < (cut0.head .a).bladeParams.trimLow ∧
        (cut0.head .a).bladeParams.trimLow ≤ (cut0.head .a).strokeAverage (pulse 25000 1400)) ∧
      ((∀ h, (bladeA cut0 fun c => { c with heavy := 3 }).Steady h) ∧ ∀ h, (bladeA cut0 fun c => { c with light := 15 }).Steady h) ∧
      ((∀ h, (pausing 1).Steady h) ∧ (∀ h, (pausing 2).Steady h) ∧ ((pausing 1).head .a).guard.reliefMode = .relief ∧
        ((pausing 1).head .a).QuietStroke (pulse 25000 2000)) ∧
      ((cut0.head .a).guard.peakLimit < (cut0.head .a).strokePeak ⟨25000, [3601, 0]⟩ ∧
        (cut0.head .a).strokeAverage ⟨25000, [3601, 0]⟩ ≤ (cut0.head .a).guard.lockLimit ∧
        (cut0.head .a).guard.noBlade ≤ (cut0.head .a).strokeAverage ⟨25000, [3601, 0]⟩ ∧
        (cut0.head .a).blade.lastRunPeriod = some 25000 ∧ 6 + 1 < (cut0.head .a).guard.escalation ∧
        1 ≤ (cut0.head .a).guard.reliefN) ∧ (cut0.head .a).EvenStroke ⟨25000, [3601, 0]⟩ :=
  ⟨⟨steady_cut0, by decide, by decide, by decide, by unfold Head.EndsStroke Head.InTime; decide, by unfold Head.QuietStroke Head.EvenStroke; decide,
      by unfold Head.QuietStroke Head.EvenStroke; decide⟩, by decide, ⟨steady (by decide), steady (by decide)⟩,
    ⟨steady (by decide), steady (by decide), by decide, by unfold Head.QuietStroke Head.EvenStroke; decide⟩, by decide,
    by unfold Head.EvenStroke; decide⟩

/-- Head A settles with its lock run one stroke short of the lock strokes, waiting for its blade. -/
def locking : State := onA (levelling 7 5) fun hd => { hd with
  blade := { hd.blade with lockRun := 15 }, watch := ⟨{ WaitSet.empty with bladeNotReady := true }, none⟩ }

theorem witness_GuardTestsTheStroke :
    ((∀ h, (bladeA cut0 fun c => { c with lastRunPeriod := some 100000 }).Steady h) ∧
        (cut0.head .a).EndsStroke (pulse 33333 2000) ∧ (cut0.head .a).guard.modes.roughRate ≠ .ignore ∧
        (cut0.head .a).guard.rough * min ((cut0.head .a).strokePeriod (pulse 33333 2000)) 100000 <
          max ((cut0.head .a).strokePeriod (pulse 33333 2000)) 100000) ∧
      ((∀ h, (bladeA cut0 fun c => { c with lockRun := 15 }).Steady h) ∧ (cut0.head .a).guard.modes.overload ≠ .ignore ∧
        (cut0.head .a).guard.lockLimit < (cut0.head .a).strokeAverage (pulse 25000 3401) ∧
        (cut0.head .a).guard.lockStrokes ≤ 15 + 1 ∧ (cut0.head .a).blade.st = .run) ∧
      ((∀ h, (bladeA cut0 fun c => { c with escalation := 7 }).Steady h) ∧ (cut0.head .a).blade.runAtCut = true ∧
        (cut0.head .a).guard.peakLimit < (cut0.head .a).strokePeak ⟨25000, [3601, 0]⟩ ∧
        (cut0.head .a).guard.escalation ≤ 7 + 1) ∧
      ((∀ h, (bladeA cut0 fun c => { c with missRun := 31 }).Steady h) ∧ (cut0.head .a).guard.modes.bladeMissing ≠ .ignore ∧
        (cut0.head .a).strokeAverage (pulse 25000 199) < (cut0.head .a).guard.noBlade ∧ (32 ≤ 31 + 1 ∧ 30 + 1 < 32) ∧
        (cut0.head .a).feeding = true) ∧
      ((∀ h, (bladeA cut0 fun c => { c with cleanRun := 255 }).Steady h) ∧ (cut0.head .a).QuietStroke (pulse 25000 2000) ∧
        (256 ≤ 255 + 1 ∧ 254 + 1 < 256)) ∧
      ((cut0.head .a).EvenStroke (pulse 25000 3401) ∧ (cut0.head .a).EvenStroke (pulse 25000 199) ∧
        (cut0.head .a).EvenStroke (pulse 75000 2000) ∧ ¬ (cut0.head .a).EvenStroke (pulse 75001 2000)) ∧
      ((∀ h, locking.Steady h) ∧ (locking.head .a).EndsStroke (pulse 66666 3401) ∧
        (locking.head .a).guard.modes.overload ≠ .report ∧ (locking.head .a).blade.st = .settling ∧
        (locking.head .a).guard.lockLimit < (locking.head .a).strokeAverage (pulse 66666 3401)) :=
  ⟨⟨steady (by decide), by unfold Head.EndsStroke Head.InTime; decide, by decide, by decide⟩,
    ⟨steady (by decide), by decide, by decide, by decide⟩, ⟨steady (by decide), by decide, by decide, by decide⟩,
    ⟨steady (by decide), by decide, by decide, by decide⟩,
    ⟨steady (by decide), by unfold Head.QuietStroke Head.EvenStroke; decide, by decide⟩,
    by unfold Head.EvenStroke; decide, ⟨steady (by decide), by unfold Head.EndsStroke Head.InTime; decide, by decide⟩⟩

/-- R124: the stroke that would lock head A on is its 16th over the lock limit: OVERLOAD takes it, and its wait stands. -/
theorem test_overload_before_lock_on : ∃ t : State, exec (.overload .a (pulse 66666 3401)) locking = .next t ∧
    (t.head .a).blade.st = .retryWait ∧ (t.head .a).watch = (locking.head .a).watch ∧
      StrokeEvents.lockOn (locking.pulseEvents .a (pulse 66666 3401)) = false :=
  ⟨_, rfl, by decide +kernel, by decide +kernel, by decide +kernel⟩

/-! ### Witnesses: pieces and heads -/

/-- A state with so many piece records beside piece 7. -/
def table (n : Nat) (p : Piece) : State :=
  { open0 with pieces := p :: (List.range n).map fun k => { openPiece with id := k + 100 } }

theorem witness_PiecesAreDeclaredAndTaken :
    (open0.listens .cell = true ∧ idle0.job.state = .idle ∧ open0.job.state ≠ .idle) ∧
      ((250 : Byte).toNat ≤ 250 ∧ (12 : Byte).toNat ≤ 12 ∧ (31999 : Half).toNat ≤ 31999 ∧ ¬ (1 ≤ (0 : Byte).toNat)) ∧
      ((table 62 openPiece).pieces.length < 64 ∧ 64 ≤ (table 63 openPiece).pieces.length ∧
        openPiece ∈ (table 63 openPiece).pieces) ∧
      ((250 < (251 : Byte).toNat) ∧ open0.findPiece (7 : Byte).toNat = none ∧
        cut0.findPiece (7 : Byte).toNat = some openPiece ∧ openPiece.st ≠ .severed) ∧
      ((table 0 { openPiece with st := .severed }).findPiece (7 : Byte).toNat = some { openPiece with st := .severed } ∧
        (table 0 { openPiece with st := .severed }).zones.length = 16) ∧
      NoOrphans (table 0 { openPiece with st := .severed }) ∧ ∀ h, (table 0 { openPiece with st := .severed }).Steady h :=
  ⟨by decide, by decide, by decide, by decide, by decide, by unfold NoOrphans; decide, steady (by decide)⟩

theorem witness_HoldAndResume :
    (cut0.listens .cell = true ∧ 2 < (3 : Byte).toNat ∧ (2 : Byte).toNat ≤ 2) ∧ (∀ h, cut0.Steady h) ∧
      (∀ h, stopped0.Steady h) ∧ (Named 2 .a ∧ Named 2 .b ∧ Named 0 .a ∧ ¬ Named 0 .b) ∧
      ((cut0.head .a).hold.cellHold ≠ true ∧ (stopped0.head .a).hold.cellHold ≠ false ∧
        (cut0.head .a).overdue.st ≠ .stopped ∧ (cut0.head .b).overdue.st = .stopped) :=
  ⟨by decide, steady_cut0, steady (by decide), by unfold Named; decide, by decide⟩

/-- Head A of a state is out of service at its park. -/
def away (s : State) : State := onA s fun hd => { hd with
  service := .outOfService, standing := ⟨0, 0⟩, claim := ⟨0, 0⟩, hold := { hd.hold with outOfService := true }
  blade := { Channel.reset 16 FaultRecord.clear with st := .stopped } }

/-- The park of head A is 20000 from head B. -/
theorem witness_ServiceOutAndIn :
    (open0.listens .cell = true ∧ (open0.head .a).service = .inService ∧ (open0.head .a).queue = [] ∧
        (open0.head .a).window = [] ∧ (cut0.head .a).window ≠ []) ∧
      ((apart 20000 open0).Clear .a ⟨0, 0⟩ ∧ ¬ (apart 20001 open0).Clear .a ⟨0, 0⟩) ∧ (∀ h, (apart 20000 open0).Steady h) ∧
      (((away open0).head .a).service = .outOfService ∧ ((away open0).head .a).window = [] ∧
        ((away open0).head .a).blade.idleTimer = none ∧ (away open0).job.state.isOpen = true ∧
        ((away open0).head .a).blade.st = .stopped ∧ (away idle0).job.state.isOpen = false) ∧
      (∀ h, (away open0).Steady h) ∧ (∀ h, (away idle0).Steady h) ∧ (NoOrphans open0 ∧ open0.zones.length = 16) ∧
      (1 < (2 : Byte).toNat ∧ open0.pending = [] ∧ (open0.link .cell).asm = .lead) :=
  ⟨by decide, ⟨by unfold State.Clear; decide, by unfold State.Clear; decide⟩, steady (by decide), by decide,
    steady (by decide), steady (by decide), ⟨by unfold NoOrphans; decide, by decide⟩, by decide⟩

/-! ### Witnesses: what every step keeps -/

/-- Head A cuts and its DONE waits in the queue: one state that meets every invariant and has a next. -/
def run0 : State := { cut0 with pending := [.done (.head .a) 1] }

theorem witness_run0_steps : ∃ t, step run0 = .next t ∧ t.pieces ≠ run0.pieces := ⟨_, rfl, by decide +kernel⟩

theorem steady_run0 : ∀ h, run0.Steady h := steady (by decide)

theorem witness_GantriesStayApart : ClearanceKept run0 := by
  refine ⟨by unfold GantriesApart; decide, fun h => absurd h (by decide), both ⟨?_, ?_, ?_⟩ ⟨?_, ?_, ?_⟩⟩
  · unfold Head.ClaimIsHull; decide
  · exact ⟨fun w hw => by obtain rfl := List.mem_singleton.mp hw; exact ⟨by decide, by decide⟩, fun e he => nomatch he⟩
  · exact fun h => absurd h (by decide)
  · unfold Head.ClaimIsHull; decide
  · exact ⟨fun w hw => (nomatch hw), fun e he => nomatch he⟩
  · exact fun h => absurd h (by decide)

theorem witness_ZonesStayWithinNeedAndBudget : WithinBudget run0 ∧ OnZonesNeeded run0 ∧ ∀ h, run0.LapseRunsWhenHeld h :=
  ⟨by unfold WithinBudget; decide, ⟨fun h => absurd h (by decide), by decide, by decide⟩, fun h => (steady_run0 h).2.2.2.2⟩

theorem witness_SupervisionIsKept : SupervisionKept run0 :=
  ⟨fun h => absurd h (by decide), fun h => ⟨(steady_run0 h).1, (steady_run0 h).2.1, (steady_run0 h).2.2.1⟩⟩

theorem witness_BladesFollowTheirDemand :
    (∀ h, run0.DemandFollows h) ∧ (∀ h, (run0.head h).CommandedWhenOn) ∧ (∀ h, (run0.head h).blade.TrimInRange) ∧
      (∀ h, (run0.head h).RetriesWithinLimit) ∧ run0.SettingsInRange ∧ (∀ h, (run0.head h).RateInRange) ∧
      ∀ h, (run0.head h).CountsFollow :=
  ⟨fun h => (steady_run0 h).2.2.2.1, both (fun h => absurd h (by decide)) (fun h => absurd h (by decide)),
    both ⟨by decide, by decide⟩ ⟨by decide, by decide⟩, both (Nat.zero_le 3) (Nat.zero_le 3),
    ⟨by decide, by decide, by decide, by decide, by decide, ⟨by decide, by decide, by decide⟩, by decide, by decide, by decide⟩,
    both (fun _ => by decide) (fun _ => by decide),
    both ⟨fun h => absurd h (by decide), fun _ => by decide, fun _ h => absurd h (by decide)⟩
      ⟨fun _ => by decide, fun _ => by decide, fun _ _ => by decide⟩⟩

theorem witness_NumbersStayInOrder : (∀ h, (run0.head h).WithinCapacity) ∧ ∀ h, (run0.head h).InOrder :=
  ⟨both ⟨by decide, by decide⟩ ⟨by decide, by decide⟩,
    both ⟨by decide, by decide, by decide, by decide⟩ ⟨by decide, by decide, by decide, by decide⟩⟩

theorem witness_PieceTableIsKept : PieceTableKept run0 := by
  refine ⟨by decide, by decide, fun p hp => ?_⟩
  obtain rfl := List.mem_singleton.mp hp
  unfold Piece.Consistent
  decide

theorem witness_SettingsAndAttentionAreKept : run0.SettingsInRange ∧ AttentionKept run0 :=
  ⟨⟨by decide, by decide, by decide, by decide, by decide, ⟨by decide, by decide, by decide⟩, by decide, by decide, by decide⟩,
    both ⟨⟨by decide, by decide, by decide⟩, by decide, by decide, by decide⟩
      ⟨⟨by decide, by decide, by decide⟩, by decide, by decide, by decide⟩,
    ⟨by decide, by decide⟩, by decide, by decide⟩

end Sys2Proof.Tests
end

/-! PROOFS. SEGMENT on a head link: what the request does to the state, the eleven checks in the manual's words, and the
seventh of them (R24 to R36). -/

namespace Sys2Proof.Machine

/-! ### The request on its link -/

theorem State.answering_eq_replyWith_toLead (s : State) (l : LinkId) (type : Byte) (reply : Reply) :
    s.answering l type reply = (s.toLead l).replyWith l type reply := by
  simp [State.answering, State.replyWith, State.toLead, State.setLink, State.link]

theorem State.inFlight_replyWith (s : State) (l : LinkId) (type : Byte) (reply : Reply) :
    ((s.replyWith l type reply).link l).inFlight = some ⟨type, reply, false⟩ := by
  rw [State.link_replyWith_self]

theorem State.inFlight_answering (s : State) (l : LinkId) (type : Byte) (reply : Reply) :
    ((s.answering l type reply).link l).inFlight = some ⟨type, reply, false⟩ := by
  rw [State.answering_eq_replyWith_toLead, State.inFlight_replyWith]

theorem State.segmentReply_toLead (s : State) (l : LinkId) (h : HeadId) (r : SegmentReq) :
    (s.toLead l).segmentReply h r = s.segmentReply h r := rfl

/-- A SEGMENT on a head link that listens is taken by that head's queue (R24, R160). -/
theorem exec_segment_listens {s : State} {h : HeadId} (r : SegmentReq) (free : s.listens (.head h) = true) :
    exec (.segment (.head h) r) s =
      .next (((s.toLead (.head h)).segmentRequest h r).1.replyWith (.head h) 0x10
        ((s.toLead (.head h)).segmentRequest h r).2) :=
  congrArg Host.Outcome.next (State.serve_listens s (.head h) (.segment r) free)

/-- A SEGMENT that a check fails changes nothing but the link's buffer (R24). -/
theorem exec_segment_failed {s : State} {h : HeadId} {r : SegmentReq} {reply : Reply} (free : s.listens (.head h) = true)
    (fails : s.segmentReply h r = some reply) :
    exec (.segment (.head h) r) s = .next (s.answering (.head h) 0x10 reply) := by
  rw [exec_segment_listens r free, State.answering_eq_replyWith_toLead]
  simp only [State.segmentRequest, State.segmentReply_toLead, fails]

/-- What an accepted SEGMENT leaves, its link's buffer apart (R36). -/
def State.segmentAccepted (s : State) (h : HeadId) (g : Segment) : State :=
  State.closeEvent s (s.enqueue h g)

/-- A SEGMENT that no check fails joins the queue and is answered ACCEPTED (R36). -/
theorem exec_segment_passed {s : State} {h : HeadId} {r : SegmentReq} {k : SegKind} (free : s.listens (.head h) = true)
    (kind : segKindOf r.kind = some k) (passes : s.segmentReply h r = none) :
    ∃ content, exec (.segment (.head h) r) s =
      .next (((s.toLead (.head h)).segmentAccepted h (segmentOf r k)).replyWith (.head h) 0x10 (.accepted content)) := by
  rw [exec_segment_listens r free]
  simp only [State.segmentRequest, State.segmentReply_toLead, passes, kind, Option.getD_some]
  exact ⟨_, rfl⟩

/-- What a SEGMENT that its link takes can do: a check fails and the link answers it, or the head takes the segment. -/
theorem exec_segment_cases {s t : State} {h : HeadId} {r : SegmentReq} {k : SegKind} (free : s.listens (.head h) = true)
    (kind : segKindOf r.kind = some k) (ran : exec (.segment (.head h) r) s = .next t) :
    (∃ reply, s.segmentReply h r = some reply ∧ t = s.answering (.head h) 0x10 reply) ∨
      (s.segmentReply h r = none ∧ ∃ content,
        t = ((s.toLead (.head h)).segmentAccepted h (segmentOf r k)).replyWith (.head h) 0x10 (.accepted content)) := by
  cases checks : s.segmentReply h r with
  | some reply =>
    rw [exec_segment_failed free checks] at ran
    exact .inl ⟨reply, rfl, (Host.Outcome.next.inj ran).symm⟩
  | none =>
    obtain ⟨content, passed⟩ := exec_segment_passed free kind checks
    rw [passed] at ran
    exact .inr ⟨rfl, content, (Host.Outcome.next.inj ran).symm⟩

theorem State.enqueue_head_ref (s : State) (h : HeadId) (g : Segment) :
    ((s.enqueue h g).head h).ref = g.reference := by
  simp [State.enqueue, Head.enqueue]

theorem State.enqueue_head_queue (s : State) (h : HeadId) (g : Segment) :
    ((s.enqueue h g).head h).queue = (s.head h).queue ++ [(s.head h).entryOf g] := by
  simp [State.enqueue, Head.enqueue]

theorem State.segmentAccepted_head_ref (s : State) (h : HeadId) (g : Segment) :
    ((s.segmentAccepted h g).head h).ref = g.reference := by
  simp [State.segmentAccepted, State.enqueue_head_ref]

theorem State.segmentAccepted_head_queue (s : State) (h : HeadId) (g : Segment) :
    ((s.segmentAccepted h g).head h).queue = (s.head h).queue ++ [(s.head h).entryOf g] := by
  simp [State.segmentAccepted, State.enqueue_head_queue]

/-! ### The checks in the manual's words -/

@[simp] theorem firstReply_none_cons (rs : List (Option Reply)) : firstReply (none :: rs) = firstReply rs := rfl
@[simp] theorem firstReply_some_cons (reply : Reply) (rs : List (Option Reply)) :
    firstReply (some reply :: rs) = some reply := rfl

theorem mem_of_firstReply {rs : List (Option Reply)} {reply : Reply} (first : firstReply rs = some reply) :
    some reply ∈ rs := by
  obtain ⟨found, inList, eq⟩ := List.exists_of_findSome?_eq_some first
  exact eq ▸ inList

theorem Segment.isArc_iff (g : Segment) : g.kind.isArc = true ↔ g.Arc := by
  unfold Segment.Arc
  cases g.kind <;> simp [SegKind.isArc]

theorem Segment.isArc_eq_false_iff (g : Segment) : g.kind.isArc = false ↔ ¬ g.Arc := by
  rw [← g.isArc_iff, Bool.not_eq_true]

/-- Check 1 passes (R25). -/
theorem State.segCheck1_of_taken {s : State} {h : HeadId} {g : Segment} (taken : s.SegTaken h g) :
    s.segCheck1 h = none := by
  obtain ⟨cutting, service, -⟩ := taken
  simp [State.segCheck1, cutting, Head.inService, service]

/-- Check 2 passes: a number of two bytes is never the 65536 of an exhausted sequence (R26). -/
theorem State.segCheck2_of_taken {s : State} {h : HeadId} {r : SegmentReq} {k : SegKind}
    (taken : s.SegTaken h (segmentOf r k)) : (s.head h).segCheck2 r.number.toNat = none := by
  obtain ⟨-, -, next, positive, -⟩ := taken
  have next : r.number.toNat = (s.head h).nextSeq := next
  have positive : 1 ≤ r.number.toNat := positive
  have small := r.number.isLt
  have nonzero : r.number.toNat ≠ 0 := by omega
  have notSpent : (s.head h).nextSeq ≠ 65536 := by omega
  rw [Head.segCheck2, if_neg nonzero, if_neg notSpent, if_neg (by omega), if_neg (by omega)]

/-- Check 3 passes (R27). -/
theorem State.segCheck3_of_taken {s : State} {h : HeadId} {g : Segment} (taken : s.SegTaken h g) :
    (s.head h).segCheck3 = none := by
  obtain ⟨-, -, -, -, room⟩ := taken
  exact if_neg (Nat.not_le.mpr room)

/-- An arc has a radius of its own, the other kinds have none (R28). -/
theorem radius_of_inRanges {r : SegmentReq} {k : SegKind} (ranges : (segmentOf r k).InRanges) :
    (if k.isArc then decide (r.radius.getD 0 = 0) else r.radius.isSome) = false := by
  have arcRadius (given : ∃ x ∈ r.radius.map BitVec.toNat, 1 ≤ x) : decide (r.radius.getD 0 = 0) = false := by
    obtain ⟨x, some_x, positive⟩ := given
    obtain ⟨v, some_v, rfl⟩ := Option.map_eq_some_iff.mp some_x
    rw [some_v, Option.getD_some]
    exact decide_eq_false (by rintro rfl; exact absurd positive (by decide))
  have noRadius (absent : r.radius.map BitVec.toNat = none) : r.radius.isSome = false := by
    rw [Option.map_eq_none_iff.mp absent, Option.isSome_none]
  cases k with
  | line => exact noRadius ranges.1
  | arcCw => exact arcRadius ranges.1
  | arcCcw => exact arcRadius ranges.1
  | air => exact noRadius ranges.1

/-- No field lies outside its own range (R28). -/
theorem segFieldsBad_of_inRanges {r : SegmentReq} {k : SegKind} (kind : segKindOf r.kind = some k)
    (ranges : (segmentOf r k).InRanges) : segFieldsBad r = false := by
  have radius := radius_of_inRanges ranges
  obtain ⟨-, entry, exit, length, span, tags, -⟩ := ranges
  simp only [segmentOf] at entry exit length span
  have tagsGood : (r.tags.any fun t => badPieceId t.toNat) = false := by
    rw [List.any_eq_false]
    intro t inTags
    obtain ⟨low, high⟩ := tags t.toNat (List.mem_map_of_mem inTags)
    simp [badPieceId, Nat.ne_of_gt low, high]
  have long : r.length ≠ 0 := by rintro zero; exact absurd length (by rw [zero]; decide)
  simp only [segFieldsBad, kind, radius, tagsGood, Bool.false_or, Bool.or_false, Bool.or_eq_false_iff,
    decide_eq_false_iff_not]
  exact ⟨⟨⟨Nat.not_lt.mpr entry, Nat.not_lt.mpr exit⟩, long⟩, Nat.not_lt.mpr span⟩

/-- Check 4 passes (R28). -/
theorem segCheck4_of_inRanges {r : SegmentReq} {k : SegKind} (kind : segKindOf r.kind = some k)
    (ranges : (segmentOf r k).InRanges) : segCheck4 r = none := by
  have fields := segFieldsBad_of_inRanges kind ranges
  obtain ⟨-, -, -, -, span, -, firstX, firstY, lastX, lastY, xhi⟩ := ranges
  simp only [segmentOf] at span firstX firstY lastX lastY xhi
  simp [segCheck4, fields, inBed, Config.bedX, Config.bedY, firstX, firstY, lastX, lastY, Nat.not_lt.mpr xhi,
    Nat.not_lt.mpr (span.trans xhi)]

/-- Check 5 passes (R29). -/
theorem Head.segCheck5_of_placed {hd : Head} {g : Segment} (placed : hd.SegPlaced g) : hd.segCheck5 g = none :=
  if_pos placed.1

/-- Check 6 passes (R30). -/
theorem Head.segCheck6_of_placed {hd : Head} {g : Segment} (placed : hd.SegPlaced g) : segCheck6 g = none := by
  obtain ⟨-, onArc, offArc⟩ := placed
  cases arc : g.kind.isArc with
  | true =>
    obtain ⟨firstLo, firstHi, lastLo, lastHi, wide⟩ := onArc (g.isArc_iff.mp arc)
    simp [segCheck6, arc, firstLo, firstHi, lastLo, lastHi, wide]
  | false =>
    obtain ⟨lo, hi⟩ := offArc (g.isArc_eq_false_iff.mp arc)
    simp [segCheck6, arc, ← lo, ← hi]

/-- Check 7 passes: an arc's headings are taken as given, and the other kinds keep one (R31). -/
theorem segCheck7_of_oneHeading {g : Segment} (one : g.OneHeading) : segCheck7 g = none :=
  if_neg fun ⟨notArc, differ⟩ => differ (one (g.isArc_eq_false_iff.mp notArc))

/-- Check 7 fails (R31). -/
theorem segCheck7_of_not_oneHeading {g : Segment} (two : ¬ g.OneHeading) :
    segCheck7 g = some (.refused .headingMismatch .none) := by
  obtain ⟨notArc, differ⟩ := Classical.not_imp.mp two
  exact if_pos ⟨g.isArc_eq_false_iff.mpr notArc, differ⟩

/-! ### The checks after the seventh -/

/-- A refusal for another reason than the headings (Table 11-3). -/
def Reply.RefusesOtherwise (reply : Reply) : Prop :=
  ∃ reason d, reply = .refused reason d ∧ reason ≠ .headingMismatch

theorem segCheck8_refusesOtherwise {g : Segment} {reply : Reply} (fails : segCheck8 g = some reply) :
    reply.RefusesOtherwise := by
  simp only [segCheck8, refuse, Option.ite_none_left_eq_some, Option.some.injEq] at fails
  exact ⟨_, _, fails.2.symm, by decide⟩

theorem Head.segCheck9_refusesOtherwise {hd : Head} {g : Segment} {reply : Reply} (fails : hd.segCheck9 g = some reply) :
    reply.RefusesOtherwise := by
  simp only [Head.segCheck9, refuse, Option.ite_none_right_eq_some, Option.some.injEq] at fails
  exact ⟨_, _, fails.2.symm, by decide⟩

theorem Head.segCheck10_refusesOtherwise {hd : Head} {g : Segment} {reply : Reply}
    (fails : hd.segCheck10 g = some reply) : reply.RefusesOtherwise := by
  simp only [Head.segCheck10, Option.ite_none_right_eq_some, Option.some.injEq] at fails
  exact ⟨_, _, fails.2.symm, by decide⟩

theorem State.tagRefusal_refusesOtherwise {s : State} {tag : Nat} {reply : Reply}
    (fails : s.tagRefusal tag = some reply) : reply.RefusesOtherwise := by
  unfold State.tagRefusal at fails
  split at fails
  next => exact ⟨_, _, (Option.some.inj fails).symm, by decide⟩
  next =>
    rw [Option.ite_none_left_eq_some] at fails
    exact ⟨_, _, (Option.some.inj fails.2).symm, by decide⟩

theorem State.segCheck11_refusesOtherwise {s : State} {g : Segment} {reply : Reply}
    (fails : s.segCheck11 g = some reply) : reply.RefusesOtherwise := by
  unfold State.segCheck11 at fails
  split at fails
  next => exact ⟨_, _, (Option.some.inj fails).symm, by decide⟩
  split at fails
  next => exact ⟨_, _, (Option.some.inj fails).symm, by decide⟩
  obtain ⟨tag, -, refused⟩ := List.exists_of_findSome?_eq_some fails
  exact State.tagRefusal_refusesOtherwise refused

/-! ### The joint turn -/

/-- The magnitude that the part works out is that of the turn brought into −1800 to +1799 (R34). -/
theorem turnMagnitude_eq_natAbs {entry exit : Nat} (entryFits : entry ≤ 3599) (exitFits : exit ≤ 3599) :
    ∃ delta : Int, -1800 ≤ delta ∧ delta ≤ 1799 ∧ (3600 : Int) ∣ (entry : Int) - exit - delta ∧
      turnMagnitude entry exit = delta.natAbs := by
  by_cases half : (entry + 3600 - exit) % 3600 ≤ 1799
  · refine ⟨((entry + 3600 - exit) % 3600 : Nat), ?_⟩
    rw [turnMagnitude, if_pos half]
    omega
  · refine ⟨((entry + 3600 - exit) % 3600 : Nat) - 3600, ?_⟩
    rw [turnMagnitude, if_neg half]
    omega

/-- The entry of a jointed segment carries the magnitude of its joint turn (R20, R34). -/
theorem Head.turn_entryOf {hd : Head} {g : Segment} (entryFits : g.entry ≤ 3599) (refFits : hd.ref.heading.getD 0 ≤ 3599)
    (jointed : hd.Jointed g) : ∃ delta, hd.Turns g delta ∧ (hd.entryOf g).turn = delta.natAbs := by
  obtain ⟨notAir, cutting⟩ := jointed
  obtain ⟨delta, low, high, turns, magnitude⟩ := turnMagnitude_eq_natAbs entryFits refFits
  exact ⟨delta, ⟨low, high, turns⟩, by simpa [Head.entryOf, Head.joint, notAir, cutting] using magnitude⟩

/-! ### A segment that the first six checks pass -/

section Placed

variable {s : State} {h : HeadId} {r : SegmentReq} {k : SegKind} (kind : segKindOf r.kind = some k)
  (taken : s.SegTaken h (segmentOf r k)) (ranges : (segmentOf r k).InRanges)
  (placed : (s.head h).SegPlaced (segmentOf r k))

include kind taken ranges placed

/-- It is answered by the first of the other checks that fails (R24 to R30). -/
theorem State.segmentReply_of_placed :
    s.segmentReply h r = firstReply [segCheck7 (segmentOf r k), segCheck8 (segmentOf r k),
      (s.head h).segCheck9 (segmentOf r k), (s.head h).segCheck10 (segmentOf r k), s.segCheck11 (segmentOf r k)] := by
  simp only [State.segmentReply, kind, Option.getD_some, State.segCheck1_of_taken taken, State.segCheck2_of_taken taken,
    State.segCheck3_of_taken taken, segCheck4_of_inRanges kind ranges, Head.segCheck5_of_placed placed,
    Head.segCheck6_of_placed placed, firstReply_none_cons]

/-- Two headings are answered before anything that the later checks would find (R31). -/
theorem State.segmentReply_of_not_oneHeading (two : ¬ (segmentOf r k).OneHeading) :
    s.segmentReply h r = some (.refused .headingMismatch .none) := by
  rw [State.segmentReply_of_placed kind taken ranges placed, segCheck7_of_not_oneHeading two, firstReply_some_cons]

/-- With one heading it is not refused for its headings, whatever else is wrong with it (R31 to R35). -/
theorem State.segmentReply_refusesOtherwise {reply : Reply} (one : (segmentOf r k).OneHeading)
    (fails : s.segmentReply h r = some reply) : reply.RefusesOtherwise := by
  rw [State.segmentReply_of_placed kind taken ranges placed, segCheck7_of_oneHeading one, firstReply_none_cons] at fails
  have failed := mem_of_firstReply fails
  simp only [List.mem_cons, List.not_mem_nil, or_false] at failed
  obtain eighth | ninth | tenth | eleventh := failed
  · exact segCheck8_refusesOtherwise eighth.symm
  · exact Head.segCheck9_refusesOtherwise ninth.symm
  · exact Head.segCheck10_refusesOtherwise tenth.symm
  · exact State.segCheck11_refusesOtherwise eleventh.symm

/-- Each check after the sixth that fails answers REFUSED (R31 to R35). -/
theorem State.segmentReply_refuses {reply : Reply} (fails : s.segmentReply h r = some reply) :
    ∃ reason d, reply = .refused reason d := by
  by_cases one : (segmentOf r k).OneHeading
  · obtain ⟨reason, d, refused, -⟩ := State.segmentReply_refusesOtherwise kind taken ranges placed one fails
    exact ⟨reason, d, refused⟩
  · rw [State.segmentReply_of_not_oneHeading kind taken ranges placed one] at fails
    exact ⟨_, _, (Option.some.inj fails).symm⟩

/-- Where its link holds an ACCEPTED reply it has joined its head's queue (R36). -/
theorem exec_segment_accepted_head {t : State} {content : Content} (free : s.listens (.head h) = true)
    (ran : exec (.segment (.head h) r) s = .next t)
    (flight : (t.link (.head h)).inFlight = some ⟨0x10, .accepted content, false⟩) :
    (t.head h).ref = (segmentOf r k).reference ∧
      (t.head h).queue = (s.head h).queue ++ [(s.head h).entryOf (segmentOf r k)] := by
  obtain ⟨reply, fails, rfl⟩ | ⟨-, _, rfl⟩ := exec_segment_cases free kind ran
  · obtain ⟨reason, d, rfl⟩ := State.segmentReply_refuses kind taken ranges placed fails
    simp [State.inFlight_answering] at flight
  · simp [State.segmentAccepted_head_ref, State.segmentAccepted_head_queue]

end Placed

/-! ### Check 7 -/

/-- Check 7 in the request's own fields (R31). -/
theorem segmentOf_oneHeading_iff (r : SegmentReq) (k : SegKind) :
    (segmentOf r k).OneHeading ↔ k = .arcCw ∨ k = .arcCcw ∨ r.entry = r.exit := by
  have same : (segmentOf r k).entry = (segmentOf r k).exit ↔ r.entry = r.exit := BitVec.toNat_inj
  rw [Segment.OneHeading, same, ← or_iff_not_imp_left, Segment.Arc, or_assoc]
  rfl

/-- Settles O27: after the first six checks the seventh alone refuses for the headings, and a segment answered ACCEPTED
has joined the queue, with its exit heading as the new reference and the turn from the old one in its entry. -/
theorem headingsMustAgree : Obligations.HeadingsMustAgree := by
  intro s h r k free kind g taken ranges placed
  have oneHeading := segmentOf_oneHeading_iff r k
  refine ⟨fun notArc differ => ?mismatch, fun agree t d ran flight => ?others,
    fun t content refFits ran flight => ?accepted⟩
  case mismatch =>
    have two : ¬ g.OneHeading := by
      rw [oneHeading]
      rintro (rfl | rfl | same)
      · simp at notArc
      · simp at notArc
      · exact differ same
    exact exec_segment_failed free (State.segmentReply_of_not_oneHeading kind taken ranges placed two)
  case others =>
    obtain ⟨reply, fails, rfl⟩ | ⟨-, content, rfl⟩ := exec_segment_cases free kind ran
    · obtain ⟨reason, detail, rfl, otherwise⟩ :=
        State.segmentReply_refusesOtherwise kind taken ranges placed (oneHeading.mpr agree) fails
      simp [State.inFlight_answering, otherwise] at flight
    · simp [State.inFlight_replyWith] at flight
  case accepted =>
    obtain ⟨ref, queue⟩ := exec_segment_accepted_head kind taken ranges placed free ran flight
    obtain ⟨-, entryFits, -⟩ := ranges
    refine ⟨by rw [ref]; rfl, fun jointed => ?_⟩
    obtain ⟨delta, turns, magnitude⟩ := Head.turn_entryOf entryFits refFits jointed
    exact ⟨_, delta, by rw [queue, List.getLast?_concat], turns, magnitude⟩

end Sys2Proof.Machine

/-! PROOFS. The feed governor's results: what each kind of segment is given, how far each stage may go, and the ranges of a
grant (R44 to R58). -/

namespace Sys2Proof.Machine

/-! ### Division rounded up -/

theorem ceilDiv_le_iff {n d k : Nat} (pos : 0 < d) : ceilDiv n d ≤ k ↔ n ≤ d * k := by
  rw [ceilDiv, ← Nat.ceilDiv_eq_add_pred_div, ceilDiv_le_iff_le_mul pos]

theorem ceilDiv_pos {n d : Nat} (nonzero : 0 < n) (pos : 0 < d) : 0 < ceilDiv n d := by
  by_contra zero
  rw [not_lt, ceilDiv_le_iff pos] at zero
  omega

/-! ### The ranges of the cut parameters -/

@[simp] theorem within_iff {lo hi n : Nat} : within lo hi n = true ↔ lo ≤ n ∧ n ≤ hi := by
  simp [within]

/-- The bounds of Table 3-1 that the ranges of a grant rest on (R43). -/
theorem CutParams.inRange_bounds {p : CutParams} (ranged : p.inRange = true) :
    20 ≤ p.pMin ∧ p.pMin ≤ p.pMax ∧ 100 ≤ p.fMax ∧ 100 ≤ p.fAir ∧ p.maxTurn ≤ 1700 ∧ p.pivot ≤ 100 ∧ 200 ≤ p.grace := by
  simp only [CutParams.inRange, Bool.and_eq_true, within_iff, decide_eq_true_eq] at ranged
  omega

/-! ### The pitch stages -/

/-- Each pitch stage multiplies by a fraction of at most one. -/
theorem mul_div_le_of_num_le_den {num den : Nat} (fraction : num ≤ den) (pitch : Nat) : pitch * num / den ≤ pitch :=
  Nat.div_le_of_le_mul (by rw [Nat.mul_comm]; exact Nat.mul_le_mul_right pitch fraction)

/-- The stack only takes pitch away (R47). -/
theorem stackPitch_le (p : CutParams) (n : Nat) : stackPitch p n ≤ p.pMax :=
  mul_div_le_of_num_le_den (Nat.le_add_right 256 n) _

/-- An arc only takes pitch away (R48). -/
theorem curvedPitch_le (p : CutParams) (g : Segment) (p1 : Nat) : curvedPitch p g p1 ≤ p1 := by
  have derated (r : Nat) : p1 * r / (r + 4 * p.w) ≤ p1 :=
    mul_div_le_of_num_le_den (Nat.le_add_right r _) p1
  unfold curvedPitch
  cases g.kind with
  | line => exact le_rfl
  | air => exact le_rfl
  | arcCw => exact derated _
  | arcCcw => exact derated _

/-- A trim of at most sixteen sixteenths only takes pitch away (R49). -/
theorem trimmedPitch_le {trim : Nat} (trimFits : trim ≤ 16) (p2 : Nat) : trimmedPitch trim p2 ≤ p2 :=
  mul_div_le_of_num_le_den trimFits p2

/-- The pitch P3 of a cutting grant after the floor stage (R46 to R50). -/
def flooredPitch (j : Job) (p : CutParams) (trim : Nat) (g : Segment) : Nat :=
  max p.pMin (trimmedPitch trim (curvedPitch p g (stackPitch p j.index)))

theorem pMin_le_flooredPitch (j : Job) (p : CutParams) (trim : Nat) (g : Segment) : p.pMin ≤ flooredPitch j p trim g :=
  le_max_left _ _

/-- No stage lifts the pitch above the head's largest (R50). -/
theorem flooredPitch_le_pMax (j : Job) {p : CutParams} {trim : Nat} (g : Segment) (ordered : p.pMin ≤ p.pMax)
    (trimFits : trim ≤ 16) : flooredPitch j p trim g ≤ p.pMax :=
  max_le ordered <|
    calc trimmedPitch trim (curvedPitch p g (stackPitch p j.index))
        ≤ curvedPitch p g (stackPitch p j.index) := trimmedPitch_le trimFits _
      _ ≤ stackPitch p j.index := curvedPitch_le p g _
      _ ≤ p.pMax := stackPitch_le p _

/-- The least permitted pitch at the least cutting rate feeds at 12 mm/min (R51). -/
theorem twelve_le_rawFeed {fCut p3 : Nat} (pitch : 20 ≤ p3) (rate : 600 ≤ fCut) : 12 ≤ rawFeed fCut p3 := by
  rw [rawFeed, Nat.le_div_iff_mul_le (by decide)]
  calc 12 * 1000 = 20 * 600 := by decide
    _ ≤ p3 * fCut := Nat.mul_le_mul pitch rate

/-! ### The results -/

theorem govern_feed_of_air {e : Entry} (air : e.seg.kind = .air) (j : Job) (p : CutParams) (fCut trim : Nat) :
    (govern j p fCut trim e).feed = p.fAir := by
  rw [govern, if_pos air]

/-- The floor's and the ceiling's clamps are a maximum and a minimum (R50, R51). -/
theorem govern_feed_of_cutting {e : Entry} (cuts : e.seg.kind ≠ .air) (j : Job) (p : CutParams) (fCut trim : Nat) :
    (govern j p fCut trim e).feed = max 1 (min p.fMax (rawFeed fCut (flooredPitch j p trim e.seg))) := by
  have floor (p3 : Nat) : (if p3 < p.pMin then p.pMin else p3) = max p.pMin p3 := by split <;> omega
  have ceiling (f : Nat) : (if p.fMax < f then p.fMax else f) = min p.fMax f := by split <;> omega
  have least (f : Nat) : (if f = 0 then 1 else f) = max 1 f := by split <;> omega
  rw [govern, if_neg cuts]
  simp only [decide_eq_true_eq, floor, ceiling, least, flooredPitch]

theorem pivotTime_of_air {e : Entry} (air : e.seg.kind = .air) (p : CutParams) : pivotTime p e = 0 := by
  unfold pivotTime
  cases e.joint with
  | pivot => exact if_pos air
  | smooth => rfl
  | free => rfl

/-- Every kind of segment is timed at the feed it was given (R53). -/
theorem govern_expected (j : Job) (p : CutParams) (fCut trim : Nat) (e : Entry) :
    (govern j p fCut trim e).expected = expectedTime e.seg.length (govern j p fCut trim e).feed := by
  by_cases air : e.seg.kind = .air
  · rw [govern, if_pos air]
  · rw [govern, if_neg air]

/-- Every kind of segment is allowed for by one rule, an AIR segment's pivot time being 0 (R54, R55). -/
theorem govern_allowance (j : Job) (p : CutParams) (fCut trim : Nat) (e : Entry) :
    (govern j p fCut trim e).allowance = allowanceOf p (govern j p fCut trim e).expected (pivotTime p e) := by
  by_cases air : e.seg.kind = .air
  · rw [pivotTime_of_air air, govern, if_pos air]
  · rw [govern, if_neg air]

/-! ### The times -/

/-- A feed of at least `least` gives a segment an expected time of at least 1 ms, and of at most that of the longest segment
at `least` (R53). -/
theorem expectedTime_bounds {length feed least most : Nat} (long : 1 ≤ length) (fits : length ≤ 65535) (pos : 0 < least)
    (fast : least ≤ feed) (longest : 393210000 ≤ least * most) :
    1 ≤ expectedTime length feed ∧ expectedTime length feed ≤ most := by
  have feedPos : 0 < feed := pos.trans_le fast
  refine ⟨ceilDiv_pos (by omega) feedPos, (ceilDiv_le_iff feedPos).mpr ?_⟩
  calc length * 6000 ≤ 393210000 := by omega
    _ ≤ least * most := longest
    _ ≤ feed * most := Nat.mul_le_mul_right _ fast

/-- The sharpest turn at the slowest pivot takes 17 s (R54). -/
theorem pivotTime_le {p : CutParams} {e : Entry} (maxTurn : p.maxTurn ≤ 1700) (pivot : p.pivot ≤ 100)
    (turnFits : e.joint = .pivot → e.turn ≤ p.maxTurn) : pivotTime p e ≤ 17000 := by
  unfold pivotTime
  cases joint : e.joint with
  | smooth => exact Nat.zero_le _
  | free => exact Nat.zero_le _
  | pivot =>
    have turn : e.turn * p.pivot ≤ 1700 * 100 := Nat.mul_le_mul ((turnFits joint).trans maxTurn) pivot
    dsimp only
    split
    · exact Nat.zero_le _
    · exact (ceilDiv_le_iff (by decide)).mpr turn

/-- The grace and the doubled expected time alone make 202 ms; the cap is 600 s (R55). -/
theorem allowanceOf_bounds {p : CutParams} {expected : Nat} (grace : 200 ≤ p.grace) (timed : 1 ≤ expected) (pivot : Nat) :
    202 ≤ allowanceOf p expected pivot ∧ allowanceOf p expected pivot ≤ 600000 := by
  unfold allowanceOf
  omega

/-! ### The ranges of a grant -/

/-- The clamp at 1 does not act with permitted values (R51). -/
theorem govern_feed_of_inRange {p : CutParams} {fCut : Nat} {e : Entry} (ranged : p.inRange = true) (rate : 600 ≤ fCut)
    (cuts : e.seg.kind ≠ .air) (j : Job) (trim : Nat) :
    (govern j p fCut trim e).feed = min p.fMax (rawFeed fCut (flooredPitch j p trim e.seg)) ∧
      12 ≤ (govern j p fCut trim e).feed := by
  obtain ⟨pMin, -, fMax, -⟩ := p.inRange_bounds ranged
  have raw := twelve_le_rawFeed (pMin.trans (pMin_le_flooredPitch j p trim e.seg)) rate
  rw [govern_feed_of_cutting cuts]
  omega

/-- Settles O31: the pitch stages never leave P_min to P_max, so a cutting feed is at least 12, as an AIR feed is at least
100; each bounds the expected time from above, and with it the allowance follows for both kinds. -/
theorem governorRanges : Obligations.GovernorRanges := by
  intro j p fCut trim e ranged rate _ _ trimFits long fits turnFits r
  obtain ⟨-, ordered, -, fAir, maxTurn, pivot, grace⟩ := p.inRange_bounds ranged
  have cutting (cuts : e.seg.kind ≠ .air) := govern_feed_of_inRange ranged rate cuts j trim
  have cutTime (cuts : e.seg.kind ≠ .air) : 1 ≤ r.expected ∧ r.expected ≤ 32767500 := by
    rw [govern_expected]
    exact expectedTime_bounds long fits (by decide) (cutting cuts).2 (by decide)
  have airTime (air : e.seg.kind = .air) : 1 ≤ r.expected ∧ r.expected ≤ 3932100 := by
    rw [govern_expected, govern_feed_of_air air]
    exact expectedTime_bounds long fits (by decide) fAir (by decide)
  have timed : 1 ≤ r.expected := by
    by_cases air : e.seg.kind = .air
    · exact (airTime air).1
    · exact (cutTime air).1
  refine ⟨fun cuts => ?cut, fun air => ?air, ?allowance⟩
  case cut =>
    obtain ⟨feed, least⟩ := cutting cuts
    exact ⟨⟨flooredPitch j p trim e.seg, pMin_le_flooredPitch j p trim e.seg,
      flooredPitch_le_pMax j e.seg ordered trimFits, feed⟩, least, feed.trans_le (min_le_left _ _), (cutTime cuts).1,
      (cutTime cuts).2, pivotTime_le maxTurn pivot turnFits⟩
  case air =>
    exact ⟨govern_feed_of_air air j p fCut trim, (airTime air).1, (airTime air).2, pivotTime_of_air air p⟩
  case allowance =>
    rw [govern_allowance]
    exact allowanceOf_bounds grace timed _

end Sys2Proof.Machine

/-! PROOFS. What one step can do, said once: the parts of every command as relations between the state before and after. A
command is a request taken (`Answered`), something on a line, a reset, or a chain of what time brings (`Tick`). -/

namespace Sys2Proof.Machine

/-! ### What an event does before it closes -/

/-- The preparations of a GRANT that has passed its stop checks: none for an AIR segment (R68, R69). -/
def State.preparedFor (s : State) (h : HeadId) (e : Entry) : State × WaitSet :=
  match e.zones with
  | none => (s, WaitSet.empty)
  | some r => s.prepare h r

/-- The segment a SEGMENT request submits. -/
def submitted (r : SegmentReq) : Segment := segmentOf r ((segKindOf r.kind).getD .line)

/-- A request accepted in state `s` whose body leaves `b`, before the event closes. -/
inductive RequestWork (s : State) : State → Prop
  | segment (h : HeadId) (r : SegmentReq) (passes : s.segmentReply h r = none) : RequestWork s (s.enqueue h (submitted r))
  | flush (h : HeadId) (serves : (s.head h).inService = true) (work : (s.head h).queue ≠ []) : RequestWork s (s.flush h)
  | grant (h : HeadId) (e : Entry) (stop : s.grantStop h = .passes e)
      (clear : (s.grantTaken h).clearFor h (((s.grantTaken h).head h).claimWith e) = true)
      (ready : ((s.grantTaken h).preparedFor h e).2 = WaitSet.empty) :
      RequestWork s (((s.grantTaken h).preparedFor h e).1.grant h e)
  | prepare (h : HeadId) (e : Entry) (stop : s.grantStop h = .passes e)
      (lacks : ((s.grantTaken h).preparedFor h e).2 ≠ WaitSet.empty) :
      RequestWork s (((s.grantTaken h).preparedFor h e).1.reevaluate.setWatch h ((s.grantTaken h).preparedFor h e).2 e.zones)
  | done (h : HeadId) (w : WinEntry) (rest : List WinEntry) (oldest : (s.head h).window = w :: rest) :
      RequestWork s (s.complete h w)
  | blockLoad (layers : List Layer) (label : Option Long) (fits : s.blockLoadRefusal layers = none) :
      RequestWork s (s.blockLoad layers label)
  | openJob (a b : Point) (fits : s.openRefusal a b = none) : RequestWork s (s.openJob a b)
  | drain (job : s.job.state = .cutting) (idle : s.workless = true) : RequestWork s s.drain
  | close (job : s.job.state = .cutting) (busy : s.workless = false) : RequestWork s (s.setJobState .closing)
  | abort (job : s.job.state ≠ .idle) : RequestWork s s.abort
  | bedSet (separation : Nat) (a b : Point) (fits : s.bedSetRefusal separation a b = none) :
      RequestWork s (s.bedSet separation a b)
  | take (id : Nat) (fits : s.takeRefusal id = none) : RequestWork s (s.taken id)
  | release (h : HeadId) (p : Point) (fits : (s.head h).releaseRefusal p = none) : RequestWork s (s.release h p)
  | cellHold (on : Bool) (sel : Byte) (hs : List HeadId) (named : selectorOf sel = some hs) :
      RequestWork s (s.modSelected hs (Head.withCellHold on))
  | serviceOut (h : HeadId) (service : (s.head h).service = .inService) (fits : s.serviceOutRefusal h = none) :
      RequestWork s (s.serviceOut h)
  | serviceIn (h : HeadId) (service : (s.head h).service = .outOfService) (fits : s.serviceInRefusal h = none) :
      RequestWork s (s.serviceIn h)
  | faultClear (h : HeadId) (latched : (s.head h).blade.st = .faulted) :
      RequestWork s (s.modHead h fun hd => { hd with blade := hd.blade.clearFault hd.bladeParams })
  | zoneClear (k : Nat) (lt : k < 16) (fault : (s.zone k).st = .fault) : RequestWork s (s.zoneClear k)

/-- An expiry, a change of pressure or an accepted pulse in state `s` whose body leaves `b`, before the event closes. -/
inductive TimedWork (s : State) : State → Prop
  | suspend (h : HeadId) (counts : (s.head h).overdue.st = .counting) : TimedWork s (State.suspend h s)
  | endIdleDelay (h : HeadId) : TimedWork s (State.endIdleDelay h s)
  | endStopDelay (h : HeadId) : TimedWork s (State.endStopDelay h s)
  | endRetry (h : HeadId) : TimedWork s (State.endRetry h s)
  | loseStroke (h : HeadId) : TimedWork s (State.loseStroke h s)
  | lapse (h : HeadId) : TimedWork s (State.lapseRequest h s)
  | endMark (h : HeadId) : TimedWork s (State.endMark h s)
  | failZone (k : Nat) (pulls : (s.zone k).st = .pulling ∨ (s.zone k).st = .lost) : TimedWork s (State.failZone k s)
  | pressureGone (k : Nat) (good : (s.zone k).good = true) : TimedWork s (State.pressureGone k s)
  | pressureCome (k : Nat) (bad : (s.zone k).good = false) : TimedWork s (State.pressureCome k s)
  | pulse (h : HeadId) (samples : List Sample) (n noAvg noPeak : Nat) (runs : (s.head h).blade.st.accepts = true)
      (seen : ((s.head h).blade.addSamples samples).blanks = false) :
      TimedWork s
        (State.bladeNews h (({ s.head h with blade := (s.head h).blade.addSamples samples } : Head).pulseWork noAvg noPeak).2.ready
          (({ s.head h with blade := (s.head h).blade.addSamples samples } : Head).pulseWork noAvg noPeak).2.bladeFault
          (State.setBlade { s with free := n } h
            (({ s.head h with blade := (s.head h).blade.addSamples samples } : Head).pulseWork noAvg noPeak).1))

/-! ### What time brings -/

/-- One of the things a timer row, a pulse row or a pressure row is made of. -/
inductive Tick (s : State) : State → Prop
  | time (d : Nat) : Tick s (s.elapse d)
  | line (k : Nat) : Tick s (State.flipLine k s)
  | samples (h : HeadId) (samples : List Sample) : Tick s (s.setBlade h ((s.head h).blade.addSamples samples))
  | work {b : State} (w : TimedWork s b) : Tick s (State.closeEvent s b)

/-- A chain of ticks. -/
abbrev Ticks : State → State → Prop := Relation.ReflTransGen Tick

theorem Ticks.time (s : State) (d : Nat) : Ticks s (s.elapse d) := .single (.time d)

theorem State.expire_ticks {s : State} {left : Nat} {body : State → State}
    (works : TimedWork (s.elapse left) (body (s.elapse left))) : Ticks s (s.expire left body) :=
  (Ticks.time s left).tail (.work works)

theorem State.expireIf_ticks {s : State} {timer : Option Nat} {body : State → State}
    (works : ∀ left ∈ timer, TimedWork (s.elapse left) (body (s.elapse left))) : Ticks s (s.expireIf timer body) := by
  cases timer with
  | none => exact .refl
  | some left => exact State.expire_ticks (works left rfl)

theorem Overdue.left_isSome {o : Overdue} {left : Nat} (runs : left ∈ o.left) : o.st = .counting := by
  unfold Overdue.left at runs; split at runs <;> simp_all

theorem Overdue.elapse_st (d : Nat) (o : Overdue) : (o.elapse d).st = o.st := by
  unfold Overdue.elapse; split <;> rfl

theorem State.overdueExpiry_ticks (s : State) (h : HeadId) : Ticks s (s.overdueExpiry h) := by
  refine State.expireIf_ticks fun left runs => .suspend h ?_
  simpa [Head.elapse, Overdue.elapse_st] using Overdue.left_isSome runs

theorem State.strokeWatchExpiry_ticks (s : State) (h : HeadId) : Ticks s (s.strokeWatchExpiry h) :=
  State.expireIf_ticks fun _ _ => .loseStroke h

theorem State.markExpiry_ticks (s : State) : Ticks s s.markExpiry := by
  unfold State.markExpiry; split
  · exact .refl
  · exact State.expire_ticks (.endMark _)

theorem Zone.pullLeft_isSome {z : Zone} {left : Nat} (runs : left ∈ z.pullLeft) : z.st = .pulling ∨ z.st = .lost := by
  unfold Zone.pullLeft at runs; split at runs <;> simp_all

theorem State.pullTimeout_ticks (s : State) (k : Nat) : Ticks s (s.pullTimeout k) := by
  refine State.expireIf_ticks fun left runs => .failZone k ?_
  simpa only [State.zone_elapse_st] using Zone.pullLeft_isSome runs

theorem State.changeLevel_tick (k : Nat) (s : State) : Tick s (State.changeLevel k s) := by
  unfold State.changeLevel
  split
  · next good => exact .work (.pressureGone k good)
  · next bad => exact .work (.pressureCome k (Bool.eq_false_iff.mpr bad))

theorem State.reach_ticks (e : ZoneDeadline) (s : State) : Ticks s (State.reach e s) := by
  unfold State.reach; split
  · exact State.pullTimeout_ticks s _
  · exact (Ticks.time s _).tail (State.changeLevel_tick _ _)

theorem State.pass_ticks (d : Nat) (s : State) : Ticks s (State.pass d s) :=
  State.passBy_keeps (Ticks s) (fun _ d chain => chain.tail (.time d)) (fun _ e chain => chain.trans (State.reach_ticks e _)) _ d .refl

/-- A pressure row outside a hold is a chain of ticks (log 2, log 25). -/
theorem State.pressure_ticks (s : State) (k : Nat) (good : Bool) (edges : List Edge) : Ticks s (s.pressure k good edges) :=
  State.pressure_keeps (Ticks s) (fun _ d chain => chain.trans (State.pass_ticks d _))
    (fun _ j chain => chain.tail (State.changeLevel_tick j _)) (fun _ j chain => chain.tail (.line j)) k good edges .refl

theorem State.awaitPulse_ticks (h : HeadId) (fuel d : Nat) (s : State) : Ticks s (State.awaitPulse h fuel d s) := by
  induction fuel generalizing d s with
  | zero => exact Ticks.time s d
  | succ n ih =>
    rw [State.awaitPulse]
    split
    · exact Ticks.time s d
    · split
      · exact (State.strokeWatchExpiry_ticks s h).trans (ih _ _)
      · exact Ticks.time s d

/-- An index pulse is the time before it and then its own work (R110). -/
theorem State.pulse_ticks (s : State) (h : HeadId) (p : Pulse) : Ticks s (s.pulse h p) := by
  have before : Ticks s (s.beforePulse h p) := State.awaitPulse_ticks h _ _ s
  unfold State.pulse
  dsimp only
  split
  · exact before
  · next runs =>
    split
    · exact before.tail (.samples h p.samples)
    · next seen =>
      exact before.tail (.work (.pulse h p.samples _ _ _ (Bool.eq_true_of_not_eq_false runs) (Bool.eq_false_iff.mpr seen)))

theorem State.pulseThat_ticks (what : StrokeEvents → Bool) (s : State) (h : HeadId) (p : Pulse) :
    Ticks s (State.pulseThat what s h p) := by
  unfold State.pulseThat; split
  · exact State.pulse_ticks s h p
  · exact .refl

/-! ### What running a request does -/

/-- The state a request leaves, its reply apart. -/
inductive Answered (s : State) : State → Prop
  | same : Answered s s
  | attention (l : LinkId) : Answered s (s.emptyAttention l)
  | waits (h : HeadId) (reasons : WaitSet) (range : Option ZoneRange)
      (stands : reasons.headHeld = true → (s.head h).hold.beyondBlade = true) :
      Answered s ((s.grantTaken h).setWatch h reasons range)
  | classSet (cls coef : Nat) (job : s.job.state = .idle) :
      Answered s { s with job := { s.job with classes := s.job.classes.set cls (some coef) } }
  | cutSet (sel : Byte) (hs : List HeadId) (p : CutParams) (job : s.job.state = .idle) (named : selectorOf sel = some hs)
      (fits : p.inRange = true) : Answered s (s.modSelected hs fun hd => { hd with cut := p })
  | zoneSet (cfg : ZoneSettings) (fits : s.zoneSetRefusal cfg = none) : Answered s (s.zoneSet cfg)
  | bladeSet (sel : Byte) (hs : List HeadId) (p : BladeParams) (job : s.job.state = .idle) (named : selectorOf sel = some hs)
      (fits : p.inRange = true) : Answered s (s.modSelected hs fun hd => { hd with bladeParams := p })
  | guardSet (sel : Byte) (hs : List HeadId) (g : GuardSettings) (job : s.job.state = .idle)
      (named : selectorOf sel = some hs) (fits : g.inRange = true) : Answered s (s.modSelected hs (Head.guardSet g))
  | pieceDeclare (p : PieceReq) (fits : s.pieceDeclareRefusal p = none) : Answered s (s.pieceDeclared p)
  | work {b : State} (w : RequestWork s b) : Answered s (State.closeEvent s b)

theorem State.segmentRequest_answered (s : State) (h : HeadId) (r : SegmentReq) : Answered s (s.segmentRequest h r).1 := by
  unfold State.segmentRequest; split
  · exact .same
  · next passes => exact .work (.segment h r passes)

theorem State.flushRequest_answered (s : State) (h : HeadId) : Answered s (s.flushRequest h).1 := by
  unfold State.flushRequest
  dsimp only
  split
  · exact .same
  · next serves =>
    split
    · exact .same
    · next work => exact .work (.flush h (Bool.eq_true_of_not_eq_false serves) (by simpa using work))

/-- The wait of a stop check that is HEAD-HELD stands in the head's set (R66). -/
theorem State.grantStop_waits {s : State} {h : HeadId} {reasons : WaitSet} {n : Nat} {range : Option ZoneRange}
    (stop : s.grantStop h = .waits reasons n range) (held : reasons.headHeld = true) :
    (s.head h).hold.beyondBlade = true := by
  unfold State.grantStop at stop
  dsimp only at stop
  repeat' split at stop
  all_goals first
    | assumption
    | (cases stop; done)
    | (cases stop; simp [WaitSet.empty] at held)

theorem State.grantFor_eq (b s : State) (h : HeadId) (e : Entry) :
    State.grantFor b s h e =
      if s.clearFor h ((s.head h).claimWith e) = false then
        (s.setWatch h { WaitSet.empty with clearance := true } e.zones,
          .wait { WaitSet.empty with clearance := true } e.seg.number)
      else if (s.preparedFor h e).2 = WaitSet.empty then
        (State.closeEvent b ((s.preparedFor h e).1.grant h e),
          .accepted (.grant (grantRecord e ((s.preparedFor h e).1.governed h e))))
      else (State.closeEvent b ((s.preparedFor h e).1.reevaluate.setWatch h (s.preparedFor h e).2 e.zones),
        .wait (s.preparedFor h e).2 e.seg.number) := rfl

theorem State.grantRequest_answered (s : State) (h : HeadId) : Answered s (s.grantRequest h).1 := by
  unfold State.grantRequest
  split
  · exact .same
  · next stop => exact .waits h _ _ (State.grantStop_waits stop)
  · next e stop =>
    rw [State.grantFor_eq]
    split
    · exact .waits h _ _ (by simp [WaitSet.empty])
    · next clear =>
      split
      · next ready => exact .work (.grant h e stop (Bool.eq_true_of_not_eq_false clear) ready)
      · next lacks => exact .work (.prepare h e stop lacks)

theorem State.doneRequest_answered (s : State) (h : HeadId) (n : Half) : Answered s (s.doneRequest h n).1 := by
  unfold State.doneRequest; split
  · exact .same
  · split
    · exact .same
    · next w rest oldest => exact .work (.done h w rest oldest)

theorem State.cellHoldRequest_answered (s : State) (on : Bool) (sel : Byte) :
    Answered s (State.cellHoldRequest on s sel).1 := by
  unfold State.cellHoldRequest; split
  · exact .same
  · next hs named => exact .work (.cellHold on sel hs named)

theorem State.serviceHead_answered (s : State) (h : HeadId) (d : Service) : Answered s (s.serviceHead h d).1 := by
  unfold State.serviceHead
  split
  · exact .same
  · next differs =>
    cases d with
    | outOfService =>
      dsimp only
      split
      · exact .same
      · next fits => exact .work (.serviceOut h (by cases e : (s.head h).service <;> simp_all) fits)
    | inService =>
      dsimp only
      split
      · exact .same
      · next fits => exact .work (.serviceIn h (by cases e : (s.head h).service <;> simp_all) fits)

theorem State.closeRequest_answered (s : State) : Answered s s.closeRequest.1 := by
  unfold State.closeRequest
  split
  · exact .same
  · next job =>
    have cutting : s.job.state = .cutting := not_not.mp job
    dsimp only
    split
    · next idle => exact .work (.drain cutting idle)
    · next busy => exact .work (.close cutting (Bool.eq_false_iff.mpr busy))

theorem State.cutSetRequest_answered (s : State) (sel : Byte) (p : CutReq) : Answered s (s.cutSetRequest sel p).1 := by
  unfold State.cutSetRequest
  split
  · exact .same
  · next job =>
    split
    · exact .same
    · next hs named =>
      split
      · exact .same
      · next fits => exact .cutSet sel hs _ (not_not.mp job) named (Bool.eq_true_of_not_eq_false fits)

theorem State.bladeSetRequest_answered (s : State) (sel : Byte) (p : BladeReq) : Answered s (s.bladeSetRequest sel p).1 := by
  unfold State.bladeSetRequest
  split
  · exact .same
  · next job =>
    split
    · exact .same
    · next hs named =>
      split
      · exact .same
      · next fits => exact .bladeSet sel hs _ (not_not.mp job) named (Bool.eq_true_of_not_eq_false fits)

theorem State.guardSetRequest_answered (s : State) (sel : Byte) (p : GuardReq) : Answered s (s.guardSetRequest sel p).1 := by
  unfold State.guardSetRequest
  split
  · exact .same
  · next job =>
    split
    · next hs g named values =>
      exact .guardSet sel hs g (not_not.mp job) named (Option.filter_eq_some_iff.mp values).2
    · exact .same
    · exact .same

theorem State.zoneClearRequest_answered (s : State) (zone : Byte) : Answered s (s.zoneClearRequest zone).1 := by
  unfold State.zoneClearRequest
  split
  · exact .same
  · next lt =>
    have lt : zone.toNat < 16 := by omega
    split
    · exact .same
    · next fault =>
      have work : RequestWork s (s.zoneClear zone.toNat) := .zoneClear zone.toNat lt (not_not.mp fault)
      dsimp only
      exact .work work

theorem State.classSetRequest_answered (s : State) (cls coef : Byte) : Answered s (s.classSetRequest cls coef).1 := by
  unfold State.classSetRequest
  split
  · exact .same
  · next job =>
    split
    · exact .same
    · exact .classSet _ _ (not_not.mp job)

theorem State.faultClearRequest_answered (s : State) (head : Byte) : Answered s (s.faultClearRequest head).1 := by
  unfold State.faultClearRequest
  split
  · exact .same
  · next h _ =>
    split
    · exact .same
    · next latched => exact .work (.faultClear h (not_not.mp latched))

theorem State.serviceRequest_answered (s : State) (head direction : Byte) : Answered s (s.serviceRequest head direction).1 := by
  unfold State.serviceRequest
  split
  · exact State.serviceHead_answered s _ _
  · exact .same
  · exact .same

theorem State.releaseRequest_answered (s : State) (head : Byte) (p : PointReq) : Answered s (s.releaseRequest head p).1 := by
  unfold State.releaseRequest
  split
  · exact .same
  · next h _ =>
    split
    · exact .same
    · next fits => exact .work (.release h _ fits)

theorem onHeadLink_answered {s : State} (l : LinkId) {act : HeadId → State × Reply} (acts : ∀ h, Answered s (act h).1) :
    Answered s (onHeadLink s l act).1 := by
  cases l with
  | head h => exact acts h
  | cell => exact .same

theorem State.abortRequest_answered (s : State) : Answered s s.abortRequest.1 := by
  unfold State.abortRequest; split
  · exact .same
  · next job => exact .work (.abort job)

theorem State.blockLoadRequest_answered (s : State) (layers : List LayerReq) (label : Option Long) :
    Answered s (s.blockLoadRequest layers label).1 := by
  unfold State.blockLoadRequest; split
  · exact .same
  · next fits => exact .work (.blockLoad _ _ fits)

theorem State.openRequest_answered (s : State) (a b : PointReq) : Answered s (s.openRequest a b).1 := by
  unfold State.openRequest; split
  · exact .same
  · next fits => exact .work (.openJob _ _ fits)

theorem State.bedSetRequest_answered (s : State) (separation : Half) (a b : PointReq) :
    Answered s (s.bedSetRequest separation a b).1 := by
  unfold State.bedSetRequest; split
  · exact .same
  · next fits => exact .work (.bedSet _ _ _ fits)

theorem State.zoneSetRequest_answered (s : State) (p : ZoneSetReq) : Answered s (s.zoneSetRequest p).1 := by
  unfold State.zoneSetRequest; split
  · exact .same
  · next fits => exact .zoneSet _ fits

theorem State.pieceDeclareRequest_answered (s : State) (p : PieceReq) : Answered s (s.pieceDeclareRequest p).1 := by
  unfold State.pieceDeclareRequest; split
  · exact .same
  · next fits => exact .pieceDeclare p fits

theorem State.takeRequest_answered (s : State) (id : Byte) : Answered s (s.takeRequest id).1 := by
  unfold State.takeRequest; split
  · exact .same
  · next fits => exact .work (.take _ fits)

/-- What a request acted on by its owning block does to the state (R160). -/
theorem State.run_answered (s : State) (l : LinkId) (r : Request) : Answered s (s.run l r).1 := by
  cases r with
  | status => exact .attention l
  | ident | headRead | pieceRead | zoneRead | reset => exact .same
  | segment r => exact onHeadLink_answered l fun h => s.segmentRequest_answered h r
  | flush => exact onHeadLink_answered l s.flushRequest_answered
  | grant => exact onHeadLink_answered l s.grantRequest_answered
  | done n => exact onHeadLink_answered l fun h => s.doneRequest_answered h n
  | blockLoad layers label => exact s.blockLoadRequest_answered layers label
  | openJob a b => exact s.openRequest_answered a b
  | close => exact s.closeRequest_answered
  | abort => exact s.abortRequest_answered
  | classSet cls coef => exact s.classSetRequest_answered cls coef
  | cutSet sel p => exact s.cutSetRequest_answered sel p
  | bedSet separation a b => exact s.bedSetRequest_answered separation a b
  | zoneSet p => exact s.zoneSetRequest_answered p
  | bladeSet sel p => exact s.bladeSetRequest_answered sel p
  | guardSet sel p => exact s.guardSetRequest_answered sel p
  | pieceDeclare p => exact s.pieceDeclareRequest_answered p
  | take id => exact s.takeRequest_answered id
  | release head p => exact s.releaseRequest_answered head p
  | hold sel => exact s.cellHoldRequest_answered true sel
  | resume sel => exact s.cellHoldRequest_answered false sel
  | service head direction => exact s.serviceRequest_answered head direction
  | faultClear head => exact s.faultClearRequest_answered head
  | zoneClear zone => exact s.zoneClearRequest_answered zone

theorem State.judge_answered (s : State) (l : LinkId) (r : Request) : Answered s (s.judge l r).1 := by
  unfold State.judge; split
  · exact s.run_answered l r
  · exact .same

end Sys2Proof.Machine

/-! PROOFS. Every command is one of a few things: a request served, something on a line, a reset, the end of a hold, or a
chain of ticks; and what each of these keeps, a step keeps. -/

namespace Sys2Proof.Machine

/-! ### The state a command leaves -/

/-- The state a command leaves; no command is refused or stops the part. -/
def effect (c : Instr) (s : State) : State :=
  match exec c s with
  | .next t => t
  | .fault _ => s
  | .refused _ => s

theorem exec_eq_effect (c : Instr) (s : State) : exec c s = .next (effect c s) := by
  cases c <;> rfl

theorem effect_of_exec {c : Instr} {s t : State} (run : exec c s = .next t) : t = effect c s := by
  rw [exec_eq_effect] at run
  exact (Host.Outcome.next.inj run).symm

theorem effect_request {c : Instr} {l : LinkId} {r : Request} (row : requestOf c = some (l, r)) (s : State) :
    effect c s = s.serve l r := by
  cases c <;> simp only [requestOf, Option.some.injEq, Prod.mk.injEq, reduceCtorEq] at row <;>
    (obtain ⟨rfl, rfl⟩ := row; rfl)

/-! ### What happens on a line -/

/-- A link after something on its line: its causes stand, or those a cancelled reply carried have joined them; and its reply
carries what it did, or nothing (R162). -/
def Link.Follows (k old : Link) : Prop :=
  (k.attention = old.attention ∨ k.attention = old.attention.union old.carried) ∧
    (k.carried = old.carried ∨ k.carried = AttSet.empty)

/-- The state after request `r` has been taken on link `l` (R160, R161). -/
def State.served (s : State) (l : LinkId) (r : Request) : State :=
  ((s.toLead l).judge l r).1.replyWith l (requestCode r) ((s.toLead l).judge l r).2

/-- What a command leaves of state `s`. -/
inductive Commanded (s : State) (c : Instr) : State → Prop
  | served (l : LinkId) (r : Request) (row : requestOf c = some (l, r) ∨ ∃ ch, c = .characterReceived l ch)
      (free : s.listens l = true) : Commanded s c (s.served l r)
  | line (l : LinkId) (k : Link) (follows : k.Follows (s.link l)) (row : linkOf c = some l) :
      Commanded s c (s.setLink l k)
  | power (begins : BeginsReset s c = some .power) : Commanded s c s.powerReset
  | warm (cause : ResetCause) (begins : BeginsReset s c = some cause) : Commanded s c (s.warmReset cause)
  | extend (r : ResetHold) (holds : s.resetHold = some r) (row : c = .nresetTaken) :
      Commanded s c { s with resetHold := some { r with left := Config.resetHoldTime } }
  | endHold (rate : LinkRate) (r : ResetHold) (holds : s.resetHold = some r) :
      Commanded s c ((s.elapse r.left).endHold rate r.cause)
  | ticks {t : State} (row : linkOf c = none) (chain : Ticks s t) : Commanded s c t

theorem Link.follows_of_same {k old : Link} (attention : k.attention = old.attention) (inFlight : k.inFlight = old.inFlight) :
    k.Follows old := ⟨.inl attention, .inl (by simp [Link.carried, inFlight])⟩

theorem State.setLink_link (s : State) (l : LinkId) : s.setLink l (s.link l) = s := by
  simp [State.setLink, State.link]

theorem Link.follows_refl (k : Link) : k.Follows k := Link.follows_of_same rfl rfl

/-- A command that leaves the state as it was is something on a line that left the line as it was. -/
theorem Commanded.unchanged {s : State} {c : Instr} {l : LinkId} (row : linkOf c = some l) : Commanded s c s := by
  simpa only [State.setLink_link] using Commanded.line (s := s) (c := c) l (s.link l) (Link.follows_refl _) row

@[simp] theorem State.setLink_setLink (s : State) (l : LinkId) (j k : Link) :
    (s.setLink l j).setLink l k = s.setLink l k := by
  simp [State.setLink]

theorem State.toLead_toLead (s : State) (l : LinkId) : (s.toLead l).toLead l = s.toLead l := by
  simp [State.toLead]

theorem State.listens_toLead (s : State) (l : LinkId) : (s.toLead l).listens l = s.listens l := by
  simp [State.toLead, State.listens]

/-- A frame that link l cannot take as a request leaves the rest of the part alone. -/
theorem State.takeFrame_line {s : State} {c : Instr} {l : LinkId} (type : Byte) {reason : Reason}
    (row : linkOf c = some l) : Commanded s c (s.takeFrame l type fun t => (t, .refused reason .none)) := by
  unfold State.takeFrame
  dsimp only
  split
  · have step := Commanded.line (s := s) (c := c) l { s.link l with asm := .lead, inFlight := some ⟨type, .refused reason .none, false⟩ }
      ⟨.inl rfl, .inr rfl⟩ row
    simpa [State.toLead, State.replyWith] using step
  · split
    · exact .line l _ (Link.follows_of_same rfl rfl) row
    · exact .unchanged row

theorem State.serve_commanded {s : State} {c : Instr} {l : LinkId} {r : Request}
    (row : requestOf c = some (l, r) ∨ ∃ ch, c = .characterReceived l ch) (link : linkOf c = some l) :
    Commanded s c (s.serve l r) := by
  unfold State.serve State.takeFrame
  split
  · next free => exact .served l r row free
  · split
    · exact .line l _ (Link.follows_of_same rfl rfl) link
    · exact .unchanged link

theorem linkOf_request {c : Instr} {l : LinkId} {r : Request} (row : requestOf c = some (l, r)) : linkOf c = some l := by
  cases c <;> simp_all [requestOf, linkOf]

theorem State.onLink_commanded {s : State} {c : Instr} {l : LinkId} (row : linkOf c = some l) (f : Link → Link)
    (follows : ∀ k, (f k).Follows k) : Commanded s c (s.onLink l f) := by
  unfold State.onLink; split
  · exact .unchanged row
  · exact .line l _ (follows _) row

/-- A frame that an assembly completes leaves it looking for a lead byte (R158). -/
theorem Assembly.receive_complete {asm : Assembly} {c : Byte} {bytes : List Byte} (complete : (asm.receive c).2 = some bytes) :
    (asm.receive c).1 = .lead := by
  cases asm with
  | lead => simp [Assembly.receive] at complete
  | length => simp [Assembly.receive] at complete
  | gather len got =>
    rw [Assembly.receive] at complete ⊢
    split at complete
    · simp at complete
    · next full => rw [if_neg full]

theorem State.receives_toLead (s : State) (l : LinkId) : (s.toLead l).receives l = s.receives l := by
  simp [State.toLead, State.receives]

/-- That the frame has been assembled is no news to a link that receives (R158, R160). -/
theorem State.takeFrame_toLead {s : State} {l : LinkId} (receives : s.receives l = true) (type : Byte)
    (act : State → State × Reply) : (s.toLead l).takeFrame l type act = s.takeFrame l type act := by
  simp [State.takeFrame, State.listens_toLead, State.receives_toLead, State.toLead_toLead, receives]

theorem State.dispatch_toLead {s : State} {l : LinkId} (receives : s.receives l = true) (body : List Byte) :
    (s.toLead l).dispatch l body = s.dispatch l body := by
  unfold State.dispatch
  split
  · exact State.takeFrame_toLead receives _ _
  · exact State.takeFrame_toLead receives _ _
  · exact State.takeFrame_toLead receives _ _

/-- A character that completes no frame, or one whose check fails, moves the assembly alone; another completes a frame that
is dispatched (R158). -/
theorem State.character_cases {s : State} {l : LinkId} (ch : Byte) (receives : s.receives l = true) :
    (∀ bytes, ((s.link l).asm.receive ch).2 = some bytes → frameChecks bytes = false) ∧
        s.character l ch = s.setLink l { s.link l with asm := ((s.link l).asm.receive ch).1 } ∨
      ∃ bytes, ((s.link l).asm.receive ch).2 = some bytes ∧ frameChecks bytes = true ∧
        s.character l ch = s.dispatch l (frameBody bytes) := by
  unfold State.character
  rw [if_pos receives]
  dsimp only
  split
  · next none => exact .inl ⟨by simp [none], rfl⟩
  · next bytes complete =>
    split
    · next checks =>
      refine .inr ⟨bytes, complete, checks, ?_⟩
      rw [Assembly.receive_complete complete]
      exact State.dispatch_toLead receives _
    · next fails => exact .inl ⟨by simp [complete, Bool.eq_false_iff.mpr fails], rfl⟩

theorem State.dispatch_commanded (s : State) (l : LinkId) (ch : Byte) (body : List Byte) :
    Commanded s (.characterReceived l ch) (s.dispatch l body) := by
  unfold State.dispatch
  split
  · exact State.takeFrame_line _ rfl
  · exact State.takeFrame_line _ rfl
  · exact State.serve_commanded (.inr ⟨ch, rfl⟩) rfl

/-- A character moves the assembly of its line, or completes a frame that is taken (R158, R160). -/
theorem State.character_commanded (s : State) (l : LinkId) (ch : Byte) :
    Commanded s (.characterReceived l ch) (s.character l ch) := by
  cases receives : s.receives l with
  | false =>
    have same : s.character l ch = s := by simp [State.character, receives]
    rw [same]
    exact .unchanged rfl
  | true =>
    obtain ⟨-, moved⟩ | ⟨bytes, -, -, taken⟩ := State.character_cases ch receives
    · rw [moved]
      exact .line l _ (Link.follows_of_same rfl rfl) rfl
    · rw [taken]
      exact State.dispatch_commanded s l ch _

/-! ### The end of a reply -/

theorem InFlight.resets_iff {b : Bool} (f : InFlight) (begun : f.begun = b) : f.resets = true ↔ f = ⟨0x3F, .accepted .none, b⟩ := by
  obtain ⟨request, reply, _⟩ := f
  subst begun
  unfold InFlight.resets
  rw [Bool.and_eq_true, decide_eq_true_iff, decide_eq_true_iff]
  simp [requestCode]

@[simp] theorem State.warmReset_setLink (s : State) (l : LinkId) (k : Link) (cause : ResetCause) :
    (s.setLink l k).warmReset cause = s.warmReset cause := rfl

theorem State.replyComplete_commanded (s : State) (l : LinkId) : Commanded s (.replyComplete l) (s.replyComplete l) := by
  unfold State.replyComplete
  split
  · exact .unchanged rfl
  · next f taken =>
    split
    · next sent =>
      obtain ⟨free, begun⟩ : s.resetHold = none ∧ f.begun = true := by simpa using sent
      unfold State.replyGone
      dsimp only
      split
      · next resets =>
        refine .warm .command (if_pos ⟨free, ?_⟩)
        rw [taken, (f.resets_iff begun).mp resets]
      · exact .line l _ ⟨.inl rfl, .inr rfl⟩ rfl
    · exact .unchanged rfl

theorem State.lineBreak_commanded (s : State) (l : LinkId) : Commanded s (.breakDetected l) (s.lineBreak l) := by
  unfold State.lineBreak
  split
  · exact .unchanged rfl
  · next free =>
    have free : s.resetHold = none := by simpa using free
    dsimp only
    split
    · exact .line l _ (Link.follows_of_same rfl rfl) rfl
    · next f taken =>
      split
      · exact .line l _ (Link.follows_of_same rfl rfl) rfl
      · next waits =>
        unfold State.cancelReply State.replyGone
        dsimp only
        split
        · next resets =>
          have begins : BeginsReset s (.breakDetected l) = some .command :=
            if_pos ⟨free, taken.trans (congrArg some ((f.resets_iff (Bool.eq_false_iff.mpr waits)).mp resets))⟩
          exact .warm .command begins
        · have back := Commanded.line (s := s) (c := .breakDetected l) l
            { (s.link l).awaitHigh with
              inFlight := none, attention := (s.link l).attention.union (s.link l).carried }
            ⟨.inr rfl, .inr rfl⟩ rfl
          simpa [State.raise, Link.carried, taken, Link.awaitHigh] using back

theorem State.replyBegin_follows (k : Link) : k.beginReply.Follows k := by
  refine ⟨.inl rfl, .inl ?_⟩
  unfold Link.carried Link.beginReply
  cases k.inFlight <;> rfl

theorem State.discardedBusy_commanded (s : State) (l : LinkId) :
    Commanded s (.frameDiscardedBusy l) (s.discardedBusy l) := by
  unfold State.discardedBusy
  split
  · exact State.onLink_commanded (l := l) rfl _ fun _ => Link.follows_of_same rfl rfl
  · exact .unchanged rfl

theorem State.nresetTaken_commanded (s : State) : Commanded s .nresetTaken s.nresetTaken := by
  unfold State.nresetTaken
  split
  · next free => exact .warm .pin (by simp [BeginsReset, free])
  · next r holds => exact .extend r holds rfl

theorem State.resetHoldEnd_commanded (s : State) (lrate1 lrate0 : Bool) :
    Commanded s (.resetHoldEnd lrate1 lrate0) (s.resetHoldEnd ⟨lrate1, lrate0⟩) := by
  unfold State.resetHoldEnd
  split
  · exact .ticks rfl .refl
  · next r holds => exact .endHold _ r holds

theorem unknown_commanded (s : State) (l : LinkId) (type : Byte) :
    Commanded s (.unknownRequest l type) (if requestCodes.contains type = true then s else s.serveUnknown l type) := by
  split
  · exact .unchanged rfl
  · exact State.takeFrame_line _ rfl

/-- What a command can do. -/
theorem effect_commanded (c : Instr) (s : State) : Commanded s c (effect c s) := by
  cases c with
  | unknownRequest l type => exact unknown_commanded s l type
  | frameCheckFailed l => exact State.onLink_commanded (l := l) rfl _ fun _ => Link.follows_of_same rfl rfl
  | frameDiscardedBusy l => exact s.discardedBusy_commanded l
  | framingError l => exact State.onLink_commanded (l := l) rfl _ fun _ => Link.follows_of_same rfl rfl
  | frameGapTimeout l => exact State.onLink_commanded (l := l) rfl _ fun _ => Link.follows_of_same rfl rfl
  | breakDetected l => exact s.lineBreak_commanded l
  | replyBegin l => exact State.onLink_commanded (c := .replyBegin l) (l := l) rfl _ State.replyBegin_follows
  | replyComplete l => exact s.replyComplete_commanded l
  | powerOn => exact .power rfl
  | nresetTaken => exact s.nresetTaken_commanded
  | resetHoldEnd lrate1 lrate0 => exact s.resetHoldEnd_commanded lrate1 lrate0
  | overdueExpiry h => exact .ticks rfl (s.overdueExpiry_ticks h)
  | idleDelayExpiry h => exact .ticks rfl (State.expireIf_ticks fun _ _ => .endIdleDelay h)
  | stopDelayExpiry h => exact .ticks rfl (State.expireIf_ticks fun _ _ => .endStopDelay h)
  | pullTimeout zone => exact .ticks rfl (s.pullTimeout_ticks zone)
  | pressureGood x => exact .ticks rfl (s.pressure_ticks x.zone true x.edges)
  | pressureLoss x => exact .ticks rfl (s.pressure_ticks x.zone false x.edges)
  | pendingRequestLapse h => exact .ticks rfl (State.expireIf_ticks fun _ _ => .lapse h)
  | budgetMarkExpiry => exact .ticks rfl s.markExpiry_ticks
  | retryTimeExpiry h => exact .ticks rfl (State.expireIf_ticks fun _ _ => .endRetry h)
  | strokeWatchExpiry h => exact .ticks rfl (s.strokeWatchExpiry_ticks h)
  | indexPulse h p => exact .ticks rfl (s.pulse_ticks h p)
  | spinupStepComplete h p | lockOn h p | noSettle h p | trimStepDown h p | trimStepUp h p | reliefPauseEnd h p
  | overload h p | bladeMissing h p | cleanRunComplete h p => exact .ticks rfl (State.pulseThat_ticks _ s h p)
  | characterReceived l ch => exact s.character_commanded l ch
  | lineReturnsHigh l =>
    exact State.onLink_commanded (l := l) rfl (fun k => { k with rx := .hunting }) fun _ => Link.follows_of_same rfl rfl
  | _ => exact State.serve_commanded (.inl rfl) rfl

theorem exec_commanded {c : Instr} {s t : State} (run : exec c s = .next t) : Commanded s c t :=
  effect_of_exec run ▸ effect_commanded c s

/-! ### What a step keeps -/

/-- A property that each part of a step keeps, lines, the queue of commands and the free values apart. -/
structure KeptByParts (P : State → Prop) : Prop where
  line : ∀ {s : State} (l k), P s → P (s.setLink l k)
  queue : ∀ {s : State} (pending free), P s → P { s with pending := pending, free := free }
  answered : ∀ {s t : State}, Answered s t → P s → P t
  tick : ∀ {s t : State}, Tick s t → P s → P t
  power : ∀ {s : State}, P s → P s.powerReset
  warm : ∀ {s : State} (cause), P s → P (s.warmReset cause)
  extend : ∀ {s : State} (r), P s → P { s with resetHold := some r }
  endHold : ∀ {s : State} (rate cause), P s → P (s.endHold rate cause)

theorem KeptByParts.ticks {P : State → Prop} (kept : KeptByParts P) {s t : State} (chain : Ticks s t) (start : P s) : P t := by
  induction chain with
  | refl => exact start
  | tail _ tick ih => exact kept.tick tick ih

theorem KeptByParts.commanded {P : State → Prop} (kept : KeptByParts P) {s t : State} {c : Instr} (done : Commanded s c t)
    (start : P s) : P t := by
  cases done with
  | served l r => exact kept.line _ _ (kept.answered (State.judge_answered _ l r) (kept.line _ _ start))
  | line l k => exact kept.line l k start
  | power => exact kept.power start
  | warm cause => exact kept.warm cause start
  | extend r => exact kept.extend _ start
  | endHold rate r => exact kept.endHold rate _ (kept.tick (.time _) start)
  | ticks _ chain => exact kept.ticks chain start

/-- What its parts keep, a step keeps: the command at the front of the queue, or the idle step. -/
theorem KeptByParts.step {P : State → Prop} (kept : KeptByParts P) {s t : State} (start : P s) (next : step s = .next t) :
    P t := by
  unfold Machine.step at next
  split at next
  · exact kept.commanded (exec_commanded next) (kept.queue _ s.free start)
  · cases next
    unfold State.idle
    split
    · exact kept.tick (.time 1) start
    · exact kept.queue _ _ start

end Sys2Proof.Machine

/-! PROOFS. What the bodies of the events make of each head. Where a drain or a watch may follow, the head is said up to
those (`Head.after`). -/

namespace Sys2Proof.Machine

/-! ### A head up to its watch and the drain -/

/-- The head with its watch as a telling left it, and at drain completion as the drain left it (R12, R75). -/
def Head.after (drains : Bool) (w : Watch) (hd : Head) : Head :=
  { (if drains then hd.drained else hd) with watch := w }

section
variable (d e : Bool) (v w : Watch) (hd : Head)

@[simp] theorem Head.after_queue : (hd.after d w).queue = hd.queue := by cases d <;> rfl
@[simp] theorem Head.after_nextSeq : (hd.after d w).nextSeq = hd.nextSeq := by cases d <;> rfl
@[simp] theorem Head.after_ref : (hd.after d w).ref = hd.ref := by cases d <;> rfl
@[simp] theorem Head.after_runs : (hd.after d w).runs = hd.runs := by cases d <;> rfl
@[simp] theorem Head.after_floor : (hd.after d w).floor = hd.floor := by cases d <;> rfl
@[simp] theorem Head.after_cut : (hd.after d w).cut = hd.cut := by cases d <;> rfl
@[simp] theorem Head.after_window : (hd.after d w).window = hd.window := by cases d <;> rfl
@[simp] theorem Head.after_standing : (hd.after d w).standing = hd.standing := by cases d <;> rfl
@[simp] theorem Head.after_claim : (hd.after d w).claim = hd.claim := by cases d <;> rfl
@[simp] theorem Head.after_watch : (hd.after d w).watch = w := rfl
@[simp] theorem Head.after_pendingReq : (hd.after d w).pendingReq = if d then none else hd.pendingReq := by cases d <;> rfl
@[simp] theorem Head.after_lapse : (hd.after d w).lapse = hd.lapse := by cases d <;> rfl
@[simp] theorem Head.after_blade :
    (hd.after d w).blade = { hd.blade with idleTimer := if d then none else hd.blade.idleTimer } := by cases d <;> rfl
@[simp] theorem Head.after_bladeParams : (hd.after d w).bladeParams = hd.bladeParams := by cases d <;> rfl
@[simp] theorem Head.after_guard : (hd.after d w).guard = hd.guard := by cases d <;> rfl
@[simp] theorem Head.after_service : (hd.after d w).service = hd.service := by cases d <;> rfl
@[simp] theorem Head.after_hold : (hd.after d w).hold = hd.hold := by cases d <;> rfl
@[simp] theorem Head.after_overdue : (hd.after d w).overdue = hd.overdue := by cases d <;> rfl

@[simp] theorem Head.after_after : (hd.after d v).after e w = hd.after (d || e) w := by cases d <;> cases e <;> rfl

end

theorem Head.after_of_fields {x y : Head} (queue : x.queue = y.queue) (nextSeq : x.nextSeq = y.nextSeq) (ref : x.ref = y.ref)
    (runs : x.runs = y.runs) (floor : x.floor = y.floor) (cut : x.cut = y.cut) (window : x.window = y.window)
    (standing : x.standing = y.standing) (claim : x.claim = y.claim) (pendingReq : x.pendingReq = y.pendingReq)
    (lapse : x.lapse = y.lapse) (blade : x.blade = y.blade) (bladeParams : x.bladeParams = y.bladeParams)
    (guard : x.guard = y.guard) (service : x.service = y.service) (hold : x.hold = y.hold)
    (overdue : x.overdue = y.overdue) : x = y.after false x.watch := by
  cases x; cases y; simp_all [Head.after]

theorem State.tell_head (s : State) (k : HeadId) (p : Watch → Bool) (h : HeadId) :
    ∃ w, (s.tell k p).head h = (s.head h).after false w := by
  refine ⟨_, Head.after_of_fields ?_ ?_ ?_ ?_ ?_ ?_ ?_ ?_ ?_ ?_ ?_ ?_ ?_ ?_ ?_ ?_ ?_⟩ <;> simp

theorem State.tellBoth_head (s : State) (p : Watch → Bool) (h : HeadId) :
    ∃ w, (s.tellBoth p).head h = (s.head h).after false w := by
  refine ⟨_, Head.after_of_fields ?_ ?_ ?_ ?_ ?_ ?_ ?_ ?_ ?_ ?_ ?_ ?_ ?_ ?_ ?_ ?_ ?_⟩ <;> simp

theorem State.zoneGone_head (s : State) (j : Nat) (was : ZoneState) (h : HeadId) :
    ∃ w, (s.zoneGone j was).head h = (s.head h).after false w := State.tellBoth_head s _ h

theorem State.dropMark_head (s : State) (k h : HeadId) : ∃ w, (s.dropMark k).head h = (s.head h).after false w := by
  refine ⟨_, Head.after_of_fields ?_ ?_ ?_ ?_ ?_ ?_ ?_ ?_ ?_ ?_ ?_ ?_ ?_ ?_ ?_ ?_ ?_⟩ <;> simp

theorem State.reevaluate_head (s : State) (h : HeadId) : ∃ w, s.reevaluate.head h = (s.head h).after false w := by
  refine ⟨_, Head.after_of_fields ?_ ?_ ?_ ?_ ?_ ?_ ?_ ?_ ?_ ?_ ?_ ?_ ?_ ?_ ?_ ?_ ?_⟩ <;> simp

theorem State.reevaluate_head_of {s : State} {h : HeadId} {x : Head} (head : s.head h = x) :
    ∃ w, s.reevaluate.head h = x.after false w := head ▸ State.reevaluate_head s h

@[simp] theorem State.head_setMark (s : State) (m : Option Mark) (h : HeadId) : ({ s with mark := m } : State).head h = s.head h := rfl
@[simp] theorem State.head_scrapPieces (s : State) (h : HeadId) : s.scrapPieces.head h = s.head h := rfl
@[simp] theorem State.head_setPieces (s : State) (ps : List Piece) (h : HeadId) :
    ({ s with pieces := ps } : State).head h = s.head h := rfl
@[simp] theorem State.head_orphanRestart (s : State) (h : HeadId) : s.orphanRestart.head h = s.head h := by
  simp [State.head]

/-- A drain clears of each head what R12 names, and tells its watch. -/
theorem State.drain_head (s : State) (h : HeadId) : ∃ w, s.drain.head h = (s.head h).after true w := by
  have drained : ((s.modBoth Head.drained).setJobState .idle).scrapPieces.head h = (s.head h).drained := by
    simp [State.head_modBoth]
  obtain ⟨w, reevaluated⟩ := State.reevaluate_head_of (s := { ((s.modBoth Head.drained).setJobState .idle).scrapPieces with
    mark := none }) (h := h) drained
  exact ⟨w, reevaluated⟩

theorem State.drainIfDone_head (s : State) (h : HeadId) : ∃ d w, s.drainIfDone.head h = (s.head h).after d w := by
  unfold State.drainIfDone
  split
  · exact ⟨true, State.drain_head s h⟩
  · exact ⟨false, _, rfl⟩

@[simp] theorem State.creditTag_head (k : HeadId) (n : Nat) (s : State) (tag : Nat) (h : HeadId) :
    (State.creditTag k n s tag).head h = s.head h := by
  unfold State.creditTag
  dsimp only
  split <;> rfl

@[simp] theorem State.credit_head (s : State) (k : HeadId) (n : Nat) (tags : List Nat) (h : HeadId) :
    (s.credit k n tags).head h = s.head h := foldl_keeps (·.head h) (State.creditTag k n) (fun s t => State.creditTag_head k n s t h) tags s

/-! ### The preparations of a GRANT -/

@[simp] theorem State.startZones_head (s : State) (ks : List Nat) (h : HeadId) :
    (ks.foldl State.startZone s).head h = s.head h := foldl_keeps (·.head h) State.startZone (fun _ _ => rfl) ks s

/-- A zone request changes the pending request of its head alone (R88). -/
theorem State.zoneRequest_head (s : State) (k : HeadId) (r : ZoneRange) (h : HeadId) :
    (s.zoneRequest k r).1.head h = (s.modHead k fun hd => { hd with pendingReq := some r }).head h := by
  unfold State.zoneRequest
  dsimp only
  split <;> first | rfl | (split <;> first | rfl | (split <;> first | rfl | (split <;> first | exact State.startZones_head _ _ _ | (split <;> rfl))))

/-- The head as its preparations leave it: an AIR segment has none (R68, R69). -/
def Head.prepared (e : Entry) (hd : Head) : Head :=
  match e.zones with
  | none => hd
  | some r => { hd.startIdle with pendingReq := some r }

theorem State.preparedFor_head (s : State) (h : HeadId) (e : Entry) :
    (s.preparedFor h e).1.head h = (s.head h).prepared e := by
  unfold State.preparedFor Head.prepared
  cases e.zones with
  | none => rfl
  | some r => simp [State.prepare, State.zoneRequest_head]

theorem State.preparedFor_head_other (s : State) (h : HeadId) (e : Entry) :
    (s.preparedFor h e).1.head h.other = s.head h.other := by
  unfold State.preparedFor
  cases e.zones with
  | none => rfl
  | some r => simp [State.prepare, State.zoneRequest_head]

/-- The head with its lapse timer as a GRANT restarts it (R88). -/
def Head.grantTaken (hd : Head) : Head := { hd with lapse := hd.lapse.map fun _ => Config.twoSeconds }

theorem State.grantTaken_head (s : State) (h : HeadId) : (s.grantTaken h).head h = (s.head h).grantTaken :=
  State.head_modHead_self s h Head.grantTaken

theorem State.grantTaken_head_other (s : State) (h : HeadId) : (s.grantTaken h).head h.other = s.head h.other :=
  State.head_modHead_other s h Head.grantTaken

/-! ### What an accepted request makes of a head -/

/-- What the body of an accepted request makes of head `k`, watch and drain apart. -/
inductive HeadWork (s : State) (k : HeadId) : Head → Prop
  | same : HeadWork s k (s.head k)
  | segment (r : SegmentReq) (passes : s.segmentReply k r = none) : HeadWork s k ((s.head k).enqueue (submitted r))
  | flush (work : (s.head k).queue ≠ []) : HeadWork s k (s.head k).flush
  | grant (e : Entry) (r : GrantResult) (stop : s.grantStop k = .passes e)
      (clear : s.clearFor k ((s.head k).claimWith e) = true) :
      HeadWork s k (Head.granted e r ((s.head k).grantTaken.prepared e))
  | prepare (e : Entry) (stop : s.grantStop k = .passes e) : HeadWork s k ((s.head k).grantTaken.prepared e)
  | done (w : WinEntry) (rest : List WinEntry) (oldest : (s.head k).window = w :: rest) :
      HeadWork s k (Head.completed w (s.head k))
  | openJob (p : Point) (staged : s.job.state = .staged) : HeadWork s k ((s.head k).openAt p)
  | abort : HeadWork s k (s.head k).aborted
  | bedSet (p : Point) : HeadWork s k ((s.head k).newPark p)
  | release (p : Point) (fits : (s.head k).releaseRefusal p = none) : HeadWork s k (Head.released p (s.head k))
  | cellHold (on : Bool) : HeadWork s k (Head.withCellHold on (s.head k))
  | serviceOut (workless : (s.head k).workless = true) : HeadWork s k (Head.takenOut (s.park k) (s.head k))
  | serviceIn (service : (s.head k).service = .outOfService) : HeadWork s k (Head.takenIn (s.park k) (s.head k))
  | faultClear (latched : (s.head k).blade.st = .faulted) :
      HeadWork s k { s.head k with blade := (s.head k).blade.clearFault (s.head k).bladeParams }

theorem State.clearFor_congr {s t : State} {h : HeadId} {c : Claim} (bed : t.bed = s.bed)
    (claim : (t.head h.other).claim = (s.head h.other).claim) : t.clearFor h c = s.clearFor h c := by
  cases h
  · have claim : t.heads.b.claim = s.heads.b.claim := claim
    simp [State.clearFor, bed, claim]
  · have claim : t.heads.a.claim = s.heads.a.claim := claim
    simp [State.clearFor, bed, claim]

@[simp] theorem State.grantTaken_bed (s : State) (h : HeadId) : (s.grantTaken h).bed = s.bed := rfl

theorem State.clearFor_grantTaken (s : State) (h : HeadId) (e : Entry) :
    (s.grantTaken h).clearFor h (((s.grantTaken h).head h).claimWith e) = s.clearFor h ((s.head h).claimWith e) := by
  rw [State.grantTaken_head]
  exact State.clearFor_congr rfl (by rw [State.grantTaken_head_other])

theorem State.enqueue_head (s : State) (h : HeadId) (g : Segment) :
    ∃ w, (s.enqueue h g).head h = ((s.head h).enqueue g).after false w := by
  obtain ⟨w, told⟩ := State.tell_head (s.modHead h fun hd => hd.enqueue g) h (fun w => w.reasons.queueEmpty) h
  exact ⟨w, by rw [State.enqueue, told, State.head_modHead_self]⟩

/-- What follows the change of one head: its mark drops, need is re-evaluated, and a drain may complete; the heads keep all
but what the drain and the watches lose. -/
theorem State.release_tail_head (s : State) (h k : HeadId) :
    ∃ d w, (((s.dropMark h).reevaluate).drainIfDone).head k = (s.head k).after d w := by
  obtain ⟨w, dropped⟩ := State.dropMark_head s h k
  obtain ⟨v, reevaluated⟩ := State.reevaluate_head (s.dropMark h) k
  obtain ⟨d, u, drained⟩ := State.drainIfDone_head (s.dropMark h).reevaluate k
  exact ⟨d, u, by rw [drained, reevaluated, dropped]; simp⟩

theorem State.grant_tail_head (s : State) (h k : HeadId) :
    ∃ w, ((s.dropMark h).reevaluate).head k = (s.head k).after false w := by
  obtain ⟨w, dropped⟩ := State.dropMark_head s h k
  obtain ⟨v, reevaluated⟩ := State.reevaluate_head (s.dropMark h) k
  exact ⟨v, by rw [reevaluated, dropped]; simp⟩

theorem State.complete_head (s : State) (h k : HeadId) (w : WinEntry) :
    ∃ d v, (s.complete h w).head k = ((s.modHead h (Head.completed w)).head k).after d v := by
  obtain ⟨w', told⟩ := State.tell_head (s.modHead h (Head.completed w)) h (fun v => v.reasons.windowFull) k
  obtain ⟨v, reevaluated⟩ := State.reevaluate_head
    ((((s.modHead h (Head.completed w)).tell h fun v => v.reasons.windowFull).credit h w.entry.seg.number w.entry.seg.tags)) k
  obtain ⟨d, u, drained⟩ := State.drainIfDone_head
    ((((s.modHead h (Head.completed w)).tell h fun v => v.reasons.windowFull).credit h w.entry.seg.number w.entry.seg.tags)).reevaluate k
  exact ⟨d, u, by rw [State.complete, drained, reevaluated, State.credit_head, told]; simp⟩

@[simp] theorem State.modSelected_nil (s : State) (f : Head → Head) : s.modSelected [] f = s := rfl

/-- The heads a selector names, one by one. -/
theorem selectorOf_cases {sel : Byte} {hs : List HeadId} (named : selectorOf sel = some hs) :
    hs = [.a] ∨ hs = [.b] ∨ hs = [.a, .b] := by
  unfold selectorOf at named
  repeat' split at named
  all_goals simp_all

/-- A change of the selected heads changes each or leaves it. -/
theorem State.modSelected_head {sel : Byte} {hs : List HeadId} (named : selectorOf sel = some hs) (s : State)
    (f : Head → Head) (k : HeadId) :
    (s.modSelected hs f).head k = if k ∈ hs then f (s.head k) else s.head k := by
  obtain rfl | rfl | rfl := selectorOf_cases named <;> cases k <;> rfl

theorem State.modSelected_head_or {sel : Byte} {hs : List HeadId} (named : selectorOf sel = some hs) (s : State)
    (f : Head → Head) (k : HeadId) : (s.modSelected hs f).head k = f (s.head k) ∨ (s.modSelected hs f).head k = s.head k := by
  rw [State.modSelected_head named]
  split
  · exact .inl rfl
  · exact .inr rfl

theorem State.head_openJob (s : State) (a b : Point) (k : HeadId) :
    ∃ p, (s.openJob a b).head k = (s.head k).openAt p := by
  cases k
  · exact ⟨s.home .a a, rfl⟩
  · exact ⟨s.home .b b, rfl⟩

theorem State.head_bedSet (s : State) (separation : Nat) (a b : Point) (k : HeadId) :
    ∃ p, (s.bedSet separation a b).head k = (s.head k).newPark p := by
  cases k
  · exact ⟨a, rfl⟩
  · exact ⟨b, rfl⟩

@[simp] theorem State.head_setJob (s : State) (j : Job) (h : HeadId) : ({ s with job := j } : State).head h = s.head h := rfl

theorem State.serviceOutRefusal_workless {s : State} {h : HeadId} (fits : s.serviceOutRefusal h = none) :
    (s.head h).workless = true := by
  unfold State.serviceOutRefusal at fits
  split at fits
  · cases fits
  · next busy => exact Bool.eq_true_of_not_eq_false busy

/-- OPEN finds a staged job and the homes apart (R9). -/
theorem State.openRefusal_none {s : State} {a b : Point} (fits : s.openRefusal a b = none) :
    s.job.state = .staged ∧ (s.home .a a).x + s.bed.separation ≤ (s.home .b b).x := by
  unfold State.openRefusal at fits
  split at fits
  · cases fits
  · next job =>
    split at fits
    · cases fits
    · split at fits
      · cases fits
      · next apart => exact ⟨not_not.mp job, not_not.mp apart⟩

/-- What the body of an accepted request makes of each head. -/
theorem RequestWork.head {s b : State} (work : RequestWork s b) (k : HeadId) :
    ∃ x d w, HeadWork s k x ∧ b.head k = x.after d w := by
  have same : ∃ x d w, HeadWork s k x ∧ s.head k = x.after d w := ⟨_, false, _, .same, rfl⟩
  cases work with
  | segment h r passes =>
    obtain rfl | rfl := HeadId.eq_or_other h k
    · obtain ⟨w, e⟩ := State.enqueue_head s k (submitted r)
      exact ⟨_, false, w, .segment r passes, e⟩
    · simpa [State.enqueue] using same
  | flush h serves work =>
    obtain ⟨d, w, e⟩ := State.release_tail_head (s.modHead h Head.flush) h k
    obtain rfl | rfl := HeadId.eq_or_other h k
    · exact ⟨_, d, w, .flush work, by rw [State.flush, e, State.head_modHead_self]⟩
    · exact ⟨_, d, w, .same, by rw [State.flush, e, State.head_modHead_other]⟩
  | grant h e stop clear ready =>
    obtain ⟨w, tail⟩ := State.grant_tail_head ((((s.grantTaken h).preparedFor h e).1).modHead h
      (Head.granted e (((s.grantTaken h).preparedFor h e).1.governed h e))) h k
    obtain rfl | rfl := HeadId.eq_or_other h k
    · refine ⟨_, false, w, .grant e (((s.grantTaken k).preparedFor k e).1.governed k e) stop ((s.clearFor_grantTaken k e).symm.trans clear), ?_⟩
      rw [State.grant, tail, State.head_modHead_self, State.preparedFor_head, State.grantTaken_head]
    · refine ⟨_, false, w, .same, ?_⟩
      rw [State.grant, tail, State.head_modHead_other, State.preparedFor_head_other, State.grantTaken_head_other]
  | prepare h e stop lacks =>
    obtain ⟨w, reevaluated⟩ := State.reevaluate_head ((s.grantTaken h).preparedFor h e).1 k
    obtain rfl | rfl := HeadId.eq_or_other h k
    · refine ⟨_, false, ⟨((s.grantTaken k).preparedFor k e).2, e.zones⟩, .prepare e stop, ?_⟩
      rw [State.setWatch, State.head_modHead_self, reevaluated, State.preparedFor_head, State.grantTaken_head]
      rfl
    · refine ⟨_, false, w, .same, ?_⟩
      rw [State.setWatch, State.head_modHead_other, reevaluated, State.preparedFor_head_other, State.grantTaken_head_other]
  | done h w rest oldest =>
    obtain ⟨d, v, completed⟩ := State.complete_head s h k w
    obtain rfl | rfl := HeadId.eq_or_other h k
    · exact ⟨_, d, v, .done w rest oldest, by rw [completed, State.head_modHead_self]⟩
    · exact ⟨_, d, v, .same, by rw [completed, State.head_modHead_other]⟩
  | blockLoad layers label =>
    obtain ⟨w, reevaluated⟩ := State.reevaluate_head
      { s with job := { s.job with stack := layers, label := label, state := .staged }, pieces := [], retained := false } k
    exact ⟨_, false, w, .same, reevaluated⟩
  | openJob a b fits =>
    obtain ⟨p, e⟩ := State.head_openJob s a b k
    exact ⟨_, false, _, .openJob p (State.openRefusal_none fits).1, e⟩
  | drain =>
    obtain ⟨w, e⟩ := State.drain_head s k
    exact ⟨_, true, w, .same, e⟩
  | close => exact same
  | abort =>
    have aborted : ((s.modBoth Head.aborted).setJobState .idle).scrapPieces.head k = (s.head k).aborted := by
      simp [State.head_modBoth]
    obtain ⟨w, reevaluated⟩ := State.reevaluate_head_of (s := { ((s.modBoth Head.aborted).setJobState .idle).scrapPieces with
      mark := none }) (h := k) aborted
    exact ⟨_, false, w, .abort, reevaluated⟩
  | bedSet separation a b =>
    obtain ⟨p, e⟩ := State.head_bedSet s separation a b k
    exact ⟨_, false, _, .bedSet p, e⟩
  | take id =>
    obtain ⟨w, reevaluated⟩ := State.reevaluate_head
      { s with pieces := s.pieces.map fun p : Piece => if p.id = id then { p with st := .taken } else p } k
    exact ⟨_, false, w, .same, reevaluated⟩
  | release h p fits =>
    obtain ⟨d, w, e⟩ := State.release_tail_head (s.modHead h (Head.released p)) h k
    obtain rfl | rfl := HeadId.eq_or_other h k
    · exact ⟨_, d, w, .release p fits, by rw [State.release, e, State.head_modHead_self]⟩
    · exact ⟨_, d, w, .same, by rw [State.release, e, State.head_modHead_other]⟩
  | cellHold on sel hs named =>
    obtain e | e := State.modSelected_head_or named s (Head.withCellHold on) k
    · exact ⟨_, false, _, .cellHold on, e⟩
    · exact ⟨_, false, _, .same, e⟩
  | serviceOut h service fits =>
    obtain ⟨w, tail⟩ := State.grant_tail_head (s.modHead h (Head.takenOut (s.park h))) h k
    obtain rfl | rfl := HeadId.eq_or_other h k
    · exact ⟨_, false, w, .serviceOut (State.serviceOutRefusal_workless fits), by
        rw [State.serviceOut, tail, State.head_modHead_self]⟩
    · exact ⟨_, false, w, .same, by rw [State.serviceOut, tail, State.head_modHead_other]⟩
  | serviceIn h service fits =>
    obtain ⟨w, reevaluated⟩ := State.reevaluate_head (s.modHead h (Head.takenIn (s.park h))) k
    obtain rfl | rfl := HeadId.eq_or_other h k
    · exact ⟨_, false, w, .serviceIn service, by rw [State.serviceIn, reevaluated, State.head_modHead_self]⟩
    · exact ⟨_, false, w, .same, by rw [State.serviceIn, reevaluated, State.head_modHead_other]⟩
  | faultClear h latched =>
    obtain rfl | rfl := HeadId.eq_or_other h k
    · exact ⟨_, false, _, .faultClear latched, by rw [State.head_modHead_self]; rfl⟩
    · exact ⟨_, false, _, .same, by rw [State.head_modHead_other]; rfl⟩
  | zoneClear j =>
    obtain ⟨w, told⟩ := State.tellBoth_head (s.setZone j (s.zone j).vent)
      (fun w => w.reasons.zoneBudget || (w.reasons.zoneFaulted && rangeHas w.range j)) k
    exact ⟨_, false, w, .same, by rw [State.zoneClear, State.head_orphanRestart, told, State.head_setZone]⟩

/-! ### What an expiry, a change of pressure or a pulse makes of a head -/

/-- The channel and the events of an accepted pulse of head `hd` with these samples (R110). -/
def Head.pulsed (samples : List Sample) (noAvg noPeak : Nat) (hd : Head) : Channel × StrokeEvents :=
  ({ hd with blade := hd.blade.addSamples samples } : Head).pulseWork noAvg noPeak

/-- What such a body makes of head `k`, its watch apart. -/
inductive HeadTimed (s : State) (k : HeadId) : Head → Prop
  | same : HeadTimed s k (s.head k)
  | suspend (counts : (s.head k).overdue.st = .counting) :
      HeadTimed s k { s.head k with hold := { (s.head k).hold with overdue := true }, overdue := ⟨.stopped, 0, 0⟩ }
  | endIdleDelay : HeadTimed s k { s.head k with blade := { (s.head k).blade with idleTimer := none } }
  | endStopDelay : HeadTimed s k { s.head k with blade := { (s.head k).blade with stopTimer := none } }
  | endRetry : HeadTimed s k { s.head k with blade := (s.head k).blade.endRetry (s.head k).bladeParams }
  | loseStroke : HeadTimed s k { s.head k with blade := (s.head k).blade.strokeLost (s.head k).guard }
  | lapse : HeadTimed s k { s.head k with pendingReq := none }
  | pulse (samples : List Sample) (noAvg noPeak : Nat) (runs : (s.head k).blade.st.accepts = true) :
      HeadTimed s k { s.head k with blade := ((s.head k).pulsed samples noAvg noPeak).1 }

@[simp] theorem State.setBlade_head_self (s : State) (h : HeadId) (c : Channel) :
    (s.setBlade h c).head h = { s.head h with blade := c } := State.head_modHead_self s h _

@[simp] theorem State.setBlade_head_other (s : State) (h : HeadId) (c : Channel) :
    (s.setBlade h c).head h.other = s.head h.other := State.head_modHead_other s h _

@[simp] theorem State.head_setFree (s : State) (n : Nat) (h : HeadId) : ({ s with free := n } : State).head h = s.head h := rfl

theorem State.bladeNews_head (h : HeadId) (ready bladeFault : Bool) (s : State) (k : HeadId) :
    ∃ w, (State.bladeNews h ready bladeFault s).head k = (s.head k).after false w := by
  have told : ∃ w, (if ready then s.tell h fun w => w.reasons.bladeNotReady else s).head k = (s.head k).after false w := by
    split
    · exact State.tell_head s h _ k
    · exact ⟨_, rfl⟩
  unfold State.bladeNews
  dsimp only
  split
  · simpa using told
  · exact told

theorem TimedWork.head {s b : State} (work : TimedWork s b) (k : HeadId) :
    ∃ x w, HeadTimed s k x ∧ b.head k = x.after false w := by
  have same : ∃ x w, HeadTimed s k x ∧ s.head k = x.after false w := ⟨_, _, .same, rfl⟩
  cases work with
  | suspend h counts =>
    obtain rfl | rfl := HeadId.eq_or_other h k
    · exact ⟨_, _, .suspend counts, by simp [State.suspend]; rfl⟩
    · simpa [State.suspend] using same
  | endIdleDelay h =>
    obtain rfl | rfl := HeadId.eq_or_other h k
    · obtain ⟨w, told⟩ := State.tell_head
        (s.modHead k fun hd => { hd with blade := { hd.blade with idleTimer := none } }) k (fun w => w.reasons.bladeNotReady) k
      exact ⟨_, w, .endIdleDelay, by rw [State.endIdleDelay, told, State.head_modHead_self]⟩
    · simpa [State.endIdleDelay] using same
  | endStopDelay h =>
    obtain rfl | rfl := HeadId.eq_or_other h k
    · exact ⟨_, _, .endStopDelay, by simp [State.endStopDelay]; rfl⟩
    · simpa [State.endStopDelay] using same
  | endRetry h =>
    obtain rfl | rfl := HeadId.eq_or_other h k
    · exact ⟨_, _, .endRetry, by simp [State.endRetry]; rfl⟩
    · simpa [State.endRetry] using same
  | loseStroke h =>
    obtain ⟨w, news⟩ := State.bladeNews_head h false (!((s.head h).blade.strokeLost (s.head h).guard).st.accepts)
      (s.setBlade h ((s.head h).blade.strokeLost (s.head h).guard)) k
    obtain rfl | rfl := HeadId.eq_or_other h k
    · exact ⟨_, w, .loseStroke, by rw [State.loseStroke, news, State.setBlade_head_self]⟩
    · exact ⟨_, w, .same, by rw [State.loseStroke, news, State.setBlade_head_other]⟩
  | lapse h =>
    obtain ⟨w, reevaluated⟩ := State.reevaluate_head (s.modHead h fun hd => { hd with pendingReq := none }) k
    obtain rfl | rfl := HeadId.eq_or_other h k
    · exact ⟨_, w, .lapse, by rw [State.lapseRequest, reevaluated, State.head_modHead_self]⟩
    · exact ⟨_, w, .same, by rw [State.lapseRequest, reevaluated, State.head_modHead_other]⟩
  | endMark h =>
    obtain ⟨w, dropped⟩ := State.dropMark_head s h k
    exact ⟨_, w, .same, dropped⟩
  | failZone j =>
    obtain ⟨w, told⟩ := State.zoneGone_head ((s.setZone j (s.zone j).fail).raise .cell AttSet.ofZoneFault) j (s.zone j).st k
    exact ⟨_, w, .same, by rw [State.failZone, State.head_orphanRestart, told]; simp⟩
  | pressureGone j => exact same
  | pressureCome j =>
    unfold State.pressureCome
    dsimp only
    split
    · obtain ⟨w, told⟩ := State.tellBoth_head (s.setZone j (s.zone j).becomeGood) (fun w =>
        w.reasons.zonesSettling && rangeHas w.range j &&
          (match w.range with
            | some r => (s.setZone j (s.zone j).becomeGood).allHeld r
            | none => false)) k
      exact ⟨_, w, .same, told⟩
    · exact same
  | pulse h samples n noAvg noPeak runs =>
    obtain ⟨w, news⟩ := State.bladeNews_head h ((s.head h).pulsed samples noAvg noPeak).2.ready
      ((s.head h).pulsed samples noAvg noPeak).2.bladeFault
      (State.setBlade { s with free := n } h ((s.head h).pulsed samples noAvg noPeak).1) k
    obtain rfl | rfl := HeadId.eq_or_other h k
    · exact ⟨_, w, .pulse samples noAvg noPeak runs, by
        exact news.trans (by rw [State.setBlade_head_self]; rfl)⟩
    · exact ⟨_, w, .same, by exact news.trans (by rw [State.setBlade_head_other]; rfl)⟩

/-! ### What closing an event makes of a head -/

/-- Closing an event reworks the channel, the reason set, the overdue timer, the lapse timer and the watch of a head, and
nothing else. -/
theorem State.closeEvent_head (b s : State) (h : HeadId) :
    ∃ stood hold line lapse w, (State.closeEvent b s).head h =
      { (s.head h).reworkBlade stood s.job.state.isOpen with
        hold := hold, overdue := (s.head h).overdue.follow line, lapse := lapse, watch := w } := by
  have closed (r : State) : ∃ stood hold line lapse w, (State.closeHead b h r).head h =
      { (r.head h).reworkBlade stood r.job.state.isOpen with
        hold := hold, overdue := (r.head h).overdue.follow line, lapse := lapse, watch := w } := by
    obtain ⟨w, told⟩ := State.tell_head (State.closeLapse h (State.closeHold b h (State.closeBlade b h r))) h
      (fun w => (w.reasons.headHeld &&
          !((State.closeLapse h (State.closeHold b h (State.closeBlade b h r))).head h).hold.beyondBlade) ||
        (w.reasons.clearance && decide (((State.closeLapse h (State.closeHold b h (State.closeBlade b h r))).head h.other).claim ≠
          (b.head h.other).claim))) h
    have held : (State.closeHold b h (State.closeBlade b h r)).head h =
        { (r.head h).reworkBlade ((b.head h).standsBy b.job.state.isOpen) r.job.state.isOpen with
          hold := (State.closeBlade b h r).holdNow h
          overdue := (r.head h).overdue.follow ((State.closeBlade b h r).holdNow h).held } := by
      unfold State.closeHold
      dsimp only
      split <;> simp [State.closeBlade, Head.reworkBlade]
    refine ⟨(b.head h).standsBy b.job.state.isOpen, (State.closeBlade b h r).holdNow h,
      ((State.closeBlade b h r).holdNow h).held, (State.closeHold b h (State.closeBlade b h r)).lapseNow h, w, ?_⟩
    rw [State.closeHead, State.closeWatch, told, State.closeLapse, State.head_modHead_self, held]
    rfl
  cases h with
  | a => rw [State.closeEvent_head_a]; exact closed s
  | b =>
    have same : (State.closeHead b .a s).head .b = s.head .b := State.closeHead_head_other b s .a
    have reworked := closed (State.closeHead b .a s)
    rw [same, State.closeHead_job] at reworked
    exact reworked

end Sys2Proof.Machine

/-! PROOFS. Properties of one head that every step keeps: what has to be shown of the head's own changes, and with it the
capacity and the order of queue and window. -/

namespace Sys2Proof.Machine

/-! ### A property of each head -/

/-- A property of a head that every change of a head keeps; a change of its settings in a state with property `I`, and in
IDLE. -/
structure HeadKept (I : State → Prop) (Q : Head → Prop) : Prop where
  work : ∀ {s : State} {k : HeadId} {x : Head}, HeadWork s k x → Q (s.head k) → Q x
  timed : ∀ {s : State} {k : HeadId} {x : Head}, HeadTimed s k x → Q (s.head k) → Q x
  after : ∀ {hd : Head} (d w), Q hd → Q (hd.after d w)
  close : ∀ {hd : Head} (stood jobOpen hold line lapse w), Q hd →
    Q { hd.reworkBlade stood jobOpen with hold := hold, overdue := hd.overdue.follow line, lapse := lapse, watch := w }
  elapse : ∀ {hd : Head} (d), Q hd → Q (hd.elapse d)
  waits : ∀ {hd : Head} (w), Q hd → Q { hd.grantTaken with watch := w }
  samples : ∀ {hd : Head} (samples), Q hd → Q { hd with blade := hd.blade.addSamples samples }
  cutSet : ∀ {s : State} (k : HeadId) (p : CutParams), I s → s.job.state = .idle → p.inRange = true → Q (s.head k) →
    Q { s.head k with cut := p }
  bladeSet : ∀ {s : State} (k : HeadId) (p : BladeParams), I s → s.job.state = .idle → p.inRange = true → Q (s.head k) →
    Q { s.head k with bladeParams := p }
  guardSet : ∀ {s : State} (k : HeadId) (g : GuardSettings), I s → s.job.state = .idle → g.inRange = true → Q (s.head k) →
    Q ((s.head k).guardSet g)
  power : ∀ (park), Q (Head.reset park 16 FaultRecord.clear)
  warm : ∀ {hd : Head} (park), Q hd → Q (Head.reset park hd.blade.trim hd.blade.record)

theorem HeadKept.closeEvent {I : State → Prop} {Q : Head → Prop} (kept : HeadKept I Q) (b s : State) (h : HeadId) (start : Q (s.head h)) :
    Q ((State.closeEvent b s).head h) := by
  obtain ⟨stood, hold, line, lapse, w, e⟩ := State.closeEvent_head b s h
  rw [e]
  exact kept.close _ _ _ _ _ _ start

theorem State.modSelected_keeps {Q : Head → Prop} {sel : Byte} {hs : List HeadId} (named : selectorOf sel = some hs) {s : State}
    {f : Head → Head} (change : ∀ h, Q (s.head h) → Q (f (s.head h))) (start : ∀ h, Q (s.head h)) (h : HeadId) :
    Q ((s.modSelected hs f).head h) := by
  obtain e | e := State.modSelected_head_or named s f h
  · exact e ▸ change _ (start h)
  · exact e ▸ start h

theorem State.modHead_head_of {P : Head → Prop} {s : State} {k : HeadId} {f : Head → Head} (own : P (f (s.head k)))
    (others : ∀ h, P (s.head h)) (h : HeadId) : P ((s.modHead k f).head h) := by
  obtain rfl | rfl := HeadId.eq_or_other k h
  · rwa [State.head_modHead_self]
  · rw [State.head_modHead_other]; exact others _

theorem State.waits_head (s : State) (k : HeadId) (reasons : WaitSet) (range : Option ZoneRange) :
    ((s.grantTaken k).setWatch k reasons range).head k = { (s.head k).grantTaken with watch := ⟨reasons, range⟩ } := by
  rw [State.setWatch, State.head_modHead_self, State.grantTaken_head]

theorem State.waits_head_other (s : State) (k : HeadId) (reasons : WaitSet) (range : Option ZoneRange) :
    ((s.grantTaken k).setWatch k reasons range).head k.other = s.head k.other := by
  rw [State.setWatch, State.head_modHead_other, State.grantTaken_head_other]

@[simp] theorem State.head_emptyAttention (s : State) (l : LinkId) (h : HeadId) : (s.emptyAttention l).head h = s.head h := rfl
@[simp] theorem State.head_zoneSet (s : State) (cfg : ZoneSettings) (h : HeadId) : (s.zoneSet cfg).head h = s.head h := rfl
@[simp] theorem State.head_pieceDeclared (s : State) (p : PieceReq) (h : HeadId) :
    (s.pieceDeclared p).head h = s.head h := rfl
@[simp] theorem State.head_setQueue (s : State) (q : List Instr) (n : Nat) (h : HeadId) :
    ({ s with pending := q, free := n } : State).head h = s.head h := rfl
@[simp] theorem State.head_setResetHold (s : State) (r : Option ResetHold) (h : HeadId) :
    ({ s with resetHold := r } : State).head h = s.head h := rfl
@[simp] theorem State.head_endHold (s : State) (rate : LinkRate) (cause : ResetCause) (h : HeadId) :
    (s.endHold rate cause).head h = s.head h := rfl

theorem State.head_powerReset (s : State) (h : HeadId) : ∃ park, s.powerReset.head h = Head.reset park 16 FaultRecord.clear := by
  cases h
  · exact ⟨_, rfl⟩
  · exact ⟨_, rfl⟩

theorem State.head_warmReset (s : State) (cause : ResetCause) (h : HeadId) :
    ∃ park, (s.warmReset cause).head h = Head.reset park (s.head h).blade.trim (s.head h).blade.record := by
  cases h
  · exact ⟨_, rfl⟩
  · exact ⟨_, rfl⟩

theorem HeadKept.answered {I : State → Prop} {Q : Head → Prop} (kept : HeadKept I Q) {s t : State} (done : Answered s t)
    (side : I s) (start : ∀ h, Q (s.head h)) : ∀ h, Q (t.head h) := by
  cases done with
  | same => exact start
  | attention l => exact start
  | waits k reasons range =>
    intro h
    obtain rfl | rfl := HeadId.eq_or_other k h
    · rw [State.waits_head]; exact kept.waits _ (start _)
    · rw [State.waits_head_other]; exact start _
  | classSet cls coef => exact start
  | cutSet sel hs p job named fits => exact State.modSelected_keeps named (fun h => kept.cutSet h p side job fits) start
  | zoneSet cfg => exact start
  | bladeSet sel hs p job named fits => exact State.modSelected_keeps named (fun h => kept.bladeSet h p side job fits) start
  | guardSet sel hs g job named fits => exact State.modSelected_keeps named (fun h => kept.guardSet h g side job fits) start
  | pieceDeclare p => exact start
  | work w =>
    intro h
    obtain ⟨x, d, v, changed, e⟩ := w.head h
    exact kept.closeEvent _ _ h (e ▸ kept.after d v (kept.work changed (start h)))

theorem HeadKept.tick {I : State → Prop} {Q : Head → Prop} (kept : HeadKept I Q) {s t : State} (tick : Tick s t)
    (start : ∀ h, Q (s.head h)) : ∀ h, Q (t.head h) := by
  cases tick with
  | time d => intro h; rw [State.head_elapse]; exact kept.elapse d (start h)
  | line k => exact start
  | samples k samples => exact State.modHead_head_of (kept.samples samples (start k)) start
  | work w =>
    intro h
    obtain ⟨x, v, changed, e⟩ := w.head h
    exact kept.closeEvent _ _ h (e ▸ kept.after false v (kept.timed changed (start h)))

/-- What every change of a head keeps, a step keeps of each head, while it keeps `I`. -/
theorem HeadKept.byParts {I : State → Prop} {Q : Head → Prop} (kept : HeadKept I Q) (side : KeptByParts I) :
    KeptByParts fun s => I s ∧ ∀ h, Q (s.head h) where
  line l k start := ⟨side.line l k start.1, by simpa using start.2⟩
  queue q n start := ⟨side.queue q n start.1, start.2⟩
  answered done start := ⟨side.answered done start.1, kept.answered done start.1 start.2⟩
  tick done start := ⟨side.tick done start.1, kept.tick done start.2⟩
  power start := ⟨side.power start.1, fun h => by
    obtain ⟨park, e⟩ := State.head_powerReset _ h
    exact e ▸ kept.power park⟩
  warm cause start := ⟨side.warm cause start.1, fun h => by
    obtain ⟨park, e⟩ := State.head_warmReset _ cause h
    exact e ▸ kept.warm park (start.2 h)⟩
  extend r start := ⟨side.extend r start.1, start.2⟩
  endHold rate cause start := ⟨side.endHold rate cause start.1, start.2⟩

/-- Every step keeps what says nothing. -/
theorem KeptByParts.trivial : KeptByParts fun _ => True := by constructor <;> intros <;> trivial

/-- A property of each head that needs no other is kept by every step. -/
theorem HeadKept.step {Q : Head → Prop} (kept : HeadKept (fun _ => True) Q) {s t : State} (start : ∀ h, Q (s.head h))
    (next : step s = .next t) : ∀ h, Q (t.head h) :=
  ((kept.byParts .trivial).step ⟨trivial, start⟩ next).2

/-! ### Fields that the operations of a head leave alone -/

@[simp] theorem Head.prepared_queue (e : Entry) (hd : Head) : (hd.prepared e).queue = hd.queue := by
  unfold Head.prepared; split <;> rfl
@[simp] theorem Head.prepared_window (e : Entry) (hd : Head) : (hd.prepared e).window = hd.window := by
  unfold Head.prepared; split <;> rfl
@[simp] theorem Head.prepared_nextSeq (e : Entry) (hd : Head) : (hd.prepared e).nextSeq = hd.nextSeq := by
  unfold Head.prepared; split <;> rfl
@[simp] theorem Head.prepared_standing (e : Entry) (hd : Head) : (hd.prepared e).standing = hd.standing := by
  unfold Head.prepared; split <;> rfl
@[simp] theorem Head.prepared_claim (e : Entry) (hd : Head) : (hd.prepared e).claim = hd.claim := by
  unfold Head.prepared; split <;> rfl
@[simp] theorem Head.prepared_service (e : Entry) (hd : Head) : (hd.prepared e).service = hd.service := by
  unfold Head.prepared; split <;> rfl
@[simp] theorem Head.prepared_hold (e : Entry) (hd : Head) : (hd.prepared e).hold = hd.hold := by
  unfold Head.prepared; split <;> rfl
@[simp] theorem Head.prepared_overdue (e : Entry) (hd : Head) : (hd.prepared e).overdue = hd.overdue := by
  unfold Head.prepared; split <;> rfl
@[simp] theorem Head.prepared_bladeParams (e : Entry) (hd : Head) : (hd.prepared e).bladeParams = hd.bladeParams := by
  unfold Head.prepared; split <;> rfl
@[simp] theorem Head.prepared_guard (e : Entry) (hd : Head) : (hd.prepared e).guard = hd.guard := by
  unfold Head.prepared; split <;> rfl
@[simp] theorem Head.prepared_cut (e : Entry) (hd : Head) : (hd.prepared e).cut = hd.cut := by
  unfold Head.prepared; split <;> rfl

/-- A withdrawal empties queue and window and changes the retired runs, and nothing else (R14, R80). -/
theorem Head.withdraw_eq (hd : Head) :
    ∃ runs floor, hd.withdraw = { hd with queue := [], window := [], runs := runs, floor := floor } := by
  unfold Head.withdraw
  generalize stretches hd.numbers = rs
  suffices added : ∀ x : Head, ∃ runs floor,
      rs.foldl (fun hd r => hd.addRun ⟨r.1, r.2, .withdrawn⟩) x = { x with runs := runs, floor := floor } from added _
  induction rs with
  | nil => exact fun x => ⟨x.runs, x.floor, rfl⟩
  | cons r rs ih =>
    intro x
    obtain ⟨runs, floor, e⟩ := ih (x.addRun ⟨r.1, r.2, .withdrawn⟩)
    exact ⟨runs, floor, e⟩

/-- A FLUSH of a queue that holds work empties it, changes the retired runs and the reference, and drops watch and pending
request (R39). -/
theorem Head.flush_eq {hd : Head} (work : hd.queue ≠ []) :
    ∃ runs floor, hd.flush = { hd with
      queue := [], ref := hd.flushReference, watch := Watch.empty, pendingReq := none, runs := runs, floor := floor } := by
  obtain ⟨f, first⟩ := Option.ne_none_iff_exists'.mp (mt List.head?_eq_none_iff.mp work)
  obtain ⟨l, last⟩ := Option.ne_none_iff_exists'.mp (mt List.getLast?_eq_none_iff.mp work)
  refine ⟨(hd.addRun ⟨f.seg.number, l.seg.number, .flushed⟩).runs, (hd.addRun ⟨f.seg.number, l.seg.number, .flushed⟩).floor, ?_⟩
  simp only [Head.flush, Head.queueEnds, first, last]
  rfl

/-- A head whose idle-delay timer may have started is as it was but for that timer (R104). -/
theorem Head.startIdle_if (starts : Bool) (hd : Head) :
    ∃ timer, (if starts then hd.startIdle else hd) = { hd with blade := { hd.blade with idleTimer := timer } } := by
  cases starts
  · exact ⟨hd.blade.idleTimer, rfl⟩
  · exact ⟨some (hd.bladeParams.idleDelay * 1000), rfl⟩

/-- The head after its oldest entry is done, up to the idle-delay timer (R77). -/
theorem Head.completed_eq (w : WinEntry) (hd : Head) :
    ∃ timer, Head.completed w hd = ({ hd with
      window := hd.window.tail
      overdue := match hd.window.tail with
        | [] => ⟨.stopped, 0, 0⟩
        | v :: _ => Overdue.start v.result.allowance
      hold := { hd.hold with overdue := false }
      blade := { hd.blade with idleTimer := timer } } : Head).standAt w.entry.seg.last := by
  obtain ⟨timer, e⟩ := Head.startIdle_if _ _
  exact ⟨timer, e⟩

/-- A released head stands at its point with nothing queued or granted, up to its runs and its idle-delay timer (R80). -/
theorem Head.released_eq (p : Point) (hd : Head) :
    ∃ runs floor timer, Head.released p hd = { hd with
      queue := [], window := [], standing := p, claim := ⟨p.x, p.x⟩, ref := standingRef p, runs := runs, floor := floor
      overdue := ⟨.stopped, 0, 0⟩, hold := { hd.hold with overdue := false }, watch := Watch.empty, pendingReq := none
      blade := { hd.blade with idleTimer := timer } } := by
  obtain ⟨runs, floor, e⟩ := hd.withdraw_eq
  unfold Head.released
  dsimp only
  rw [e]
  split
  · exact ⟨runs, floor, _, rfl⟩
  · exact ⟨runs, floor, hd.blade.idleTimer, rfl⟩

/-- An aborted head keeps its standing point, with nothing queued or granted (R14, R15). -/
theorem Head.aborted_eq (hd : Head) :
    ∃ runs floor, hd.aborted = { hd with
      queue := [], window := [], claim := ⟨hd.standing.x, hd.standing.x⟩, runs := runs, floor := floor
      overdue := ⟨.stopped, 0, 0⟩, hold := { hd.hold with overdue := false }, watch := Watch.empty, pendingReq := none
      blade := hd.blade.abortStop hd.guard.abortAction } := by
  obtain ⟨runs, floor, e⟩ := hd.withdraw_eq
  unfold Head.aborted
  dsimp only
  rw [e]
  exact ⟨runs, floor, rfl⟩

/-- A stop check that passes: an open job, a head in service, room in the window, and no reason but BLADE (R66). -/
theorem State.grantStop_passes {s : State} {h : HeadId} {e : Entry} (stop : s.grantStop h = .passes e) :
    s.job.state.isOpen = true ∧ (s.head h).inService = true ∧ (∃ rest, (s.head h).queue = e :: rest) ∧
      (s.head h).window.length < 4 ∧ (s.head h).hold.beyondBlade = false := by
  unfold State.grantStop at stop
  dsimp only at stop
  split at stop
  · cases stop
  · split at stop
    · cases stop
    · split at stop
      · cases stop
      · split at stop
        · cases stop
        · split at stop
          · cases stop
          · cases stop
            simp_all

/-! ### Capacity and order -/

/-- The checks of a SEGMENT that passes (R24). -/
theorem State.segmentReply_none {s : State} {h : HeadId} {r : SegmentReq} (passes : s.segmentReply h r = none) :
    s.segCheck1 h = none ∧ (s.head h).segCheck2 r.number.toNat = none ∧ (s.head h).segCheck3 = none ∧ segCheck4 r = none ∧
      (s.head h).segCheck5 (submitted r) = none ∧ segCheck6 (submitted r) = none ∧ segCheck7 (submitted r) = none ∧
      segCheck8 (submitted r) = none ∧ (s.head h).segCheck9 (submitted r) = none ∧
      (s.head h).segCheck10 (submitted r) = none ∧ s.segCheck11 (submitted r) = none := by
  unfold State.segmentReply firstReply at passes
  simpa [List.findSome?_eq_none_iff, submitted] using passes

/-- A number that passes check 2 is the next expected one, and numbers do not run out with it (R26). -/
theorem Head.segCheck2_none {hd : Head} {n : Nat} (passes : hd.segCheck2 n = none) :
    1 ≤ n ∧ n = hd.nextSeq ∧ hd.nextSeq ≠ 65536 := by
  unfold Head.segCheck2 at passes
  repeat' split at passes
  all_goals first
    | (simp [refuse] at passes; done)
    | omega

theorem Head.segCheck3_none {hd : Head} (passes : hd.segCheck3 = none) : hd.queue.length + hd.window.length < 32 := by
  unfold Head.segCheck3 refuse at passes
  split at passes
  · cases passes
  · omega

@[simp] theorem submitted_number (r : SegmentReq) : (submitted r).number = r.number.toNat := rfl

theorem Head.withinCapacity_of {x y : Head} (same : x.WithinCapacity) (queue : y.queue = x.queue) (window : y.window = x.window) :
    y.WithinCapacity := by
  unfold Head.WithinCapacity at same ⊢
  rwa [queue, window]

theorem Head.withinCapacity_empty {hd : Head} (queue : hd.queue = []) (window : hd.window = []) : hd.WithinCapacity := by
  simp [Head.WithinCapacity, queue, window]

theorem HeadWork.withinCapacity {s : State} {k : HeadId} {x : Head} (work : HeadWork s k x)
    (start : (s.head k).WithinCapacity) : x.WithinCapacity := by
  obtain ⟨four, total⟩ := start
  cases work with
  | same | cellHold | faultClear => exact ⟨four, total⟩
  | segment r passes =>
    obtain ⟨-, -, room, -⟩ := State.segmentReply_none passes
    have := Head.segCheck3_none room
    refine ⟨four, ?_⟩
    simp only [Head.enqueue, List.length_append, List.length_singleton]
    omega
  | flush work =>
    obtain ⟨runs, floor, e⟩ := Head.flush_eq work
    rw [e]
    refine ⟨four, ?_⟩
    dsimp only
    simp only [List.length_nil]
    omega
  | grant e r stop clear =>
    obtain ⟨-, -, ⟨rest, queue⟩, room, -⟩ := State.grantStop_passes stop
    rw [queue, List.length_cons] at total
    refine ⟨?_, ?_⟩ <;> simp [Head.granted, Head.reclaim, Head.grantTaken, queue] <;> omega
  | prepare e stop => exact Head.withinCapacity_of ⟨four, total⟩ (by simp [Head.grantTaken]) (by simp [Head.grantTaken])
  | done w rest oldest =>
    obtain ⟨timer, e⟩ := Head.completed_eq w (s.head k)
    rw [e]
    refine ⟨?_, ?_⟩ <;> simp [Head.standAt, Head.reclaim] <;> omega
  | openJob p => exact Head.withinCapacity_empty rfl rfl
  | abort =>
    obtain ⟨runs, floor, e⟩ := (s.head k).aborted_eq
    exact e ▸ Head.withinCapacity_empty rfl rfl
  | bedSet p =>
    unfold Head.newPark
    split <;> exact ⟨four, total⟩
  | release p fits =>
    obtain ⟨runs, floor, timer, e⟩ := Head.released_eq p (s.head k)
    exact e ▸ Head.withinCapacity_empty rfl rfl
  | serviceOut | serviceIn => exact ⟨four, total⟩

theorem Head.InOrder.of_same {x y : Head} (order : x.InOrder) (queue : y.queue = x.queue) (window : y.window = x.window)
    (nextSeq : y.nextSeq = x.nextSeq) : y.InOrder := by
  unfold Head.InOrder Head.numbers at order ⊢
  rwa [queue, window, nextSeq]

/-- With fewer of its numbers in their places a head stays in order. -/
theorem Head.InOrder.of_sublist {x y : Head} (order : x.InOrder) (numbers : y.numbers.Sublist x.numbers)
    (nextSeq : y.nextSeq = x.nextSeq) : y.InOrder := by
  obtain ⟨ascend, bounds, least, most⟩ := order
  exact ⟨ascend.sublist numbers, fun n mem => nextSeq ▸ bounds n (numbers.subset mem), nextSeq ▸ least, nextSeq ▸ most⟩

/-- The next expected number joins at the newest end (R36). -/
theorem Head.InOrder.enqueue {hd : Head} (order : hd.InOrder) {g : Segment} (next : g.number = hd.nextSeq)
    (one : 1 ≤ g.number) (fits : g.number ≤ 65535) : (hd.enqueue g).InOrder := by
  obtain ⟨ascend, bounds, least, most⟩ := order
  have numbers : (hd.enqueue g).numbers = hd.numbers ++ [g.number] := by
    simp [Head.numbers, Head.enqueue, Head.entryOf]
  refine ⟨?_, ?_, ?_, ?_⟩
  · rw [numbers, List.pairwise_append]
    refine ⟨ascend, List.pairwise_singleton _ _, fun n mem m last => ?_⟩
    rw [List.mem_singleton.mp last, next]
    exact (bounds n mem).2
  · rw [numbers]
    intro n mem
    show 1 ≤ n ∧ n < g.number + 1
    obtain mem | mem := List.mem_append.mp mem
    · have := bounds n mem
      omega
    · rw [List.mem_singleton.mp mem]
      omega
  · show 1 ≤ g.number + 1
    omega
  · show g.number + 1 ≤ 65536
    omega

theorem HeadWork.inOrder {s : State} {k : HeadId} {x : Head} (work : HeadWork s k x) (start : (s.head k).InOrder) :
    x.InOrder := by
  cases work with
  | same | cellHold | faultClear => exact start
  | segment r passes =>
    obtain ⟨-, next, -⟩ := State.segmentReply_none passes
    obtain ⟨one, next, -⟩ := Head.segCheck2_none next
    exact start.enqueue next one (by have := r.number.isLt; rw [submitted_number]; omega)
  | flush work =>
    obtain ⟨runs, floor, e⟩ := Head.flush_eq work
    rw [e]
    exact start.of_sublist (by simp [Head.numbers]) rfl
  | grant e r stop clear =>
    obtain ⟨-, -, ⟨rest, queue⟩, -⟩ := State.grantStop_passes stop
    exact start.of_sublist (by simp [Head.numbers, Head.granted, Head.reclaim, Head.grantTaken, queue])
      (by simp [Head.granted, Head.reclaim, Head.grantTaken])
  | prepare e stop =>
    exact start.of_same (by simp [Head.grantTaken]) (by simp [Head.grantTaken]) (by simp [Head.grantTaken])
  | done w rest oldest =>
    obtain ⟨timer, e⟩ := Head.completed_eq w (s.head k)
    rw [e]
    exact start.of_sublist (by simp [Head.numbers, Head.standAt, Head.reclaim, oldest]) rfl
  | openJob p => exact ⟨.nil, by simp [Head.numbers, Head.openAt, Head.standAt, Head.reclaim], le_refl 1, (by decide : (1 : Nat) ≤ 65536)⟩
  | abort =>
    obtain ⟨runs, floor, e⟩ := (s.head k).aborted_eq
    rw [e]
    exact start.of_sublist (by simp [Head.numbers]) rfl
  | bedSet p =>
    unfold Head.newPark
    split
    · exact start
    · exact start.of_same rfl rfl rfl
  | release p fits =>
    obtain ⟨runs, floor, timer, e⟩ := Head.released_eq p (s.head k)
    rw [e]
    exact start.of_sublist (by simp [Head.numbers]) rfl
  | serviceOut | serviceIn => exact start.of_same rfl rfl rfl

theorem HeadTimed.path {s : State} {k : HeadId} {x : Head} (timed : HeadTimed s k x) :
    x.queue = (s.head k).queue ∧ x.window = (s.head k).window ∧ x.nextSeq = (s.head k).nextSeq := by
  cases timed <;> exact ⟨rfl, rfl, rfl⟩

theorem withinCapacity_kept : HeadKept (fun _ => True) Head.WithinCapacity where
  work changed start := changed.withinCapacity start
  timed changed start := by
    obtain ⟨queue, window, -⟩ := changed.path
    exact Head.withinCapacity_of start queue window
  after d w start := Head.withinCapacity_of start (Head.after_queue d w _) (Head.after_window d w _)
  close _ _ _ _ _ _ start := start
  elapse _ start := start
  waits _ start := start
  samples _ start := start
  cutSet _ _ _ _ _ start := start
  bladeSet _ _ _ _ _ start := start
  guardSet _ _ _ _ _ start := start
  power _ := Head.withinCapacity_empty rfl rfl
  warm _ _ := Head.withinCapacity_empty rfl rfl

theorem Head.inOrder_reset (park : Point) (trim : Nat) (record : FaultRecord) : (Head.reset park trim record).InOrder := by
  simp [Head.InOrder, Head.numbers, Head.reset]

theorem inOrder_kept : HeadKept (fun _ => True) Head.InOrder where
  work changed start := changed.inOrder start
  timed changed start := by
    obtain ⟨queue, window, nextSeq⟩ := changed.path
    exact start.of_same queue window nextSeq
  after d w start := start.of_same (Head.after_queue d w _) (Head.after_window d w _) (Head.after_nextSeq d w _)
  close _ _ _ _ _ _ start := start
  elapse _ start := start
  waits _ start := start
  samples _ start := start
  cutSet _ _ _ _ _ start := start
  bladeSet _ _ _ _ _ start := start
  guardSet _ _ _ _ _ start := start
  power park := Head.inOrder_reset park _ _
  warm park _ := Head.inOrder_reset park _ _

/-- Settles O58: only an accepted SEGMENT, FLUSH, GRANT, DONE, OPEN, ABORT and RELEASE change queue or window, and each keeps
capacity and order. -/
theorem numbersStayInOrder : Obligations.NumbersStayInOrder := fun _ _ next =>
  ⟨fun start => withinCapacity_kept.step start next, fun start => inOrder_kept.step start next⟩

end Sys2Proof.Machine

/-! PROOFS. The piece table: what a credit, a scrapping, a TAKE and a declaration make of it. -/

namespace Sys2Proof.Machine

/-- The table of a list of records: at most 64, of distinct ids, each consistent (R145). -/
def TableKept (ps : List Piece) : Prop := ps.length ≤ 64 ∧ (ps.map Piece.id).Nodup ∧ ∀ p ∈ ps, p.Consistent

theorem pieceTableKept_iff (s : State) : PieceTableKept s ↔ TableKept s.pieces := Iff.rfl

theorem TableKept.nil : TableKept [] := ⟨Nat.zero_le _, .nil, by simp⟩

/-- A change of the records that leaves ids alone and keeps each consistent keeps the table. -/
theorem TableKept.map {ps : List Piece} (kept : TableKept ps) {f : Piece → Piece} (ids : ∀ p, (f p).id = p.id)
    (consistent : ∀ p ∈ ps, p.Consistent → (f p).Consistent) : TableKept (ps.map f) := by
  obtain ⟨length, nodup, each⟩ := kept
  refine ⟨by simpa using length, ?_, ?_⟩
  · rw [List.map_map]
    have same : Piece.id ∘ f = Piece.id := funext ids
    rwa [same]
  · rw [List.forall_mem_map]
    exact fun p mem => consistent p mem (each p mem)

theorem Piece.scrap_id (p : Piece) : p.scrap.id = p.id := by
  unfold Piece.scrap; split <;> rfl

theorem Piece.Consistent.scrap {p : Piece} (ok : p.Consistent) : p.scrap.Consistent := by
  unfold Piece.scrap
  split
  · obtain ⟨contributors, edges, id, idMost, least, most, span, bed, -, -, -⟩ := ok
    exact ⟨contributors, edges, id, idMost, least, most, span, bed, by simp, by simp [Piece.isOpen], by simp⟩
  · exact ok

theorem TableKept.scrap {ps : List Piece} (kept : TableKept ps) : TableKept (ps.map Piece.scrap) :=
  kept.map Piece.scrap_id fun _ _ => Piece.Consistent.scrap

theorem Piece.credit_id (h : HeadId) (n : Nat) (p : Piece) : (p.credit h n).id = p.id := by
  unfold Piece.credit; split <;> rfl

/-- A credit adds an edge and a contributor to an open piece, and severs it with its last (R147 to R149). -/
theorem Piece.Consistent.credit {p : Piece} (h : HeadId) (n : Nat) (ok : p.Consistent) : (p.credit h n).Consistent := by
  unfold Piece.credit
  split
  · next takes =>
    obtain ⟨contributors, edges, id, idMost, least, most, span, bed, -, room, -⟩ := ok
    have room := room takes
    refine ⟨by simp [contributors], room, id, idMost, least, most, span, bed, ?_, ?_, ?_⟩
    all_goals dsimp only; split <;> simp [Piece.isOpen] <;> omega
  · exact ok

theorem State.creditTag_pieces (h : HeadId) (n : Nat) (s : State) (tag : Nat) :
    (State.creditTag h n s tag).pieces = s.pieces.map fun p => if p.id = tag then p.credit h n else p := by
  unfold State.creditTag; dsimp only; split <;> rfl

theorem TableKept.creditTag {s : State} (kept : TableKept s.pieces) (h : HeadId) (n tag : Nat) :
    TableKept (State.creditTag h n s tag).pieces := by
  rw [State.creditTag_pieces]
  refine kept.map (fun p => ?_) fun p _ ok => ?_
  · split
    · exact Piece.credit_id h n p
    · rfl
  · split
    · exact ok.credit h n
    · exact ok

theorem TableKept.credit {s : State} (kept : TableKept s.pieces) (h : HeadId) (n : Nat) (tags : List Nat) :
    TableKept (s.credit h n tags).pieces := by
  unfold State.credit
  induction tags generalizing s with
  | nil => exact kept
  | cons tag tags ih => exact ih (kept.creditTag h n tag)

/-- An id that was found is carried by that record alone (R145). -/
theorem TableKept.unique {s : State} (kept : TableKept s.pieces) {id : Nat} {p q : Piece} (found : s.findPiece id = some p)
    (mem : q ∈ s.pieces) (named : q.id = id) : q = p := by
  unfold State.findPiece at found
  have same : p.id = id := by simpa using List.find?_some found
  exact List.inj_on_of_nodup_map kept.2.1 mem (List.mem_of_find?_eq_some found) (named.trans same.symm)

/-- A TAKE that is accepted finds its piece SEVERED (R150). -/
theorem State.takeRefusal_none {s : State} {id : Nat} (fits : s.takeRefusal id = none) :
    ∃ p, s.findPiece id = some p ∧ p.st = .severed := by
  unfold State.takeRefusal at fits
  split at fits
  · cases fits
  · split at fits
    · cases fits
    · next p found =>
      split at fits
      · next severed => exact ⟨p, found, severed⟩
      · cases fits

theorem TableKept.take {s : State} (kept : TableKept s.pieces) {id : Nat} (fits : s.takeRefusal id = none) :
    TableKept (s.pieces.map fun p : Piece => if p.id = id then { p with st := .taken } else p) := by
  obtain ⟨p, found, severed⟩ := State.takeRefusal_none fits
  refine kept.map (fun p => by split <;> rfl) fun q mem ok => ?_
  split
  · next named =>
    obtain rfl := kept.unique found mem named
    obtain ⟨contributors, edges, id, idMost, least, most, span, bed, whole, -, -⟩ := ok
    exact ⟨contributors, edges, id, idMost, least, most, span, bed, fun _ => whole (.inl severed), by simp [Piece.isOpen], by simp⟩
  · exact ok

/-- The tests an accepted PIECE DECLARE has passed (R146). -/
theorem State.pieceDeclareRefusal_none {s : State} {p : PieceReq} (fits : s.pieceDeclareRefusal p = none) :
    s.job.state ≠ .idle ∧ badPieceId p.id.toNat = false ∧ 1 ≤ p.edges.toNat ∧ p.edges.toNat ≤ 12 ∧
      p.hi.toNat ≤ Config.bedX ∧ p.lo.toNat ≤ p.hi.toNat ∧ s.findPiece p.id.toNat = none ∧ s.pieces.length < 64 := by
  unfold State.pieceDeclareRefusal at fits
  split at fits
  · cases fits
  · next job =>
    split at fits
    · cases fits
    · next ranges =>
      split at fits
      · cases fits
      · next fresh =>
        split at fits
        · cases fits
        · simp only [Bool.or_eq_true, decide_eq_true_eq, not_or] at ranges
          obtain ⟨⟨⟨⟨⟨id, edges⟩, twelve⟩, -⟩, hi⟩, span⟩ := ranges
          exact ⟨job, Bool.eq_false_iff.mpr id, by omega, by omega, by omega, by omega, by simpa using fresh, by omega⟩

theorem badPieceId_eq_false {id : Nat} : badPieceId id = false ↔ 1 ≤ id ∧ id ≤ 250 := by
  simp only [badPieceId, Bool.or_eq_false_iff, decide_eq_false_iff_not]
  omega

theorem TableKept.declare {s : State} (kept : TableKept s.pieces) {p : PieceReq} (fits : s.pieceDeclareRefusal p = none) :
    TableKept (s.pieces ++ [pieceRecord p]) := by
  obtain ⟨length, nodup, each⟩ := kept
  obtain ⟨-, id, least, most, bed, span, fresh, room⟩ := State.pieceDeclareRefusal_none fits
  obtain ⟨idLeast, idMost⟩ := badPieceId_eq_false.mp id
  have new : ∀ q ∈ s.pieces, q.id ≠ p.id.toNat := by simpa [State.findPiece, List.find?_eq_none] using fresh
  refine ⟨by rw [List.length_append, List.length_singleton]; omega, ?_, ?_⟩
  · rw [List.map_append, List.nodup_append]
    refine ⟨nodup, List.nodup_singleton _, ?_⟩
    intro a mem b last
    obtain ⟨q, inTable, rfl⟩ := List.mem_map.mp mem
    rw [List.map_singleton, List.mem_singleton] at last
    exact last ▸ new q inTable
  · intro q mem
    obtain old | last := List.mem_append.mp mem
    · exact each q old
    · rw [List.mem_singleton.mp last]
      refine ⟨rfl, Nat.zero_le _, idLeast, idMost, least, most, span, bed, by simp [pieceRecord], fun _ => least, fun _ => rfl⟩

/-! ### The pieces after the body of an event -/

@[simp] theorem State.drain_pieces (s : State) : s.drain.pieces = s.pieces.map Piece.scrap := by
  unfold State.drain
  rw [State.reevaluate_pieces]
  rfl

theorem TableKept.drainIfDone {s : State} (kept : TableKept s.pieces) : TableKept s.drainIfDone.pieces := by
  unfold State.drainIfDone
  split
  · rw [State.drain_pieces]; exact kept.scrap
  · exact kept

@[simp] theorem State.preparedFor_pieces (s : State) (h : HeadId) (e : Entry) :
    (s.preparedFor h e).1.pieces = s.pieces := by
  unfold State.preparedFor
  cases e.zones with
  | none => rfl
  | some r => simp [State.prepare]

@[simp] theorem State.grantTaken_pieces (s : State) (h : HeadId) : (s.grantTaken h).pieces = s.pieces := rfl

@[simp] theorem State.modSelected_pieces (s : State) (hs : List HeadId) (f : Head → Head) :
    (s.modSelected hs f).pieces = s.pieces := 
  foldl_keeps State.pieces (fun s h => s.modHead h f) (fun _ _ => rfl) hs s

theorem RequestWork.pieces {s b : State} (work : RequestWork s b) (kept : TableKept s.pieces) : TableKept b.pieces := by
  cases work with
  | segment h r passes => simpa [State.enqueue] using kept
  | flush h serves work => exact TableKept.drainIfDone (by simpa using kept)
  | grant h e stop clear ready => simpa [State.grant] using kept
  | prepare h e stop lacks => simpa using kept
  | done h w rest oldest =>
    refine TableKept.drainIfDone ?_
    rw [State.reevaluate_pieces]
    exact TableKept.credit (by simpa using kept) _ _ _
  | blockLoad layers label =>
    rw [State.blockLoad, State.reevaluate_pieces]
    exact .nil
  | openJob a b => exact kept
  | drain => rw [State.drain_pieces]; exact kept.scrap
  | close => exact kept
  | abort =>
    rw [State.abort, State.reevaluate_pieces]
    exact kept.scrap
  | bedSet separation a b => exact kept
  | take id fits =>
    rw [State.taken, State.reevaluate_pieces]
    exact kept.take fits
  | release h p fits => exact TableKept.drainIfDone (by simpa using kept)
  | cellHold on sel hs named => simpa using kept
  | serviceOut h service fits => simpa [State.serviceOut] using kept
  | serviceIn h service fits => simpa [State.serviceIn] using kept
  | faultClear h latched => simpa using kept
  | zoneClear k lt fault => simpa [State.zoneClear] using kept

@[simp] theorem State.bladeNews_pieces (h : HeadId) (ready bladeFault : Bool) (s : State) :
    (State.bladeNews h ready bladeFault s).pieces = s.pieces := by
  unfold State.bladeNews
  dsimp only
  split <;> split <;> simp

theorem TimedWork.pieces {s b : State} (work : TimedWork s b) : b.pieces = s.pieces := by
  cases work with
  | suspend => simp [State.suspend]
  | endIdleDelay => simp [State.endIdleDelay]
  | endStopDelay => simp [State.endStopDelay]
  | endRetry => simp [State.endRetry]
  | loseStroke => simp [State.loseStroke]
  | lapse => simp [State.lapseRequest]
  | endMark => simp [State.endMark]
  | failZone => simp [State.failZone]
  | pressureGone => rfl
  | pressureCome =>
    unfold State.pressureCome State.zoneBecameHeld
    dsimp only
    split <;> simp
  | pulse => simp

theorem pieceTable_kept : KeptByParts PieceTableKept where
  line _ _ start := start
  queue _ _ start := start
  answered done start := by
    cases done with
    | work w =>
      rw [pieceTableKept_iff, State.closeEvent_pieces]
      exact w.pieces start
    | pieceDeclare p fits => exact TableKept.declare start fits
    | cutSet | bladeSet | guardSet => rw [pieceTableKept_iff, State.modSelected_pieces]; exact start
    | _ => exact start
  tick done start := by
    cases done with
    | work w =>
      rw [pieceTableKept_iff, State.closeEvent_pieces, w.pieces]
      exact start
    | _ => exact start
  power _ := TableKept.nil
  warm _ start := TableKept.scrap start
  extend _ start := start
  endHold _ _ start := start

/-- Settles O59: credits, scrappings, a TAKE and a declaration keep the table, and nothing else changes it. -/
theorem pieceTableIsKept : Obligations.PieceTableIsKept := fun _ _ start next => pieceTable_kept.step start next

end Sys2Proof.Machine

/-! PROOFS. The blade channels: what a change of demand, a fault response and the end of a stroke can make of a channel, and
the invariants of Chapters 6 and 7 that follow. -/

namespace Sys2Proof.Machine

/-! ### What a change of demand makes of a channel -/

/-- The moves of Table 6-3 (R107 to R109). -/
inductive Channel.Moves (p : BladeParams) (c : Channel) : Channel → Prop
  | stays : Channel.Moves p c c
  | stops : Channel.Moves p c (c.stop false)
  | climbs (lvl : Level) : Channel.Moves p c (c.spinUp p lvl)
  | settles (lvl : Level) (runs : c.st.accepts = true) : Channel.Moves p c (c.settle p lvl)
  | joins (i : Nat) (runs : c.st.accepts = true) : Channel.Moves p c
      { c.depart with
        st := .spinup, target := .cut, step := i, stepCount := 0, commanded := p.stepRate .cut i
        watchLeft := some Config.startWindow, missRun := 0, brake := false }
  | retargets (climbs : c.st = .spinup) :
      Channel.Moves p c { c with target := .cut, commanded := p.stepRate .cut c.step }

theorem Channel.raiseToCut_moves (p : BladeParams) {c : Channel} (runs : c.st.accepts = true) :
    Channel.Moves p c (c.raiseToCut p) := by
  unfold Channel.raiseToCut
  split
  · exact .joins _ runs
  · exact .settles _ runs

theorem Channel.act_moves (p : BladeParams) (d : Demand) (c : Channel) : Channel.Moves p c (c.act p d) := by
  have runs {st : ChState} (e : c.st = st) (accepts : st.accepts = true) : c.st.accepts = true := e ▸ accepts
  unfold Channel.act
  split
  · exact .climbs _
  · exact .climbs _
  · exact .stays
  · exact .stops
  · exact .stops
  · exact .stops
  · next e =>
    split
    · exact .retargets e
    · exact .stays
  · next e =>
    split
    · exact .stays
    · exact .settles _ (runs e rfl)
  · next e =>
    split
    · exact c.raiseToCut_moves p (runs e rfl)
    · exact .stays
  · next e =>
    split
    · exact .stays
    · exact .settles _ (runs e rfl)
  · next e =>
    split
    · exact c.raiseToCut_moves p (runs e rfl)
    · exact .stays
  · next e =>
    split
    · exact .stays
    · exact .settles _ (runs e rfl)
  · exact .stays
  · exact .stays

/-- With the demand OFF a channel that runs is stopped (R109). -/
theorem Channel.act_off (p : BladeParams) (c : Channel) : (c.act p .off).st.accepts = false := by
  unfold Channel.act
  cases e : c.st <;> simp [Channel.stop, ChState.accepts, e]

/-! ### Responses -/

/-- A response leaves a channel, up to its fault record, or takes it to RETRY-WAIT or FAULTED with its drive off (R125). -/
inductive Channel.Responds (g : GuardSettings) (c : Channel) : Channel → Prop
  | stays (record : FaultRecord) : Channel.Responds g c { c with record := record }
  | latches (record : FaultRecord) (brake : Bool) :
      Channel.Responds g c (({ c with record := record } : Channel).setAside .faulted brake)
  | retries (record : FaultRecord) (brake : Bool) (allowed : retryAllowed g.retryLimit c.retries = true) :
      Channel.Responds g c { ({ c with record := record } : Channel).setAside .retryWait brake with
        retries := min 255 (c.retries + 1), retryTimer := some (g.retryTime * 1000) }

theorem Channel.retry_responds (g : GuardSettings) (k : FaultKind) (brake : Bool) (c : Channel) :
    Channel.Responds g c ((c.recordFault k).retry g brake) := by
  unfold Channel.retry
  split
  · next allowed => exact .retries _ brake allowed
  · exact .latches _ brake

theorem Channel.respond_responds (g : GuardSettings) (k : FaultKind) (c : Channel) :
    Channel.Responds g c (c.respond g k) := by
  unfold Channel.respond
  split
  · exact .latches _ _
  · exact .latches _ _
  · exact c.retry_responds g k _
  · exact c.retry_responds g k _
  · exact .stays _
  · exact .stays c.record

/-- STROKE-LOST is a response, up to the stroke watch (R111, R120). -/
theorem Channel.strokeLost_responds (g : GuardSettings) (c : Channel) :
    ∃ d watch, Channel.Responds g c d ∧ c.strokeLost g = { d with watchLeft := watch } := by
  unfold Channel.strokeLost
  split
  · exact ⟨_, _, c.respond_responds g .strokeLost, rfl⟩
  · exact ⟨c, none, .stays c.record, rfl⟩
  · exact ⟨_, _, c.respond_responds g .strokeLost, rfl⟩
  · exact ⟨_, _, c.respond_responds g .strokeLost, rfl⟩
  · exact ⟨_, _, c.respond_responds g .strokeLost, rfl⟩
  · exact ⟨_, _, c.respond_responds g .strokeLost, rfl⟩

/-! ### The state of a channel at the end of a stroke -/

/-- The guard has taken the channel to RETRY-WAIT or FAULTED (R125). -/
def Channel.SetAside (c : Channel) : Prop := (c.st = .retryWait ∨ c.st = .faulted) ∧ c.measured = 0

theorem Channel.SetAside.off {c : Channel} (aside : c.SetAside) : c.st.accepts = false := by
  obtain ⟨e | e, -⟩ := aside <;> rw [e] <;> rfl

theorem Channel.Responds.st {g : GuardSettings} {c d : Channel} (responds : Channel.Responds g c d) :
    d.st = c.st ∧ d.measured = c.measured ∨ d.SetAside := by
  cases responds
  · exact .inl ⟨rfl, rfl⟩
  · exact .inr ⟨.inr rfl, rfl⟩
  · exact .inr ⟨.inl rfl, rfl⟩

/-- The channel is still in state `st`, or the events say that the guard took it to RETRY-WAIT or FAULTED (R124, R125). -/
def Tracks (st : ChState) (ce : Channel × StrokeEvents) : Prop :=
  (ce.2.bladeFault = false ∧ ce.1.st = st) ∨
    (ce.2.bladeFault = true ∧ ce.1.SetAside)

section
variable {st : ChState} (runs : st.accepts = true) (g : GuardSettings) (k : Stroke)
include runs

theorem detect_tracks (kind : FaultKind) {c : Channel} (e : StrokeEvents) (same : c.st = st) :
    Tracks st (detect g kind c e) := by
  unfold detect Tracks
  dsimp only
  obtain ⟨stays, -⟩ | aside := (c.respond_responds g kind).st
  · exact .inl ⟨by rw [stays, same, runs]; rfl, stays.trans same⟩
  · exact .inr ⟨by rw [aside.off]; rfl, aside⟩

theorem testRough_tracks {ce : Channel × StrokeEvents} (tracks : Tracks st ce) (going : ce.2.bladeFault = false) :
    Tracks st (testRough g k ce) := by
  have same : ce.1.st = st := tracks.elim And.right fun out => by simp [going] at out
  unfold testRough
  dsimp only
  split
  · split
    · exact detect_tracks runs g _ _ same
    · exact .inl ⟨going, same⟩
  · exact tracks

theorem testNoSettle_tracks {ce : Channel × StrokeEvents} (tracks : Tracks st ce) (going : ce.2.bladeFault = false) :
    Tracks st (testNoSettle g k ce) := by
  have same : ce.1.st = st := tracks.elim And.right fun out => by simp [going] at out
  unfold testNoSettle
  split
  · exact detect_tracks runs g _ _ same
  · exact tracks

theorem testOverload_tracks {ce : Channel × StrokeEvents} (tracks : Tracks st ce) (going : ce.2.bladeFault = false) :
    Tracks st (testOverload g k ce) := by
  have same : ce.1.st = st := tracks.elim And.right fun out => by simp [going] at out
  unfold testOverload
  dsimp only
  generalize (if g.lockLimit < k.average then ce.1.lockRun + 1 else 0) = n
  generalize (if decide (g.lockStrokes ≤ n) = true then 0 else n) = m
  split
  · split
    · exact detect_tracks runs g _ _ same
    · exact .inl ⟨going, same⟩
  · exact tracks

theorem testMissing_tracks {ce : Channel × StrokeEvents} (tracks : Tracks st ce) (going : ce.2.bladeFault = false) :
    Tracks st (testMissing g k ce) := by
  have same : ce.1.st = st := tracks.elim And.right fun out => by simp [going] at out
  unfold testMissing
  split
  · split
    · split
      · exact detect_tracks runs g _ _ same
      · exact .inl ⟨going, same⟩
    · exact .inl ⟨going, same⟩
  · exact tracks

omit runs in
theorem countClean_tracks {ce : Channel × StrokeEvents} (tracks : Tracks st ce) : Tracks st (countClean k ce) := by
  unfold countClean
  split
  · split <;> exact tracks
  · exact tracks

omit runs in
theorem unlessOut_tracks {test : Channel × StrokeEvents → Channel × StrokeEvents} {ce : Channel × StrokeEvents}
    (keeps : ce.2.bladeFault = false → Tracks st (test ce)) (tracks : Tracks st ce) : Tracks st (unlessOut test ce) := by
  unfold unlessOut
  split
  · exact tracks
  · next going => exact keeps (Bool.eq_false_iff.mpr going)

theorem guardTests_tracks {ce : Channel × StrokeEvents} (tracks : Tracks st ce) (going : ce.2.bladeFault = false) :
    Tracks st (guardTests g k ce) := by
  have rough := testRough_tracks runs g k tracks going
  have settle := unlessOut_tracks (testNoSettle_tracks runs g k rough) rough
  have overload := unlessOut_tracks (testOverload_tracks runs g k settle) settle
  have missing := unlessOut_tracks (testMissing_tracks runs g k overload) overload
  exact unlessOut_tracks (fun _ => countClean_tracks k missing) missing

end

theorem Channel.judgeTrim_st (p : BladeParams) (k : Stroke) (c : Channel) :
    (c.judgeTrim p k).1.st = c.st ∧ (c.judgeTrim p k).2.bladeFault = false := by
  unfold Channel.judgeTrim
  repeat' split
  all_goals exact ⟨rfl, rfl⟩

theorem Channel.relieve_st (g : GuardSettings) (k : Stroke) (ce : Channel × StrokeEvents) :
    (Channel.relieve g k ce).1.st = ce.1.st ∧ (Channel.relieve g k ce).2.bladeFault = ce.2.bladeFault := by
  unfold Channel.relieve
  dsimp only
  repeat' split
  all_goals exact ⟨rfl, rfl⟩

/-- The channel's own work leaves its state, and is no fault (R124). -/
theorem Channel.ownWork_st (p : BladeParams) (g : GuardSettings) (k : Stroke) (c : Channel) :
    (c.ownWork p g k).1.st = c.st ∧ (c.ownWork p g k).2.bladeFault = false := by
  unfold Channel.ownWork
  split
  · exact ⟨rfl, rfl⟩
  · exact ⟨rfl, rfl⟩
  · split
    · obtain ⟨st, going⟩ := c.judgeTrim_st p k
      obtain ⟨st', going'⟩ := Channel.relieve_st g k (c.judgeTrim p k)
      exact ⟨st'.trans st, going'.trans going⟩
    · exact ⟨rfl, rfl⟩
  · exact ⟨rfl, rfl⟩
  · exact ⟨rfl, rfl⟩
  · exact ⟨rfl, rfl⟩

/-! ### What the end of a stroke makes of a channel -/

/-- A property of a channel that the parts of a stroke's end keep: its counts and measurements, the trim, the clean run, the
guard's responses, and the move of its own work (R124). -/
structure StrokeKept (p : BladeParams) (g : GuardSettings) (R : Channel → Prop) : Prop where
  counts : ∀ (c : Channel) {d : Channel}, d.st = c.st → d.target = c.target → d.demand = c.demand → d.commanded = c.commanded →
    d.trim = c.trim → d.retries = c.retries → R c → R d
  trim : ∀ {c : Channel} (n : Nat), (c.TrimInRange → 4 ≤ n ∧ n ≤ 16) → R c → R { c with trim := n }
  clean : ∀ {c : Channel}, R c → R { c with retries := 0 }
  respond : ∀ {c : Channel} (k : FaultKind), R c → R (c.respond g k)
  nextStep : ∀ {c : Channel}, c.st.accepts = true → R c → R (c.nextStep p)
  enterRun : ∀ {c : Channel}, c.st.accepts = true → R c → R c.enterRun

section
variable {p : BladeParams} {g : GuardSettings} {R : Channel → Prop}

theorem unlessOut_keeps {test : Channel × StrokeEvents → Channel × StrokeEvents}
    (keeps : ∀ {ce : Channel × StrokeEvents}, R ce.1 → R (test ce).1) {ce : Channel × StrokeEvents} (start : R ce.1) :
    R (unlessOut test ce).1 := by
  unfold Machine.unlessOut; split
  · exact start
  · exact keeps start

variable (kept : StrokeKept p g R)
include kept

theorem StrokeKept.judgeTrim (k : Stroke) {c : Channel} (start : R c) : R (c.judgeTrim p k).1 := by
  unfold Channel.judgeTrim
  split
  · exact kept.counts c rfl rfl rfl rfl rfl rfl start
  · split
    · split
      · refine kept.counts {  c with trim := if c.trim ≤ 4 then c.trim else c.trim - 1 } rfl rfl rfl rfl rfl rfl
          (kept.trim _ (fun ⟨least, most⟩ => ?_) start)
        split <;> omega
      · exact kept.counts c rfl rfl rfl rfl rfl rfl start
    · split
      · split
        · refine kept.counts {  c with trim := if 16 ≤ c.trim then c.trim else c.trim + 1 } rfl rfl rfl rfl rfl rfl
            (kept.trim _ (fun ⟨least, most⟩ => ?_) start)
          split <;> omega
        · exact kept.counts c rfl rfl rfl rfl rfl rfl start
      · exact kept.counts c rfl rfl rfl rfl rfl rfl start

theorem StrokeKept.relieve (k : Stroke) {ce : Channel × StrokeEvents} (start : R ce.1) : R (Channel.relieve g k ce).1 := by
  unfold Channel.relieve
  dsimp only
  split
  · exact start
  · split
    · exact kept.counts ce.1 rfl rfl rfl rfl rfl rfl start
    · exact start
  · split
    · split <;> exact kept.counts ce.1 rfl rfl rfl rfl rfl rfl start
    · exact kept.counts ce.1 rfl rfl rfl rfl rfl rfl start

theorem StrokeKept.ownWork (k : Stroke) {c : Channel} (start : R c) : R (c.ownWork p g k).1 := by
  unfold Channel.ownWork
  split
  · exact kept.counts c rfl rfl rfl rfl rfl rfl start
  · exact kept.counts c rfl rfl rfl rfl rfl rfl start
  · split
    · exact kept.relieve k (kept.judgeTrim k start)
    · exact start
  · exact start
  · exact start
  · exact start

theorem StrokeKept.testRough (k : Stroke) {ce : Channel × StrokeEvents} (start : R ce.1) : R (testRough g k ce).1 := by
  have noted : R { ce.1 with lastRunPeriod := some k.period } := kept.counts ce.1 rfl rfl rfl rfl rfl rfl start
  unfold Machine.testRough
  dsimp only
  split
  · split
    · exact kept.respond _ noted
    · exact noted
  · exact start

theorem StrokeKept.testNoSettle (k : Stroke) {ce : Channel × StrokeEvents} (start : R ce.1) :
    R (testNoSettle g k ce).1 := by
  unfold Machine.testNoSettle
  split
  · exact kept.respond _ (kept.counts ce.1 rfl rfl rfl rfl rfl rfl start)
  · exact start

theorem StrokeKept.testOverload (k : Stroke) {ce : Channel × StrokeEvents} (start : R ce.1) :
    R (testOverload g k ce).1 := by
  obtain ⟨c, e⟩ := ce
  have counted (n : Nat) : R { c with lockRun := n } := kept.counts c rfl rfl rfl rfl rfl rfl start
  unfold Machine.testOverload
  dsimp only
  generalize (if g.lockLimit < k.average then c.lockRun + 1 else 0) = n
  generalize (if decide (g.lockStrokes ≤ n) = true then 0 else n) = m
  split
  · split
    · exact kept.respond _ (counted m)
    · exact counted m
  · exact start

theorem StrokeKept.testMissing (k : Stroke) {ce : Channel × StrokeEvents} (start : R ce.1) : R (testMissing g k ce).1 := by
  have counted (n : Nat) : R { ce.1 with missRun := n } := kept.counts ce.1 rfl rfl rfl rfl rfl rfl start
  unfold Machine.testMissing
  split
  · split
    · split
      · exact kept.respond _ (counted _)
      · exact counted _
    · exact counted _
  · exact start

theorem StrokeKept.countClean (k : Stroke) {ce : Channel × StrokeEvents} (start : R ce.1) : R (countClean k ce).1 := by
  unfold Machine.countClean
  split
  · split
    · exact kept.counts {  ce.1 with retries := 0 } rfl rfl rfl rfl rfl rfl (kept.clean start)
    · exact kept.counts ce.1 rfl rfl rfl rfl rfl rfl start
  · exact start

theorem StrokeKept.guardTests (k : Stroke) {ce : Channel × StrokeEvents} (start : R ce.1) : R (guardTests g k ce).1 :=
  unlessOut_keeps (kept.countClean k) (unlessOut_keeps (kept.testMissing k) (unlessOut_keeps (kept.testOverload k)
    (unlessOut_keeps (kept.testNoSettle k) (kept.testRough k start))))

theorem StrokeKept.ownMove {st : ChState} (runs : st.accepts = true) {ce : Channel × StrokeEvents} (tracks : Tracks st ce)
    (start : R ce.1) : R (ownMove p ce).1 := by
  unfold Machine.ownMove
  split
  · exact start
  · next going =>
    have same : ce.1.st = st := tracks.elim And.right fun out => absurd out.1 going
    have runs : ce.1.st.accepts = true := by rw [same, runs]
    split
    · exact kept.nextStep runs start
    · split
      · exact kept.enterRun runs start
      · exact start

omit kept in
/-- What the parts of a stroke's end keep, an accepted pulse keeps (R110, R124). -/
theorem StrokeKept.pulsed {hd : Head} (kept : StrokeKept hd.bladeParams hd.guard R) (samples : List Sample)
    (noAvg noPeak : Nat) (runs : hd.blade.st.accepts = true) (start : R hd.blade) :
    R (hd.pulsed samples noAvg noPeak).1 := by
  have accepted : R (hd.blade.addSamples samples).acceptPulse := kept.counts hd.blade rfl rfl rfl rfl rfl rfl start
  unfold Head.pulsed Head.pulseWork
  dsimp only
  split
  · obtain ⟨same, going⟩ := Channel.ownWork_st hd.bladeParams hd.guard
      (({ hd with blade := hd.blade.addSamples samples } : Head).strokeEnded noAvg noPeak)
      (Channel.measure (({ hd with blade := hd.blade.addSamples samples } : Head).strokeEnded noAvg noPeak)
        (hd.blade.addSamples samples))
    exact kept.ownMove runs (guardTests_tracks runs hd.guard _ (.inl ⟨going, same⟩) going)
      (kept.guardTests _ (kept.ownWork _ (kept.counts hd.blade rfl rfl rfl rfl rfl rfl start)))
  · split
    · exact kept.ownMove runs (.inl ⟨rfl, rfl⟩)
        (kept.counts (hd.blade.addSamples samples).acceptPulse rfl rfl rfl rfl rfl rfl accepted)
    · exact accepted

end

/-! ### A property of a channel and its settings -/

/-- The channel after FAULT CLEAR, a retry time or an ABORT: stopped, climbing, or as it was (R128 to R130). -/
inductive Channel.Restarts (p : BladeParams) (c : Channel) : Channel → Prop
  | stops (brake : Bool) : Channel.Restarts p c (c.stop brake)
  | climbs (lvl : Level) (wanted : c.demand ≠ .off) : Channel.Restarts p c (c.spinUp p lvl)

theorem Channel.endRetry_restarts (p : BladeParams) (c : Channel) : Channel.Restarts p c (c.endRetry p) := by
  unfold Channel.endRetry
  cases d : c.demand with
  | off => exact .stops _
  | idle => exact .climbs _ (by simp [d])
  | cut => exact .climbs _ (by simp [d])

theorem Channel.clearFault_restarts (p : BladeParams) (c : Channel) :
    Channel.Restarts p ({ c.stop false with retries := 0 } : Channel) (c.clearFault p) := by
  unfold Channel.clearFault Channel.climb
  split
  · exact .stops false
  · next d => exact .climbs _ (fun off => by simp_all)
  · next d => exact .climbs _ (fun off => by simp_all)

end Sys2Proof.Machine

/-! PROOFS. Properties of a blade channel under its settings that every step keeps (Chapters 6 and 7): the demand, the
commanded rate, the trim, the retry count and the run counts. -/

namespace Sys2Proof.Machine

/-! ### A property of each channel under its settings -/

/-- A property of a channel under its blade parameters and guard settings that everything keeps that can happen to a channel;
new settings in IDLE and in a state with property `I`. -/
structure BladeKept (I : State → Prop) (R : BladeParams → GuardSettings → Channel → Prop) : Prop where
  timers : ∀ {p g c} (idle stop), R p g c → R p g { c with idleTimer := idle, stopTimer := stop }
  elapse : ∀ {p g c} (d), R p g c → R p g (c.elapse d)
  samples : ∀ {p g c} (samples), R p g c → R p g (c.addSamples samples)
  opened : ∀ {p g c}, R p g c → R p g { c with trim := 16 }
  abort : ∀ {p g c} (action), R p g c → R p g (c.abortStop action)
  clear : ∀ {p g c}, R p g c → R p g (c.clearFault p)
  retry : ∀ {p g c}, R p g c → R p g (c.endRetry p)
  lost : ∀ {p g c}, R p g c → R p g (c.strokeLost g)
  pulse : ∀ {hd : Head} (samples noAvg noPeak), hd.blade.st.accepts = true → R hd.bladeParams hd.guard hd.blade →
    R hd.bladeParams hd.guard (hd.pulsed samples noAvg noPeak).1
  demand : ∀ {p g c} (d), R p g c → R p g (c.setDemand p d)
  bladeSet : ∀ {s : State} (k p), I s → s.job.state = .idle → p.inRange = true →
    R (s.head k).bladeParams (s.head k).guard (s.head k).blade → R p (s.head k).guard (s.head k).blade
  guardSet : ∀ {s : State} (k g), I s → s.job.state = .idle → g.inRange = true →
    R (s.head k).bladeParams (s.head k).guard (s.head k).blade →
      R (s.head k).bladeParams g { (s.head k).blade with retries := 0 }
  power : R BladeParams.default GuardSettings.default (Channel.reset 16 FaultRecord.clear)
  warm : ∀ {p g c}, R p g c → R BladeParams.default GuardSettings.default (Channel.reset c.trim c.record)

/-- The preparations touch of the channel its idle-delay timer alone (R68). -/
theorem Head.prepared_blade (e : Entry) (hd : Head) :
    ∃ timer, (hd.prepared e).blade = { hd.blade with idleTimer := timer } := by
  unfold Head.prepared
  split
  · exact ⟨hd.blade.idleTimer, rfl⟩
  · exact ⟨some (hd.bladeParams.idleDelay * 1000), rfl⟩

/-- What everything keeps that can happen to a channel, every change of a head keeps. -/
theorem BladeKept.heads {I : State → Prop} {R : BladeParams → GuardSettings → Channel → Prop} (kept : BladeKept I R) :
    HeadKept I fun hd => R hd.bladeParams hd.guard hd.blade where
  work {s k x} work start := by
    have idle {c : Channel} (timer : Option Nat) (start : R (s.head k).bladeParams (s.head k).guard c) :
        R (s.head k).bladeParams (s.head k).guard { c with idleTimer := timer } := kept.timers timer c.stopTimer start
    have prepared (e : Entry) : R (s.head k).bladeParams (s.head k).guard ((s.head k).grantTaken.prepared e).blade := by
      obtain ⟨timer, blade⟩ := Head.prepared_blade e (s.head k).grantTaken
      exact blade ▸ idle timer start
    cases work with
    | same | segment | cellHold | serviceIn => exact start
    | flush work =>
      obtain ⟨runs, floor, e⟩ := Head.flush_eq work
      exact e ▸ start
    | grant e r =>
      show R ((s.head k).grantTaken.prepared e).bladeParams ((s.head k).grantTaken.prepared e).guard _
      rw [Head.prepared_bladeParams, Head.prepared_guard]
      exact idle _ (prepared e)
    | prepare e =>
      rw [Head.prepared_bladeParams, Head.prepared_guard]
      exact prepared e
    | done w rest oldest =>
      obtain ⟨timer, e⟩ := Head.completed_eq w (s.head k)
      rw [e]
      exact idle timer start
    | openJob => exact kept.opened start
    | abort =>
      obtain ⟨runs, floor, e⟩ := (s.head k).aborted_eq
      rw [e]
      exact kept.abort _ start
    | bedSet p =>
      unfold Head.newPark
      split <;> exact start
    | release p fits =>
      obtain ⟨runs, floor, timer, e⟩ := Head.released_eq p (s.head k)
      rw [e]
      exact idle timer start
    | serviceOut => exact idle none start
    | faultClear latched => exact kept.clear start
  timed {s k x} timed start := by
    cases timed with
    | same | suspend | lapse => exact start
    | endIdleDelay => exact kept.timers none _ start
    | endStopDelay => exact kept.timers _ none start
    | endRetry => exact kept.retry start
    | loseStroke => exact kept.lost start
    | pulse samples noAvg noPeak runs => exact kept.pulse samples noAvg noPeak runs start
  after {hd} d w start := by
    rw [Head.after_bladeParams, Head.after_guard, Head.after_blade]
    exact kept.timers _ hd.blade.stopTimer start
  close {hd} _ _ _ _ _ _ start := kept.demand _ (kept.timers hd.blade.idleTimer _ start)
  elapse d start := kept.elapse d start
  waits _ start := start
  samples samples start := kept.samples samples start
  cutSet _ _ _ _ _ start := start
  bladeSet k p side job fits start := kept.bladeSet k p side job fits start
  guardSet k g side job fits start := kept.guardSet k g side job fits start
  power _ := kept.power
  warm _ start := kept.warm start

/-- Where an accepted demand leaves a channel, it was moved first, or as it was (R103, R109). -/
theorem Channel.setDemand_moves (p : BladeParams) (d : Demand) (c : Channel) :
    ∃ x, Channel.Moves p c x ∧ c.setDemand p d = { x with demand := d } := by
  unfold Channel.setDemand
  split
  · next same => exact ⟨c, .stays, by rw [same]⟩
  · exact ⟨_, c.act_moves p d, rfl⟩

theorem Channel.abortStop_eq (action : StopAction) (c : Channel) :
    (c.st.accepts = true ∧ c.abortStop action = { c.stop (decide (action = .brake)) with demand := .off, idleTimer := none }) ∨
      (c.st.accepts = false ∧ c.abortStop action = { c with demand := .off, idleTimer := none }) := by
  unfold Channel.abortStop
  cases runs : c.st.accepts
  · exact .inr ⟨rfl, rfl⟩
  · exact .inl ⟨rfl, rfl⟩

/-! ### A channel without demand does not run -/

/-- A channel whose demand is OFF does not run (R109). -/
def Channel.OffRests (c : Channel) : Prop := c.demand = .off → c.st.accepts = false

theorem Channel.Restarts.offRests {p : BladeParams} {c d : Channel} (restarts : Channel.Restarts p c d) : d.OffRests := by
  cases restarts with
  | stops => exact fun _ => rfl
  | climbs lvl wanted => exact fun off => absurd off wanted

/-- A channel whose demand is not OFF is asked for by every part of a stroke's end. -/
theorem demanded_kept (p : BladeParams) (g : GuardSettings) : StrokeKept p g fun c => c.demand ≠ .off where
  counts c _ _ _ demand _ _ _ wanted := demand ▸ wanted
  trim _ _ wanted := wanted
  clean wanted := wanted
  respond {c} k wanted := by
    have responds := c.respond_responds g k
    generalize c.respond g k = d at responds ⊢
    cases responds <;> exact wanted
  nextStep {c} _ wanted := by unfold Channel.nextStep; split <;> exact wanted
  enterRun _ wanted := wanted

theorem offRests_kept (I : State → Prop) : BladeKept I fun _ _ c => c.OffRests where
  timers _ _ start := start
  elapse _ start := start
  samples _ start := start
  opened start := start
  abort {p g c} action start off := by
    obtain ⟨-, e⟩ | ⟨rests, e⟩ := c.abortStop_eq action
    · rw [e]; rfl
    · rw [e]; exact rests
  clear {p g c} _ := (c.clearFault_restarts p).offRests
  retry {p g c} _ := (c.endRetry_restarts p).offRests
  lost {p g c} start off := by
    obtain ⟨d, watch, responds, e⟩ := c.strokeLost_responds g
    rw [e] at off ⊢
    cases responds with
    | stays => exact start off
    | latches => rfl
    | retries => rfl
  pulse {hd} samples noAvg noPeak runs start off := by
    have wanted : hd.blade.demand ≠ .off := fun off => by simp [start off] at runs
    exact absurd off ((demanded_kept _ _).pulsed samples noAvg noPeak runs wanted)
  demand {p g c} d start off := by
    unfold Channel.setDemand at off ⊢
    split
    · next same => exact start (by rw [if_pos same] at off; exact off)
    · next change =>
      rw [if_neg change] at off
      have off : d = .off := off
      subst off
      exact Channel.act_off p c
  bladeSet _ _ _ _ _ start := start
  guardSet _ _ _ _ _ start := start
  power _ := rfl
  warm _ _ := rfl

/-! ### The commanded rate of a drive that is off -/

/-- The commanded rate is 0 where the drive is off (R99, R100). -/
def Channel.SilentWhenOff (c : Channel) : Prop := c.st.accepts = false → c.commanded = 0

theorem Channel.Restarts.silentWhenOff {p : BladeParams} {c d : Channel} (restarts : Channel.Restarts p c d) :
    d.SilentWhenOff := by
  cases restarts with
  | stops => exact fun _ => rfl
  | climbs lvl wanted => exact fun off => by cases off

theorem Channel.Responds.silentWhenOff {g : GuardSettings} {c d : Channel} (responds : Channel.Responds g c d)
    (start : c.SilentWhenOff) : d.SilentWhenOff := by
  cases responds with
  | stays => exact start
  | latches => exact fun _ => rfl
  | retries => exact fun _ => rfl

theorem silent_stroke (p : BladeParams) (g : GuardSettings) : StrokeKept p g Channel.SilentWhenOff where
  counts c _ st _ _ commanded _ _ start off := commanded ▸ start (st ▸ off)
  trim _ _ start := start
  clean start := start
  respond {c} k start := (c.respond_responds g k).silentWhenOff start
  nextStep {c} runs _ := by
    unfold Channel.nextStep
    split
    · exact fun off => absurd (runs.symm.trans off) (by decide)
    · exact fun off => by cases off
  enterRun _ _ off := by cases off

theorem silent_kept (I : State → Prop) : BladeKept I fun _ _ c => c.SilentWhenOff where
  timers _ _ start := start
  elapse _ start := start
  samples _ start := start
  opened start := start
  abort {p g c} action start := by
    obtain ⟨-, e⟩ | ⟨rests, e⟩ := c.abortStop_eq action
    · rw [e]; exact fun _ => rfl
    · rw [e]; exact start
  clear {p g c} _ := (c.clearFault_restarts p).silentWhenOff
  retry {p g c} _ := (c.endRetry_restarts p).silentWhenOff
  lost {p g c} start := by
    obtain ⟨d, watch, responds, e⟩ := c.strokeLost_responds g
    rw [e]
    exact responds.silentWhenOff start
  pulse samples noAvg noPeak runs start := (silent_stroke _ _).pulsed samples noAvg noPeak runs start
  demand {p g c} d start := by
    obtain ⟨x, moves, e⟩ := c.setDemand_moves p d
    rw [e]
    cases moves with
    | stays => exact start
    | stops => exact fun _ => rfl
    | climbs | settles | joins => exact fun off => by cases off
    | retargets climbs =>
      intro off
      have off : c.st.accepts = false := off
      rw [climbs] at off
      cases off
  bladeSet _ _ _ _ _ start := start
  guardSet _ _ _ _ _ start := start
  power _ := rfl
  warm _ _ := rfl

end Sys2Proof.Machine

/-! PROOFS. The trim, the retry count, the commanded rate and the run counts of a channel. -/

namespace Sys2Proof.Machine

/-! ### The trim (R114) -/

theorem Channel.Moves.trim {p : BladeParams} {c d : Channel} (moves : Channel.Moves p c d) : d.trim = c.trim := by
  cases moves <;> rfl

theorem Channel.Restarts.trim {p : BladeParams} {c d : Channel} (restarts : Channel.Restarts p c d) : d.trim = c.trim := by
  cases restarts <;> rfl

theorem Channel.Responds.trim {g : GuardSettings} {c d : Channel} (responds : Channel.Responds g c d) : d.trim = c.trim := by
  cases responds <;> rfl

theorem Channel.TrimInRange.of_eq {c d : Channel} (start : c.TrimInRange) (trim : d.trim = c.trim) : d.TrimInRange := by
  unfold Channel.TrimInRange at start ⊢
  rwa [trim]

theorem Channel.nextStep_trim (p : BladeParams) (c : Channel) : (c.nextStep p).trim = c.trim := by
  unfold Channel.nextStep; split <;> rfl

theorem trim_stroke (p : BladeParams) (g : GuardSettings) : StrokeKept p g Channel.TrimInRange where
  counts _ _ _ _ _ _ trim _ start := start.of_eq trim
  trim _ range start := range start
  clean start := start
  respond {c} k start := start.of_eq (c.respond_responds g k).trim
  nextStep {c} _ start := start.of_eq (c.nextStep_trim p)
  enterRun _ start := start

theorem trim_kept (I : State → Prop) : BladeKept I fun _ _ c => c.TrimInRange where
  timers _ _ start := start
  elapse _ start := start
  samples _ start := start
  opened _ := ⟨(by decide : 4 ≤ 16), le_refl 16⟩
  abort {p g c} action start := by
    obtain ⟨-, e⟩ | ⟨-, e⟩ := c.abortStop_eq action
    · exact e ▸ start
    · exact e ▸ start
  clear {p g c} start := start.of_eq (c.clearFault_restarts p).trim
  retry {p g c} start := start.of_eq (c.endRetry_restarts p).trim
  lost {p g c} start := by
    obtain ⟨d, watch, responds, e⟩ := c.strokeLost_responds g
    rw [e]
    exact start.of_eq responds.trim
  pulse samples noAvg noPeak runs start := (trim_stroke _ _).pulsed samples noAvg noPeak runs start
  demand {p g c} d start := by
    obtain ⟨x, moves, e⟩ := c.setDemand_moves p d
    rw [e]
    exact start.of_eq moves.trim
  bladeSet _ _ _ _ _ start := start
  guardSet _ _ _ _ _ start := start
  power := ⟨(by decide : 4 ≤ 16), le_refl 16⟩
  warm start := start

/-! ### The retry count (R127) -/

/-- The retry count is within the limit of the guard settings (R127). -/
def Channel.RetriesWithin (g : GuardSettings) (c : Channel) : Prop :=
  match g.retryLimit with
  | .upTo n => c.retries ≤ n
  | .unlimited => c.retries ≤ 255

theorem Channel.RetriesWithin.of_eq {g : GuardSettings} {c d : Channel} (start : c.RetriesWithin g)
    (retries : d.retries = c.retries) : d.RetriesWithin g := by
  unfold Channel.RetriesWithin at start ⊢
  rwa [retries]

theorem Channel.RetriesWithin.zero {g : GuardSettings} {c : Channel} (zero : c.retries = 0) : c.RetriesWithin g := by
  unfold Channel.RetriesWithin
  rw [zero]
  split <;> exact Nat.zero_le _

theorem Channel.Responds.retriesWithin {g : GuardSettings} {c d : Channel} (responds : Channel.Responds g c d)
    (start : c.RetriesWithin g) : d.RetriesWithin g := by
  cases responds with
  | stays => exact start
  | latches => exact start
  | retries record brake allowed =>
    unfold Channel.RetriesWithin
    unfold retryAllowed at allowed
    cases limit : g.retryLimit with
    | upTo n =>
      rw [limit] at allowed
      have below : c.retries < n := of_decide_eq_true allowed
      exact (Nat.min_le_right _ _).trans below
    | unlimited => exact Nat.min_le_left _ _

theorem Channel.Moves.retries {p : BladeParams} {c d : Channel} (moves : Channel.Moves p c d) : d.retries = c.retries := by
  cases moves <;> rfl

theorem Channel.Restarts.retries {p : BladeParams} {c d : Channel} (restarts : Channel.Restarts p c d) :
    d.retries = c.retries := by
  cases restarts <;> rfl

theorem Channel.nextStep_retries (p : BladeParams) (c : Channel) : (c.nextStep p).retries = c.retries := by
  unfold Channel.nextStep; split <;> rfl

theorem retries_stroke (p : BladeParams) (g : GuardSettings) : StrokeKept p g (Channel.RetriesWithin g) where
  counts _ _ _ _ _ _ _ retries start := start.of_eq retries
  trim _ _ start := start
  clean _ := .zero rfl
  respond {c} k start := (c.respond_responds g k).retriesWithin start
  nextStep {c} _ start := start.of_eq (c.nextStep_retries p)
  enterRun _ start := start

theorem retries_kept (I : State → Prop) : BladeKept I fun _ g c => c.RetriesWithin g where
  timers _ _ start := start
  elapse _ start := start
  samples _ start := start
  opened start := start
  abort {p g c} action start := by
    obtain ⟨-, e⟩ | ⟨-, e⟩ := c.abortStop_eq action
    · exact e ▸ start
    · exact e ▸ start
  clear {p g c} _ := .zero (c.clearFault_restarts p).retries
  retry {p g c} start := start.of_eq (c.endRetry_restarts p).retries
  lost {p g c} start := by
    obtain ⟨d, watch, responds, e⟩ := c.strokeLost_responds g
    rw [e]
    exact responds.retriesWithin start
  pulse samples noAvg noPeak runs start := (retries_stroke _ _).pulsed samples noAvg noPeak runs start
  demand {p g c} d start := by
    obtain ⟨x, moves, e⟩ := c.setDemand_moves p d
    rw [e]
    exact start.of_eq moves.retries
  bladeSet _ _ _ _ _ start := start
  guardSet _ _ _ _ _ _ := .zero rfl
  power := .zero rfl
  warm _ := .zero rfl

/-! ### The commanded rate (R100) -/

theorem BladeParams.inRange_rates {p : BladeParams} (ranged : p.inRange = true) :
    600 ≤ p.fCut ∧ 300 ≤ p.fIdle ∧ p.fIdle ≤ p.fCut := by
  simp only [BladeParams.inRange, within, Bool.and_eq_true, decide_eq_true_eq] at ranged
  omega

theorem BladeParams.stepRate_range {p : BladeParams} (ranged : p.inRange = true) (lvl : Level) (i : Nat) :
    300 ≤ p.stepRate lvl i ∧ p.stepRate lvl i ≤ p.fCut := by
  obtain ⟨cut, -⟩ := p.inRange_rates ranged
  unfold BladeParams.stepRate
  omega

theorem BladeParams.rateOf_range {p : BladeParams} (ranged : p.inRange = true) (lvl : Level) :
    300 ≤ p.rateOf lvl ∧ p.rateOf lvl ≤ p.fCut := by
  obtain ⟨cut, idle, le⟩ := p.inRange_rates ranged
  cases lvl
  · exact ⟨idle, le⟩
  · exact ⟨by simp only [BladeParams.rateOf]; omega, le_refl _⟩

/-- With the blade parameters in their table, a channel that runs commands 300 spm to f_cut (R100, R106). -/
def Channel.RateWithin (p : BladeParams) (c : Channel) : Prop :=
  p.inRange = true ∧ (c.st.accepts = true → 300 ≤ c.commanded ∧ c.commanded ≤ p.fCut)

theorem Channel.RateWithin.off {p : BladeParams} {c : Channel} (ranged : p.inRange = true) (off : c.st.accepts = false) :
    c.RateWithin p := ⟨ranged, fun runs => by simp [off] at runs⟩

theorem Channel.RateWithin.of_eq {p : BladeParams} {c d : Channel} (start : c.RateWithin p) (st : d.st = c.st)
    (commanded : d.commanded = c.commanded) : d.RateWithin p := ⟨start.1, fun runs => commanded ▸ start.2 (st ▸ runs)⟩

theorem Channel.Responds.rateWithin {p : BladeParams} {g : GuardSettings} {c d : Channel} (responds : Channel.Responds g c d)
    (start : c.RateWithin p) : d.RateWithin p := by
  cases responds with
  | stays => exact start.of_eq rfl rfl
  | latches => exact .off start.1 rfl
  | retries => exact .off start.1 rfl

theorem Channel.Moves.rateWithin {p : BladeParams} {c d : Channel} (moves : Channel.Moves p c d) (start : c.RateWithin p) :
    d.RateWithin p := by
  cases moves with
  | stays => exact start
  | stops => exact .off start.1 rfl
  | climbs lvl => exact ⟨start.1, fun _ => BladeParams.stepRate_range start.1 lvl 1⟩
  | settles lvl => exact ⟨start.1, fun _ => BladeParams.rateOf_range start.1 lvl⟩
  | joins i => exact ⟨start.1, fun _ => BladeParams.stepRate_range start.1 .cut i⟩
  | retargets => exact ⟨start.1, fun _ => BladeParams.stepRate_range start.1 .cut c.step⟩

theorem Channel.Restarts.rateWithin {p : BladeParams} {c d : Channel} (restarts : Channel.Restarts p c d)
    (ranged : p.inRange = true) : d.RateWithin p := by
  cases restarts with
  | stops => exact .off ranged rfl
  | climbs lvl => exact ⟨ranged, fun _ => BladeParams.stepRate_range ranged lvl 1⟩

theorem rate_stroke (p : BladeParams) (g : GuardSettings) : StrokeKept p g (Channel.RateWithin p) where
  counts _ _ st _ _ commanded _ _ start := start.of_eq st commanded
  trim _ _ start := start.of_eq rfl rfl
  clean start := start.of_eq rfl rfl
  respond {c} k start := (c.respond_responds g k).rateWithin start
  nextStep {c} _ start := by
    unfold Channel.nextStep
    split
    · exact ⟨start.1, fun _ => BladeParams.stepRate_range start.1 c.target _⟩
    · exact ⟨start.1, fun _ => BladeParams.rateOf_range start.1 c.target⟩
  enterRun runs start := ⟨start.1, fun _ => start.2 runs⟩

/-- A channel without demand does not run, so that new blade parameters find it off. -/
theorem State.DemandFollows.rests {s : State} {h : HeadId} (follows : s.DemandFollows h) (job : s.job.state = .idle) :
    (s.head h).blade.st.accepts = false := by
  obtain ⟨demand, off, -⟩ := follows
  exact off (by rw [demand, job]; rfl)

theorem rate_kept : BladeKept (fun s => ∀ h, s.DemandFollows h) fun p _ c => c.RateWithin p where
  timers _ _ start := start.of_eq rfl rfl
  elapse _ start := start.of_eq rfl rfl
  samples _ start := start.of_eq rfl rfl
  opened start := start.of_eq rfl rfl
  abort {p g c} action start := by
    obtain ⟨-, e⟩ | ⟨off, e⟩ := c.abortStop_eq action
    · rw [e]; exact .off start.1 rfl
    · rw [e]; exact .off start.1 off
  clear {p g c} start := (c.clearFault_restarts p).rateWithin start.1
  retry {p g c} start := (c.endRetry_restarts p).rateWithin start.1
  lost {p g c} start := by
    obtain ⟨d, watch, responds, e⟩ := c.strokeLost_responds g
    rw [e]
    exact (responds.rateWithin start).of_eq rfl rfl
  pulse samples noAvg noPeak runs start := (rate_stroke _ _).pulsed samples noAvg noPeak runs start
  demand {p g c} d start := by
    obtain ⟨x, moves, e⟩ := c.setDemand_moves p d
    rw [e]
    exact (moves.rateWithin start).of_eq rfl rfl
  bladeSet k _ follows job fits _ := .off fits ((follows k).rests job)
  guardSet _ _ _ _ _ start := start.of_eq rfl rfl
  power := .off (by decide) rfl
  warm _ := .off (by decide) rfl

end Sys2Proof.Machine

/-! PROOFS. The run counts of a channel (R114 to R116, R119, R121, log 17), and the statement on the blades. -/

namespace Sys2Proof.Machine

/-! ### What has not counted -/

/-- The trim and relief counts are 0. -/
def Channel.Uncounted (c : Channel) : Prop := c.heavy = 0 ∧ c.light = 0 ∧ c.pause = 0 ∧ c.escalation = 0

/-- Out of RUN at CUT the trim and relief counts are 0, and the missing run count is where the drive is off or BLADE-MISSING
is not tested (R114 to R116, R119). -/
def Channel.CountsOff (g : GuardSettings) (c : Channel) : Prop :=
  (c.runAtCut = false → c.Uncounted) ∧ (c.st.accepts = false ∨ g.modes.bladeMissing = .ignore → c.missRun = 0)

/-- The counts of a channel that has ended no stroke in RUN yet are 0 (R121). -/
def Channel.CountsFresh (c : Channel) : Prop :=
  c.st = .run → c.lastRunPeriod = none → c.Uncounted ∧ c.missRun = 0 ∧ c.cleanRun = 0

theorem Head.countsFollow_iff (hd : Head) :
    hd.CountsFollow ↔ hd.blade.CountsOff hd.guard ∧ hd.blade.CountsFresh := by
  unfold Head.CountsFollow Channel.CountsOff Channel.CountsFresh Channel.Uncounted
  tauto

/-- A channel that is not in RUN has ended no stroke there. -/
theorem Channel.CountsFresh.of_not_run {c : Channel} (out : c.st ≠ .run) : c.CountsFresh := fun run => absurd run out

theorem Channel.runAtCut_of_not_run {c : Channel} (out : c.st ≠ .run) : c.runAtCut = false := by
  simp [Channel.runAtCut, out]

/-- A departure clears the trim and relief counts (log 17). -/
theorem Channel.CountsOff.depart {g : GuardSettings} {c : Channel} (start : c.CountsOff g) : c.depart.Uncounted := by
  unfold Channel.depart Channel.Uncounted
  dsimp only
  cases at' : c.runAtCut with
  | true => exact ⟨rfl, rfl, rfl, rfl⟩
  | false => exact start.1 at'

theorem Channel.CountsOff.of_uncounted {g : GuardSettings} {c : Channel} (uncounted : c.Uncounted)
    (miss : c.st.accepts = false ∨ g.modes.bladeMissing = .ignore → c.missRun = 0) : c.CountsOff g :=
  ⟨fun _ => uncounted, miss⟩

theorem Channel.Responds.counts {g : GuardSettings} {c d : Channel} (responds : Channel.Responds g c d)
    (start : c.CountsOff g) : d.CountsOff g ∧ (d.st = .run → d.lastRunPeriod = c.lastRunPeriod) := by
  have departs (record : FaultRecord) : ({ c with record := record } : Channel).depart.Uncounted :=
    Channel.CountsOff.depart (g := g) ⟨start.1, start.2⟩
  cases responds with
  | stays => exact ⟨⟨start.1, start.2⟩, fun _ => rfl⟩
  | latches record => exact ⟨.of_uncounted (departs record) fun _ => rfl, fun run => by cases run⟩
  | retries record => exact ⟨.of_uncounted (departs record) fun _ => rfl, fun run => by cases run⟩

theorem Channel.Moves.counts {p : BladeParams} {g : GuardSettings} {c d : Channel} (moves : Channel.Moves p c d)
    (start : c.CountsOff g ∧ c.CountsFresh) : d.CountsOff g ∧ d.CountsFresh := by
  obtain ⟨off, fresh⟩ := start
  cases moves with
  | stays => exact ⟨off, fresh⟩
  | stops => exact ⟨.of_uncounted off.depart fun _ => rfl, .of_not_run (by decide : ChState.stopped ≠ .run)⟩
  | climbs => exact ⟨.of_uncounted off.depart fun _ => rfl, .of_not_run (by decide : ChState.spinup ≠ .run)⟩
  | settles lvl runs =>
    refine ⟨.of_uncounted off.depart fun none => off.2 (.inr ?_), .of_not_run (by decide : ChState.settling ≠ .run)⟩
    exact none.resolve_left (by decide : ¬ ChState.settling.accepts = false)
  | joins => exact ⟨.of_uncounted off.depart fun _ => rfl, .of_not_run (by decide : ChState.spinup ≠ .run)⟩
  | retargets climbs =>
    have out : c.st ≠ .run := by rw [climbs]; decide
    exact ⟨⟨fun _ => off.1 (Channel.runAtCut_of_not_run out), off.2⟩, .of_not_run out⟩

theorem Channel.Restarts.counts {p : BladeParams} {g : GuardSettings} {c d : Channel} (restarts : Channel.Restarts p c d)
    (off : c.CountsOff g) : d.CountsOff g ∧ d.CountsFresh := by
  cases restarts with
  | stops => exact ⟨.of_uncounted off.depart fun _ => rfl, .of_not_run (by decide : ChState.stopped ≠ .run)⟩
  | climbs => exact ⟨.of_uncounted off.depart fun _ => rfl, .of_not_run (by decide : ChState.spinup ≠ .run)⟩

/-! ### The end of a stroke -/

/-- At the end of a stroke the counts stand where they may, and one that ended in RUN has left a last RUN period (R121). -/
def CountsMid (g : GuardSettings) (ce : Channel × StrokeEvents) : Prop :=
  ce.1.CountsOff g ∧ (ce.1.st = .run → ce.1.lastRunPeriod ≠ none)

theorem detect_countsMid {g : GuardSettings} (kind : FaultKind) {c : Channel} (e : StrokeEvents) (off : c.CountsOff g)
    (period : c.st = .run → c.lastRunPeriod ≠ none) : CountsMid g (detect g kind c e) := by
  have responds := c.respond_responds g kind
  obtain ⟨off', same⟩ := responds.counts off
  refine ⟨off', fun run => ?_⟩
  have run : (c.respond g kind).st = .run := run
  rw [show (detect g kind c e).1.lastRunPeriod = c.lastRunPeriod from same run]
  obtain ⟨st, -⟩ | aside := responds.st
  · exact period (st.symm.trans run)
  · have off := aside.off
    rw [run] at off
    cases off

theorem unlessOut_countsMid {g : GuardSettings} {test : Channel × StrokeEvents → Channel × StrokeEvents}
    {ce : Channel × StrokeEvents} (keeps : CountsMid g ce → CountsMid g (test ce)) (start : CountsMid g ce) :
    CountsMid g (unlessOut test ce) := by
  unfold unlessOut; split
  · exact start
  · exact keeps start

theorem testRough_countsMid {g : GuardSettings} {k : Stroke} {ce : Channel × StrokeEvents} (same : ce.1.st = k.st)
    (off : ce.1.CountsOff g) : CountsMid g (testRough g k ce) := by
  unfold testRough
  dsimp only
  split
  · split
    · exact detect_countsMid _ _ ⟨off.1, off.2⟩ fun _ => by simp
    · exact ⟨⟨off.1, off.2⟩, fun _ => by simp⟩
  · next out => exact ⟨off, fun run => absurd (same.symm.trans run) out⟩

theorem testNoSettle_countsMid {g : GuardSettings} (k : Stroke) {ce : Channel × StrokeEvents} (start : CountsMid g ce) :
    CountsMid g (testNoSettle g k ce) := by
  unfold testNoSettle
  split
  · exact detect_countsMid _ _ ⟨start.1.1, start.1.2⟩ start.2
  · exact start

theorem testOverload_countsMid {g : GuardSettings} (k : Stroke) {ce : Channel × StrokeEvents} (start : CountsMid g ce) :
    CountsMid g (testOverload g k ce) := by
  unfold testOverload
  dsimp only
  generalize (if g.lockLimit < k.average then ce.1.lockRun + 1 else 0) = n
  generalize (if decide (g.lockStrokes ≤ n) = true then 0 else n) = m
  split
  · split
    · exact detect_countsMid _ _ ⟨start.1.1, start.1.2⟩ start.2
    · exact ⟨⟨start.1.1, start.1.2⟩, start.2⟩
  · exact start

theorem testMissing_countsMid {g : GuardSettings} (k : Stroke) {st : ChState} (runs : st.accepts = true)
    {ce : Channel × StrokeEvents} (same : ce.1.st = st) (start : CountsMid g ce) : CountsMid g (testMissing g k ce) := by
  unfold testMissing
  split
  · next tests =>
    have tested : g.modes.bladeMissing ≠ .ignore := of_decide_eq_true tests
    split
    · split
      · exact detect_countsMid _ _ ⟨start.1.1, fun _ => rfl⟩ start.2
      · refine ⟨⟨start.1.1, fun none => absurd none ?_⟩, start.2⟩
        rw [same, runs]
        simp [tested]
    · exact ⟨⟨start.1.1, fun _ => rfl⟩, start.2⟩
  · exact start

/-- A stroke that did not end in RUN at CUT leaves the missing run count 0 (R123). -/
theorem testMissing_missRun {g : GuardSettings} {k : Stroke} (out : k.atCut = false) {ce : Channel × StrokeEvents}
    (start : CountsMid g ce) : (testMissing g k ce).1.missRun = 0 := by
  unfold testMissing
  rw [out]
  cases tests : g.tests .bladeMissing with
  | true => rfl
  | false => exact start.1.2 (.inr (not_not.mp (of_decide_eq_false tests)))

theorem countClean_countsMid {g : GuardSettings} (k : Stroke) {ce : Channel × StrokeEvents} (start : CountsMid g ce) :
    CountsMid g (countClean k ce) := by
  unfold countClean
  split
  · split <;> exact ⟨⟨start.1.1, start.1.2⟩, start.2⟩
  · exact start

theorem countClean_missRun (k : Stroke) (ce : Channel × StrokeEvents) : (countClean k ce).1.missRun = ce.1.missRun := by
  unfold countClean
  split
  · split <;> rfl
  · rfl

/-- The guard's tests bring no lock-on about (R124). -/
theorem guardTests_lockOn (g : GuardSettings) (k : Stroke) (ce : Channel × StrokeEvents) :
    (guardTests g k ce).2.lockOn = ce.2.lockOn := by
  have out (test : Channel × StrokeEvents → Channel × StrokeEvents) (keeps : ∀ ce, (test ce).2.lockOn = ce.2.lockOn)
      (ce : Channel × StrokeEvents) : (unlessOut test ce).2.lockOn = ce.2.lockOn := by
    unfold unlessOut; split
    · rfl
    · exact keeps ce
  unfold guardTests
  rw [out (countClean k) (fun ce => by unfold countClean; split <;> [split; skip] <;> rfl),
    out (testMissing g k) (fun ce => by unfold testMissing; split <;> [split <;> [split; skip]; skip] <;> rfl),
    out (testOverload g k) (fun ce => by unfold testOverload; dsimp only; repeat' (split <;> try rfl)),
    out (testNoSettle g k) (fun ce => by unfold testNoSettle; split <;> rfl)]
  unfold testRough
  dsimp only
  split
  · split <;> rfl
  · rfl

/-- The counts after the guard's tests; a stroke that did not end in RUN at CUT and is no fault leaves the missing run count
0. -/
theorem guardTests_counts {g : GuardSettings} {k : Stroke} (runs : k.st.accepts = true) {ce : Channel × StrokeEvents}
    (same : ce.1.st = k.st) (going : ce.2.bladeFault = false) (off : ce.1.CountsOff g) :
    CountsMid g (guardTests g k ce) ∧
      (k.atCut = false → (guardTests g k ce).2.bladeFault = false → (guardTests g k ce).1.missRun = 0) := by
  have rough := testRough_tracks runs g k (.inl ⟨going, same⟩) going
  have settle := unlessOut_tracks (testNoSettle_tracks runs g k rough) rough
  have overload := unlessOut_tracks (testOverload_tracks runs g k settle) settle
  have midRough := testRough_countsMid same off
  have midSettle := unlessOut_countsMid (testNoSettle_countsMid k) midRough
  have midOverload := unlessOut_countsMid (testOverload_countsMid k) midSettle
  have midMissing : CountsMid g (unlessOut (testMissing g k) (unlessOut (testOverload g k)
      (unlessOut (testNoSettle g k) (testRough g k ce)))) := by
    generalize unlessOut (testOverload g k) (unlessOut (testNoSettle g k) (testRough g k ce)) = x at overload midOverload ⊢
    unfold unlessOut
    split
    · exact midOverload
    · next still =>
      exact testMissing_countsMid k runs (overload.elim And.right fun out => absurd out.1 still) midOverload
  refine ⟨unlessOut_countsMid (countClean_countsMid k) midMissing, fun out still => ?_⟩
  unfold guardTests at still ⊢
  generalize unlessOut (testOverload g k) (unlessOut (testNoSettle g k) (testRough g k ce)) = x at *
  have counted : ∀ y : Channel × StrokeEvents, (unlessOut (countClean k) y).1.missRun = y.1.missRun := fun y => by
    unfold unlessOut; split
    · rfl
    · exact countClean_missRun k y
  rw [counted]
  cases fault : x.2.bladeFault with
  | true =>
    have left : unlessOut (countClean k) (unlessOut (testMissing g k) x) = x := by simp [unlessOut, fault]
    rw [left, fault] at still
    cases still
  | false =>
    have tested : unlessOut (testMissing g k) x = testMissing g k x := by simp [unlessOut, fault]
    rw [tested]
    exact testMissing_missRun out midOverload

/-- The channel's own work counts trim and relief in RUN at CUT alone (R114, R115). -/
theorem Channel.ownWork_counts {p : BladeParams} {g : GuardSettings} {k : Stroke} {c : Channel} (st : c.st = k.st)
    (target : c.target = k.level) (off : c.CountsOff g) : (c.ownWork p g k).1.CountsOff g := by
  unfold Channel.ownWork
  split
  · exact ⟨off.1, off.2⟩
  · exact ⟨off.1, off.2⟩
  · split
    · next atCut =>
      have judged : ((c.judgeTrim p k).1.runAtCut = true) ∧ (c.judgeTrim p k).1.missRun = c.missRun := by
        have at' : c.runAtCut = true := by rw [← atCut, Channel.runAtCut, Stroke.atCut, st, target]
        unfold Channel.judgeTrim
        repeat' split
        all_goals exact ⟨at', rfl⟩
      have relieved : (Channel.relieve g k (c.judgeTrim p k)).1.runAtCut = (c.judgeTrim p k).1.runAtCut ∧
          (Channel.relieve g k (c.judgeTrim p k)).1.missRun = (c.judgeTrim p k).1.missRun := by
        unfold Channel.relieve
        dsimp only
        repeat' split
        all_goals exact ⟨rfl, rfl⟩
      have same := (Channel.relieve_st g k (c.judgeTrim p k)).1.trans (c.judgeTrim_st p k).1
      refine ⟨fun out => ?_, fun none => ?_⟩
      · rw [relieved.1, judged.1] at out
        cases out
      · rw [relieved.2, judged.2]
        exact off.2 (same ▸ none)
    · exact off
  · exact off
  · exact off
  · exact off

/-- Lock-on is brought about in SETTLING alone (R112). -/
theorem Channel.ownWork_lockOn {p : BladeParams} {g : GuardSettings} {k : Stroke} {c : Channel}
    (locks : (c.ownWork p g k).2.lockOn = true) : k.st = .settling := by
  unfold Channel.ownWork at locks
  split at locks
  · cases locks
  · next settling => exact settling
  · split at locks
    · exfalso
      have judged : (c.judgeTrim p k).2.lockOn = false := by
        unfold Channel.judgeTrim
        repeat' split
        all_goals rfl
      have relieved : (Channel.relieve g k (c.judgeTrim p k)).2.lockOn = (c.judgeTrim p k).2.lockOn := by
        unfold Channel.relieve
        dsimp only
        repeat' split
        all_goals rfl
      rw [relieved, judged] at locks
      cases locks
    · cases locks
  · cases locks
  · cases locks
  · cases locks

/-- The move of the channel's own work keeps the counts; a lock-on finds them all at 0 (R112, R121). -/
theorem ownMove_counts {p : BladeParams} {g : GuardSettings} {st : ChState} {ce : Channel × StrokeEvents}
    (tracks : Tracks st ce) (mid : ce.1.CountsOff g ∧ ce.1.CountsFresh)
    (locks : ce.2.lockOn = true → st ≠ .run ∧ (ce.2.bladeFault = false → ce.1.missRun = 0)) :
    (ownMove p ce).1.CountsOff g ∧ (ownMove p ce).1.CountsFresh := by
  unfold ownMove
  split
  · exact mid
  · next going =>
    have same : ce.1.st = st := tracks.elim And.right fun out => absurd out.1 going
    split
    · dsimp only
      unfold Channel.nextStep
      split
      · exact ⟨⟨mid.1.1, mid.1.2⟩, mid.2⟩
      · cases runs : ce.1.st.accepts with
        | true => exact (Channel.Moves.settles ce.1.target runs).counts mid
        | false =>
          refine ⟨.of_uncounted mid.1.depart fun _ => mid.1.2 (.inl runs), .of_not_run (by decide : ChState.settling ≠ .run)⟩
    · split
      · next locked =>
        obtain ⟨out, miss⟩ := locks locked
        have miss := miss (Bool.eq_false_iff.mpr going)
        have uncounted : ce.1.Uncounted := mid.1.1 (Channel.runAtCut_of_not_run (by rwa [same]))
        exact ⟨.of_uncounted uncounted fun _ => miss, fun _ _ => ⟨uncounted, miss, rfl⟩⟩
      · exact mid

theorem Head.pulsed_counts {hd : Head} (samples : List Sample) (noAvg noPeak : Nat) (runs : hd.blade.st.accepts = true)
    (start : hd.blade.CountsOff hd.guard ∧ hd.blade.CountsFresh) :
    (hd.pulsed samples noAvg noPeak).1.CountsOff hd.guard ∧ (hd.pulsed samples noAvg noPeak).1.CountsFresh := by
  have sampled : (hd.blade.addSamples samples).acceptPulse.CountsOff hd.guard ∧
      (hd.blade.addSamples samples).acceptPulse.CountsFresh := start
  unfold Head.pulsed Head.pulseWork
  dsimp only
  split
  · generalize strokes : (({ hd with blade := hd.blade.addSamples samples } : Head).strokeEnded noAvg noPeak) = k
    have st : hd.blade.st = k.st := strokes ▸ rfl
    have target : hd.blade.target = k.level := strokes ▸ rfl
    have off := Channel.ownWork_counts (p := hd.bladeParams) (g := hd.guard)
      (c := (hd.blade.addSamples samples).measure k) st target start.1
    obtain ⟨same, going⟩ := Channel.ownWork_st hd.bladeParams hd.guard k ((hd.blade.addSamples samples).measure k)
    have same := same.trans st
    obtain ⟨mid, miss⟩ := guardTests_counts (st ▸ runs) same going off
    have tracks := guardTests_tracks (st ▸ runs) hd.guard k (.inl ⟨going, same⟩) going
    refine ownMove_counts tracks ⟨mid.1, fun run none => absurd none (mid.2 run)⟩ fun locked => ?_
    rw [guardTests_lockOn] at locked
    have settling := Channel.ownWork_lockOn locked
    have out : k.st ≠ .run := by rw [settling]; decide
    exact ⟨out, miss (by simp [Stroke.atCut, out])⟩
  · split
    · exact ownMove_counts (.inl ⟨rfl, rfl⟩) sampled fun locked => by cases locked
    · exact sampled

theorem counts_kept : BladeKept (fun s => ∀ h, s.DemandFollows h) fun _ g c => c.CountsOff g ∧ c.CountsFresh where
  timers _ _ start := start
  elapse _ start := start
  samples _ start := start
  opened start := start
  abort {p g c} action start := by
    obtain ⟨-, e⟩ | ⟨-, e⟩ := c.abortStop_eq action
    · rw [e]
      exact ⟨.of_uncounted start.1.depart fun _ => rfl, .of_not_run (by decide : ChState.stopped ≠ .run)⟩
    · rw [e]; exact start
  clear {p g c} start := by
    have off : ({ c.stop false with retries := 0 } : Channel).CountsOff g := .of_uncounted start.1.depart fun _ => rfl
    exact (c.clearFault_restarts p).counts off
  retry {p g c} start := (c.endRetry_restarts p).counts start.1
  lost {p g c} start := by
    obtain ⟨d, watch, responds, e⟩ := c.strokeLost_responds g
    rw [e]
    obtain ⟨off, same⟩ := responds.counts start.1
    refine ⟨off, fun run none => ?_⟩
    cases responds with
    | stays => exact start.2 run none
    | latches => cases run
    | retries => cases run
  pulse samples noAvg noPeak runs start := Head.pulsed_counts samples noAvg noPeak runs start
  demand {p g c} d start := by
    obtain ⟨x, moves, e⟩ := c.setDemand_moves p d
    rw [e]
    exact moves.counts start
  bladeSet _ _ _ _ _ start := start
  guardSet k g follows job fits start :=
    ⟨⟨start.1.1, fun _ => start.1.2 (.inl ((follows k).rests job))⟩, start.2⟩
  power := ⟨.of_uncounted ⟨rfl, rfl, rfl, rfl⟩ fun _ => rfl, .of_not_run (by decide : ChState.stopped ≠ .run)⟩
  warm _ := ⟨.of_uncounted ⟨rfl, rfl, rfl, rfl⟩ fun _ => rfl, .of_not_run (by decide : ChState.stopped ≠ .run)⟩

end Sys2Proof.Machine

/-! PROOFS. The demand follows its conditions at every step; and with it the statement on the blades. -/

namespace Sys2Proof.Machine

/-- The demand is the one its cases give, and the stop-delay timer runs under its condition alone (R103, R105). -/
def State.DemandNow (s : State) (h : HeadId) : Prop :=
  (s.head h).blade.demand = (s.head h).demandOf s.job.state.isOpen ∧
    ((s.head h).blade.stopTimer.isSome = true → (s.head h).standsBy s.job.state.isOpen = true)

theorem State.demandFollows_iff (s : State) (h : HeadId) :
    s.DemandFollows h ↔ s.DemandNow h ∧ (s.head h).blade.OffRests := by
  unfold State.DemandFollows State.DemandNow Channel.OffRests
  tauto

/-- What the demand of a head depends on. -/
theorem State.DemandNow.of_same {s t : State} {h : HeadId} (start : s.DemandNow h)
    (job : t.job.state.isOpen = s.job.state.isOpen) (service : (t.head h).service = (s.head h).service)
    (window : (t.head h).window = (s.head h).window) (overdue : (t.head h).hold.overdue = (s.head h).hold.overdue)
    (demand : (t.head h).blade.demand = (s.head h).blade.demand)
    (idle : (t.head h).blade.idleTimer.isSome = (s.head h).blade.idleTimer.isSome)
    (stop : (t.head h).blade.stopTimer.isSome = (s.head h).blade.stopTimer.isSome) : t.DemandNow h := by
  unfold State.DemandNow Head.demandOf Head.standsBy Head.cutCondition Head.holdsCut Head.inService at start ⊢
  rwa [job, service, window, overdue, demand, idle, stop]

/-- Closing an event settles the demand, whatever the body left (R103, R105). -/
theorem State.closeEvent_demandNow (b s : State) (h : HeadId) : (State.closeEvent b s).DemandNow h := by
  refine ⟨by rw [State.closeEvent_job]; exact State.closeEvent_demands b s h, ?_⟩
  obtain ⟨stood, hold, line, lapse, w, e⟩ := State.closeEvent_head b s h
  rw [State.closeEvent_job, e]
  intro runs
  have runs : ((s.head h).stopTimerAfter stood s.job.state.isOpen).isSome = true := by
    simpa [Head.reworkBlade, Channel.setDemand_stopTimer] using runs
  have stands : (s.head h).standsBy s.job.state.isOpen = true := by
    unfold Head.stopTimerAfter at runs
    split at runs
    · assumption
    · cases runs
  have idle := Channel.setDemand_idleTimer
  rw [← stands]
  simp only [Head.standsBy, Head.cutCondition, Head.holdsCut, Head.inService, Head.reworkBlade, idle]
  rfl

theorem State.demandNow_selected {sel : Byte} {hs : List HeadId} (named : selectorOf sel = some hs) {s : State}
    {f : Head → Head} (same : ∀ hd, (f hd).service = hd.service ∧ (f hd).window = hd.window ∧ (f hd).hold = hd.hold ∧
      (f hd).blade.demand = hd.blade.demand ∧ (f hd).blade.idleTimer = hd.blade.idleTimer ∧
      (f hd).blade.stopTimer = hd.blade.stopTimer)
    (start : ∀ h, s.DemandNow h) (h : HeadId) : (s.modSelected hs f).DemandNow h := by
  have job : (s.modSelected hs f).job = s.job := foldl_keeps State.job (fun s h => s.modHead h f) (fun _ _ => rfl) hs s
  obtain ⟨service, window, hold, demand, idle, stop⟩ := same (s.head h)
  obtain e | e := State.modSelected_head_or named s f h
  · refine (start h).of_same ?_ ?_ ?_ ?_ ?_ ?_ ?_ <;> simp only [job, e, service, window, hold, demand, idle, stop]
  · refine (start h).of_same ?_ ?_ ?_ ?_ ?_ ?_ ?_ <;> simp only [job, e]

theorem timerAfter_isSome (d : Nat) (t : Option Nat) : (timerAfter d t).isSome = t.isSome := by
  cases t <;> rfl

theorem demandNow_reset {s : State} {h : HeadId} {park : Point} {trim : Nat} {record : FaultRecord}
    (head : s.head h = Head.reset park trim record) (job : s.job = Job.reset) : s.DemandNow h := by
  unfold State.DemandNow
  rw [head, job]
  exact ⟨rfl, fun runs => by cases runs⟩

theorem demandNow_kept : KeptByParts fun s => ∀ h, s.DemandNow h where
  line _ _ start := start
  queue _ _ start := start
  answered {s t} done start h := by
    cases done with
    | same | attention | zoneSet | pieceDeclare => exact start h
    | waits k reasons range =>
      obtain rfl | rfl := HeadId.eq_or_other k h
      · refine (start h).of_same ?_ ?_ ?_ ?_ ?_ ?_ ?_ <;> first | rfl | rw [State.waits_head, Head.grantTaken]
      · refine (start k.other).of_same ?_ ?_ ?_ ?_ ?_ ?_ ?_ <;> first | rfl | rw [State.waits_head_other]
    | classSet => exact start h
    | cutSet sel hs p _ named | bladeSet sel hs p _ named | guardSet sel hs p _ named =>
      refine State.demandNow_selected named ?_ start h
      exact fun _ => ⟨rfl, rfl, rfl, rfl, rfl, rfl⟩
    | work w => exact State.closeEvent_demandNow _ _ h
  tick {s t} done start h := by
    cases done with
    | time d =>
      refine (start h).of_same rfl ?_ ?_ ?_ ?_ ?_ ?_ <;> rw [State.head_elapse] <;>
        first | rfl | exact timerAfter_isSome d _
    | line k => exact start h
    | samples k samples =>
      obtain rfl | rfl := HeadId.eq_or_other k h
      · refine (start h).of_same ?_ ?_ ?_ ?_ ?_ ?_ ?_ <;> simp [Channel.addSamples]
      · refine (start k.other).of_same ?_ ?_ ?_ ?_ ?_ ?_ ?_ <;> first | rfl | rw [State.setBlade_head_other]
    | work w => exact State.closeEvent_demandNow _ _ h
  power _ h := by
    obtain ⟨park, e⟩ := State.head_powerReset _ h
    exact demandNow_reset e rfl
  warm cause _ h := by
    obtain ⟨park, e⟩ := State.head_warmReset _ cause h
    exact demandNow_reset e rfl
  extend _ start := start
  endHold _ _ start := start

theorem demandFollows_kept : KeptByParts fun s => ∀ h, s.DemandFollows h := by
  have same (s : State) : (∀ h, s.DemandFollows h) ↔ (∀ h, s.DemandNow h) ∧ ∀ h, (s.head h).blade.OffRests := by
    simp only [State.demandFollows_iff, forall_and]
  simp only [same]
  exact (offRests_kept _).heads.byParts demandNow_kept

theorem State.SettingsInRange.bladeParams {s : State} (ranged : s.SettingsInRange) (h : HeadId) :
    (s.head h).bladeParams.inRange = true := by
  obtain ⟨-, -, -, -, -, ⟨-, a, -⟩, -, b, -⟩ := ranged
  cases h
  · exact a
  · exact b

/-- Settles O57: demand and run of a channel, its rate, trim, retries and counts, each kept by everything that can happen to
a channel. -/
theorem bladesFollowTheirDemand : Obligations.BladesFollowTheirDemand := by
  intro s t next
  refine ⟨fun start => demandFollows_kept.step start next, fun start => (silent_kept _).heads.step start next,
    fun start => (trim_kept _).heads.step start next, fun start => (retries_kept _).heads.step start next,
    fun ranged start h => ?rate, fun start h => ?counts⟩
  case rate =>
    have kept := (rate_kept.heads.byParts demandFollows_kept).step
      ⟨fun h => (start h).1, fun h => ⟨ranged.bladeParams h, (start h).2⟩⟩ next
    exact (kept.2 h).2
  case counts =>
    have kept := (counts_kept.heads.byParts demandFollows_kept).step
      ⟨fun h => (start h).1, fun h => (s.head h).countsFollow_iff.mp (start h).2⟩ next
    exact (t.head h).countsFollow_iff.mpr (kept.2 h)

end Sys2Proof.Machine

/-! PROOFS. The zones: no window entry outside a job, the active count within its budget, every zone that is on needed, and
the lapse timers (Chapter 5). -/

namespace Sys2Proof.Machine

/-! ### No work outside a job -/

theorem noWork_iff (s : State) : NoWorkOutsideJob s ↔ (s.job.state.isOpen = false → ∀ h, (s.head h).window = []) := by
  unfold NoWorkOutsideJob
  refine imp_congr_right fun _ => ⟨fun ⟨a, b⟩ h => ?_, fun each => ⟨each .a, each .b⟩⟩
  cases h
  · exact a
  · exact b

/-- With the same job state, and windows that empty with those before, no work stands outside a job. -/
theorem NoWorkOutsideJob.of_same {s t : State} (start : NoWorkOutsideJob s) (job : t.job.state = s.job.state)
    (windows : ∀ h, (s.head h).window = [] → (t.head h).window = []) : NoWorkOutsideJob t := by
  rw [noWork_iff] at start ⊢
  rw [job]
  exact fun closed h => windows h (start closed h)

theorem NoWorkOutsideJob.of_open {s : State} (isOpen : s.job.state.isOpen = true) : NoWorkOutsideJob s :=
  fun closed => by simp [isOpen] at closed

theorem NoWorkOutsideJob.of_empty {s : State} (empty : ∀ h, (s.head h).window = []) : NoWorkOutsideJob s :=
  (noWork_iff s).mpr fun _ => empty

theorem Head.window_of_workless {hd : Head} (workless : hd.workless = true) : hd.queue = [] ∧ hd.window = [] := by
  simpa [Head.workless] using workless

theorem State.workless_head {s : State} (workless : s.workless = true) (h : HeadId) : (s.head h).workless = true := by
  obtain ⟨a, b⟩ : s.heads.a.workless = true ∧ s.heads.b.workless = true := by simpa [State.workless] using workless
  cases h
  · exact a
  · exact b

/-- A drain finds nothing queued or granted (R12). -/
theorem State.drain_noWork {s : State} (workless : s.workless = true) : NoWorkOutsideJob s.drain := by
  refine .of_empty fun h => ?_
  obtain ⟨w, e⟩ := s.drain_head h
  rw [e, Head.after_window]
  exact (Head.window_of_workless (State.workless_head workless h)).2

theorem NoWorkOutsideJob.drainIfDone {s : State} (start : NoWorkOutsideJob s) : NoWorkOutsideJob s.drainIfDone := by
  unfold State.drainIfDone
  split
  · next done => exact State.drain_noWork done.2
  · exact start

@[simp] theorem State.preparedFor_job (s : State) (h : HeadId) (e : Entry) : (s.preparedFor h e).1.job = s.job := by
  unfold State.preparedFor
  cases e.zones with
  | none => rfl
  | some r => simp [State.prepare]

@[simp] theorem State.grantTaken_job (s : State) (h : HeadId) : (s.grantTaken h).job = s.job := rfl

@[simp] theorem State.modSelected_job (s : State) (hs : List HeadId) (f : Head → Head) :
    (s.modSelected hs f).job = s.job := foldl_keeps State.job (fun s h => s.modHead h f) (fun _ _ => rfl) hs s

@[simp] theorem State.creditTag_job (h : HeadId) (n : Nat) (s : State) (tag : Nat) :
    (State.creditTag h n s tag).job = s.job := by
  unfold State.creditTag; dsimp only; split <;> rfl

@[simp] theorem State.credit_job (s : State) (h : HeadId) (n : Nat) (tags : List Nat) : (s.credit h n tags).job = s.job :=
  foldl_keeps State.job (State.creditTag h n) (fun s t => State.creditTag_job h n s t) tags s

/-- The window a request's body leaves a head is empty where the one before was, unless it grants (R64). -/
theorem HeadWork.window {s : State} {k : HeadId} {x : Head} (work : HeadWork s k x) (closed : s.job.state.isOpen = false)
    (empty : (s.head k).window = []) : x.window = [] := by
  cases work with
  | same | segment | cellHold | serviceOut | serviceIn | faultClear => exact empty
  | flush work =>
    obtain ⟨runs, floor, e⟩ := Head.flush_eq work
    exact e ▸ empty
  | grant e r stop => simp [(State.grantStop_passes stop).1] at closed
  | prepare e => exact (Head.prepared_window e _).trans empty
  | done w rest oldest => simp [empty] at oldest
  | openJob p => rfl
  | abort =>
    obtain ⟨runs, floor, e⟩ := (s.head k).aborted_eq
    exact e ▸ rfl
  | bedSet p =>
    unfold Head.newPark
    split <;> exact empty
  | release p =>
    obtain ⟨runs, floor, timer, e⟩ := Head.released_eq p (s.head k)
    exact e ▸ rfl

/-- The windows a request's body leaves are empty where those before were and no job is open. -/
theorem RequestWork.windows {s b : State} (work : RequestWork s b) (start : NoWorkOutsideJob s)
    (closed : s.job.state.isOpen = false) (h : HeadId) : (b.head h).window = [] := by
  obtain ⟨x, d, w, changed, e⟩ := work.head h
  rw [e, Head.after_window]
  exact changed.window closed ((noWork_iff s).mp start closed h)

theorem RequestWork.noWork {s b : State} (work : RequestWork s b) (start : NoWorkOutsideJob s) : NoWorkOutsideJob b := by
  cases closed : s.job.state.isOpen with
  | false => exact .of_empty (work.windows start closed)
  | true =>
    have still {t : State} (job : t.job = s.job) : NoWorkOutsideJob t := .of_open (by rw [job]; exact closed)
    cases work with
    | segment h r => exact still (by simp [State.enqueue])
    | flush h => exact NoWorkOutsideJob.drainIfDone (still (by simp))
    | grant h e => exact still (by simp [State.grant])
    | prepare h e => exact still (by simp)
    | done h w => exact NoWorkOutsideJob.drainIfDone (still (by simp))
    | blockLoad layers label fits =>
      unfold State.blockLoadRefusal at fits
      split at fits
      · cases fits
      · next job => rw [not_not.mp job] at closed; cases closed
    | openJob => exact .of_open rfl
    | drain job idle => exact State.drain_noWork idle
    | close => exact .of_open rfl
    | abort =>
      refine .of_empty fun h => ?_
      have aborted : ((s.modBoth Head.aborted).setJobState .idle).scrapPieces.head h = (s.head h).aborted := by
        simp [State.head_modBoth]
      obtain ⟨w, e⟩ := State.reevaluate_head_of (s := { ((s.modBoth Head.aborted).setJobState .idle).scrapPieces with
        mark := none }) (h := h) aborted
      obtain ⟨runs, floor, e'⟩ := (s.head h).aborted_eq
      rw [State.abort, e, Head.after_window, e']
    | bedSet => exact still rfl
    | take => exact still (by simp [State.taken])
    | release h p => exact NoWorkOutsideJob.drainIfDone (still (by simp))
    | cellHold on sel hs => exact still (by simp)
    | serviceOut h =>
    exact still (by simp [State.serviceOut])
    | serviceIn h => exact still (by simp [State.serviceIn])
    | faultClear h => exact still (by simp)
    | zoneClear k => exact still (by simp [State.zoneClear])

@[simp] theorem State.bladeNews_job (h : HeadId) (ready bladeFault : Bool) (s : State) :
    (State.bladeNews h ready bladeFault s).job = s.job := by
  unfold State.bladeNews
  dsimp only
  split <;> split <;> simp

/-- No expiry, change of pressure or pulse moves the job (R2). -/
theorem TimedWork.job {s b : State} (work : TimedWork s b) : b.job = s.job := by
  cases work with
  | suspend => simp [State.suspend]
  | endIdleDelay => simp [State.endIdleDelay]
  | endStopDelay => simp [State.endStopDelay]
  | endRetry => simp [State.endRetry]
  | loseStroke => simp [State.loseStroke]
  | lapse => simp [State.lapseRequest]
  | endMark => simp [State.endMark]
  | failZone => simp [State.failZone]
  | pressureGone => rfl
  | pressureCome =>
    unfold State.pressureCome State.zoneBecameHeld
    dsimp only
    split <;> simp
  | pulse => simp

theorem TimedWork.window {s b : State} (work : TimedWork s b) (h : HeadId) : (b.head h).window = (s.head h).window := by
  obtain ⟨x, w, changed, e⟩ := work.head h
  rw [e, Head.after_window]
  exact changed.path.2.1

theorem State.modSelected_window {sel : Byte} {hs : List HeadId} (named : selectorOf sel = some hs) (s : State)
    {f : Head → Head} (same : ∀ hd, (f hd).window = hd.window) (h : HeadId) :
    ((s.modSelected hs f).head h).window = (s.head h).window := by
  obtain e | e := State.modSelected_head_or named s f h
  · rw [e, same]
  · rw [e]

theorem State.waits_window (s : State) (k : HeadId) (reasons : WaitSet) (range : Option ZoneRange) (h : HeadId) :
    (((s.grantTaken k).setWatch k reasons range).head h).window = (s.head h).window := by
  obtain rfl | rfl := HeadId.eq_or_other k h
  · rw [State.waits_head]; rfl
  · rw [State.waits_head_other]

theorem State.setBlade_window (s : State) (k : HeadId) (c : Channel) (h : HeadId) :
    ((s.setBlade k c).head h).window = (s.head h).window := by
  obtain rfl | rfl := HeadId.eq_or_other k h
  · rw [State.setBlade_head_self]
  · rw [State.setBlade_head_other]

/-- Every command keeps windows empty while no job is open (R2, R12, R14, R38). -/
theorem noWork_kept : KeptByParts NoWorkOutsideJob where
  line _ _ start := start
  queue _ _ start := start
  answered {s t} done start := by
    cases done with
    | same | attention | zoneSet | pieceDeclare | classSet => exact start
    | waits k reasons range => exact start.of_same rfl fun h => (State.waits_window s k reasons range h).trans
    | cutSet sel hs p _ named | bladeSet sel hs p _ named | guardSet sel hs p _ named =>
      refine start.of_same (by rw [State.modSelected_job]) fun h => (State.modSelected_window named s ?_ h).trans
      exact fun _ => rfl
    | work w => exact (w.noWork start).of_same (by simp) fun h empty => by simpa using empty
  tick {s t} done start := by
    cases done with
    | time d => exact start.of_same rfl fun h empty => by rw [State.head_elapse]; exact empty
    | line k => exact start
    | samples k samples => exact start.of_same rfl fun h => (State.setBlade_window s k _ h).trans
    | work w =>
      refine start.of_same (by simp [w.job]) fun h empty => ?_
      rw [State.closeEvent_head_window, w.window, empty]
  power _ := .of_empty fun h => by cases h <;> rfl
  warm _ _ := .of_empty fun h => by cases h <;> rfl
  extend _ start := start
  endHold _ _ start := start

/-! ### The states of the zones -/

/-- The states of the zones, in their order. -/
def State.zoneStates (s : State) : List ZoneState := s.zones.map Zone.st

theorem State.activeCount_of_states {s t : State} (states : t.zoneStates = s.zoneStates) : t.activeCount = s.activeCount := by
  have counted (r : State) : r.activeCount = r.zoneStates.countP ZoneState.on := by
    rw [State.zoneStates, List.countP_map]
    rfl
  rw [counted, counted, states]

theorem State.zone_st_of_states {s t : State} (states : t.zoneStates = s.zoneStates) (k : Nat) :
    (t.zone k).st = (s.zone k).st := by
  have read (r : State) : (r.zone k).st = r.zoneStates.getD k .off := by
    rw [State.zoneStates, show ZoneState.off = Zone.st Zone.reset from rfl, List.getD_map]
    rfl
  rw [read, read, states]

theorem State.zones_length_of_states {s t : State} (states : t.zoneStates = s.zoneStates) :
    t.zones.length = s.zones.length := by
  simpa [State.zoneStates] using congrArg List.length states

theorem State.allHeld_of_states {s t : State} (states : t.zoneStates = s.zoneStates) (r : ZoneRange) :
    t.allHeld r = s.allHeld r := by
  simp only [State.allHeld, State.zone_st_of_states states]

theorem State.zoneStates_of_zones {s t : State} (zones : t.zones = s.zones) : t.zoneStates = s.zoneStates := by
  rw [State.zoneStates, zones, State.zoneStates]

theorem State.setZone_states {s : State} {k : Nat} {z : Zone} (same : z.st = (s.zone k).st) :
    (s.setZone k z).zoneStates = s.zoneStates := by
  refine List.ext_getElem (by simp [State.zoneStates]) fun j _ lt => ?_
  have lt : j < s.zones.length := by simpa [State.zoneStates] using lt
  simp only [State.zoneStates, State.setZone_zones, List.getElem_map, List.getElem_set]
  split
  · next e => subst e; rw [same]; simp [State.zone, List.getD, lt]
  · rfl

@[simp] theorem State.elapse_states (s : State) (d : Nat) : (s.elapse d).zoneStates = s.zoneStates := by
  simp [State.zoneStates, State.elapse]

@[simp] theorem State.flipLine_states (s : State) (k : Nat) : (State.flipLine k s).zoneStates = s.zoneStates :=
  State.setZone_states (s := s) rfl

@[simp] theorem State.endHold_states (s : State) (rate : LinkRate) (cause : ResetCause) :
    (s.endHold rate cause).zoneStates = s.zoneStates := by
  simp [State.zoneStates, State.endHold]

@[simp] theorem State.zoneSet_states (s : State) (cfg : ZoneSettings) : (s.zoneSet cfg).zoneStates = s.zoneStates := by
  refine List.ext_getElem (by simp [State.zoneStates, State.zoneSet]) fun k _ _ => ?_
  simp only [State.zoneStates, State.zoneSet, List.getElem_map, List.getElem_mapIdx]
  split <;> rfl

/-! ### The active count -/

theorem State.setZone_activeCount (s : State) (k : Nat) (z : Zone) :
    (s.setZone k z).activeCount ≤ s.activeCount + (if z.st.on = true ∧ (s.zone k).st.on = false then 1 else 0) := by
  unfold State.activeCount State.setZone State.zone
  dsimp only
  by_cases lt : k < s.zones.length
  · rw [List.countP_set lt]
    have at' : s.zones.getD k Zone.reset = s.zones[k] := by simp [List.getD, lt]
    rw [at']
    cases on : s.zones[k].st.on with
    | false => cases new : z.st.on <;> simp
    | true =>
      have some := List.countP_pos_iff (p := fun z : Zone => z.st.on).mpr ⟨s.zones[k], List.getElem_mem lt, on⟩
      cases new : z.st.on
      · simp
      · simp only [if_true]
        omega
  · rw [List.set_eq_of_length_le (Nat.le_of_not_lt lt)]
    exact Nat.le_add_right _ _

/-- A zone record that is not on, or takes the place of one that was, adds nothing to the active count (R89). -/
theorem State.setZone_activeCount_le (s : State) (k : Nat) (z : Zone) (on : z.st.on = true → (s.zone k).st.on = true) :
    (s.setZone k z).activeCount ≤ s.activeCount := by
  have grows := s.setZone_activeCount k z
  rwa [if_neg (fun ⟨new, old⟩ => by simp [on new] at old), Nat.add_zero] at grows

theorem State.startZone_activeCount (s : State) (k : Nat) : (s.startZone k).activeCount ≤ s.activeCount + 1 := by
  have grows := s.setZone_activeCount k ((s.zone k).start s.zoneSettings)
  unfold State.startZone
  split at grows <;> omega

theorem State.startZones_activeCount (s : State) (ks : List Nat) :
    (ks.foldl State.startZone s).activeCount ≤ s.activeCount + ks.length := by
  induction ks generalizing s with
  | nil => exact le_refl _
  | cons k ks ih =>
    have rest := ih (s.startZone k)
    have first := s.startZone_activeCount k
    rw [List.foldl_cons, List.length_cons]
    omega

/-- The orphan restart stays within the budget (R95). -/
theorem State.restartZones_withinBudget (ks : List Nat) {s : State} (start : WithinBudget s) :
    WithinBudget (ks.foldl State.restartZone s) := by
  induction ks generalizing s with
  | nil => exact start
  | cons k ks ih =>
    refine ih ?_
    unfold State.restartZone
    split
    · next room =>
      have grows := s.startZone_activeCount k
      unfold WithinBudget
      rw [State.startZone_zoneSettings]
      omega
    · exact start

theorem State.orphanRestart_withinBudget {s : State} (start : WithinBudget s) : WithinBudget s.orphanRestart :=
  State.restartZones_withinBudget _ start

theorem WithinBudget.of_le {s t : State} (start : WithinBudget s) (count : t.activeCount ≤ s.activeCount)
    (settings : t.zoneSettings = s.zoneSettings) : WithinBudget t := by
  unfold WithinBudget at start ⊢
  rw [settings]
  exact count.trans start

theorem WithinBudget.of_zones {s t : State} (start : WithinBudget s) (zones : t.zones = s.zones)
    (settings : t.zoneSettings = s.zoneSettings) : WithinBudget t :=
  start.of_le (State.activeCount_congr zones).le settings

theorem State.zoneGone_activeCount (s : State) (k : Nat) (was : ZoneState) :
    (s.zoneGone k was).activeCount = s.activeCount := State.activeCount_congr (by simp)

theorem State.ventZone_activeCount (s : State) (k : Nat) : (s.ventZone k).activeCount ≤ s.activeCount := by
  rw [State.ventZone, State.zoneGone_activeCount]
  exact s.setZone_activeCount_le k _ fun on => by cases on

theorem State.ventIfUnneeded_activeCount (s : State) (k : Nat) : (s.ventIfUnneeded k).activeCount ≤ s.activeCount := by
  unfold State.ventIfUnneeded
  split
  · exact s.ventZone_activeCount k
  · exact le_refl _

theorem State.vents_activeCount (ks : List Nat) (s : State) :
    (ks.foldl State.ventIfUnneeded s).activeCount ≤ s.activeCount := by
  induction ks generalizing s with
  | nil => exact le_refl _
  | cons k ks ih => exact (ih _).trans (s.ventIfUnneeded_activeCount k)

theorem State.vents_zoneSettings (ks : List Nat) (s : State) :
    (ks.foldl State.ventIfUnneeded s).zoneSettings = s.zoneSettings :=
  foldl_keeps State.zoneSettings State.ventIfUnneeded (fun _ _ => by simp) ks s

theorem WithinBudget.reevaluate {s : State} (start : WithinBudget s) : WithinBudget s.reevaluate := by
  have vented : WithinBudget ((List.range Config.zoneCount).foldl State.ventIfUnneeded s) :=
    start.of_le (State.vents_activeCount _ s) (State.vents_zoneSettings _ s)
  unfold State.reevaluate
  dsimp only
  split
  · exact State.orphanRestart_withinBudget vented
  · exact vented

theorem WithinBudget.drain {s : State} (start : WithinBudget s) : WithinBudget s.drain :=
  WithinBudget.reevaluate (start.of_zones rfl rfl)

theorem WithinBudget.drainIfDone {s : State} (start : WithinBudget s) : WithinBudget s.drainIfDone := by
  unfold State.drainIfDone
  split
  · exact start.drain
  · exact start

theorem WithinBudget.dropMark {s : State} (start : WithinBudget s) (h : HeadId) : WithinBudget (s.dropMark h) :=
  start.of_zones (by simp) (by simp)

theorem WithinBudget.dropped {s : State} (start : WithinBudget s) (h : HeadId) :
    WithinBudget ((s.dropMark h).reevaluate).drainIfDone := (start.dropMark h).reevaluate.drainIfDone

/-- A zone request starts zones only where the budget test passes (R87, R89). -/
theorem WithinBudget.zoneRequest {s : State} (start : WithinBudget s) (h : HeadId) (r : ZoneRange) :
    WithinBudget (s.zoneRequest h r).1 := by
  have asked : WithinBudget (s.modHead h fun hd => { hd with pendingReq := some r }) := start.of_zones rfl rfl
  unfold State.zoneRequest
  dsimp only
  generalize s.modHead h (fun hd => { hd with pendingReq := some r }) = t at asked ⊢
  split
  · exact asked
  · split
    · exact asked
    · split
      · exact asked
      · split
        · next room =>
          have room := (Nat.le_add_right _ _).trans (of_decide_eq_true room)
          unfold WithinBudget
          rw [State.startZones_zoneSettings]
          exact (t.startZones_activeCount (t.offIn r)).trans room
        · split
          · exact asked.of_zones rfl rfl
          · exact asked

theorem WithinBudget.preparedFor {s : State} (start : WithinBudget s) (h : HeadId) (e : Entry) :
    WithinBudget (s.preparedFor h e).1 := by
  unfold State.preparedFor
  cases e.zones with
  | none => exact start
  | some r => exact WithinBudget.zoneRequest (s := s.modHead h Head.startIdle) (start.of_zones rfl rfl) h r

theorem State.creditTag_zones (h : HeadId) (n : Nat) (s : State) (tag : Nat) :
    (State.creditTag h n s tag).zones = s.zones ∧ (State.creditTag h n s tag).zoneSettings = s.zoneSettings := by
  unfold State.creditTag; dsimp only; split <;> exact ⟨rfl, rfl⟩

@[simp] theorem State.credit_zones (s : State) (h : HeadId) (n : Nat) (tags : List Nat) :
    (s.credit h n tags).zones = s.zones :=
  foldl_keeps State.zones (State.creditTag h n) (fun s t => (State.creditTag_zones h n s t).1) tags s

@[simp] theorem State.credit_zoneSettings (s : State) (h : HeadId) (n : Nat) (tags : List Nat) :
    (s.credit h n tags).zoneSettings = s.zoneSettings :=
  foldl_keeps State.zoneSettings (State.creditTag h n) (fun s t => (State.creditTag_zones h n s t).2) tags s

@[simp] theorem State.modSelected_zones (s : State) (hs : List HeadId) (f : Head → Head) :
    (s.modSelected hs f).zones = s.zones := foldl_keeps State.zones (fun s h => s.modHead h f) (fun _ _ => rfl) hs s

@[simp] theorem State.modSelected_zoneSettings (s : State) (hs : List HeadId) (f : Head → Head) :
    (s.modSelected hs f).zoneSettings = s.zoneSettings :=
  foldl_keeps State.zoneSettings (fun s h => s.modHead h f) (fun _ _ => rfl) hs s

theorem RequestWork.withinBudget {s b : State} (work : RequestWork s b) (start : WithinBudget s) : WithinBudget b := by
  cases work with
  | segment h r => exact start.of_zones (by simp [State.enqueue]) (by simp [State.enqueue])
  | flush h => exact WithinBudget.dropped (start.of_zones rfl rfl (t := s.modHead h Head.flush)) h
  | grant h e =>
    refine WithinBudget.reevaluate (WithinBudget.dropMark ?_ h)
    exact WithinBudget.of_zones (WithinBudget.preparedFor (s := s.grantTaken h) (start.of_zones rfl rfl) h e) rfl rfl
  | prepare h e =>
    refine WithinBudget.of_zones (WithinBudget.reevaluate ?_) rfl rfl
    exact WithinBudget.preparedFor (s := s.grantTaken h) (start.of_zones rfl rfl) h e
  | done h w =>
    refine WithinBudget.drainIfDone (WithinBudget.reevaluate ?_)
    exact start.of_zones (by simp) (by simp)
  | blockLoad layers label => exact WithinBudget.reevaluate (start.of_zones rfl rfl)
  | openJob | close => exact start.of_zones rfl rfl
  | bedSet => exact start.of_zones rfl rfl
  | drain => exact start.drain
  | abort => exact WithinBudget.reevaluate (start.of_zones rfl rfl)
  | take id => exact WithinBudget.reevaluate (start.of_zones rfl rfl)
  | release h p => exact WithinBudget.dropped (start.of_zones rfl rfl (t := s.modHead h (Head.released p))) h
  | cellHold on sel hs => exact start.of_zones (by simp) (by simp)
  | serviceOut h =>
    exact WithinBudget.reevaluate
      (WithinBudget.dropMark (start.of_zones rfl rfl (t := s.modHead h (Head.takenOut (s.park h)))) h)
  | serviceIn h => exact WithinBudget.reevaluate (start.of_zones rfl rfl)
  | faultClear h => exact start.of_zones rfl rfl
  | zoneClear k =>
    refine State.orphanRestart_withinBudget (WithinBudget.of_zones ?_ (by simp) (by simp) (s := s.setZone k (s.zone k).vent))
    exact start.of_le (s.setZone_activeCount_le k _ fun on => by cases on) rfl

@[simp] theorem State.bladeNews_zones (h : HeadId) (ready bladeFault : Bool) (s : State) :
    (State.bladeNews h ready bladeFault s).zones = s.zones ∧
      (State.bladeNews h ready bladeFault s).zoneSettings = s.zoneSettings := by
  unfold State.bladeNews
  dsimp only
  split <;> split <;> simp

theorem Zone.becomeGood_on (z : Zone) : z.becomeGood.st.on = z.st.on := by
  unfold Zone.becomeGood; cases e : z.st <;> simp [ZoneState.on]

theorem Zone.becomeBad_on (cfg : ZoneSettings) (z : Zone) : (z.becomeBad cfg).st.on = z.st.on := by
  unfold Zone.becomeBad; cases e : z.st <;> simp [ZoneState.on]

@[simp] theorem State.zoneBecameHeld_zones (k : Nat) (s : State) :
    (State.zoneBecameHeld k s).zones = s.zones ∧ (State.zoneBecameHeld k s).zoneSettings = s.zoneSettings := by
  simp [State.zoneBecameHeld]

theorem TimedWork.withinBudget {s b : State} (work : TimedWork s b) (start : WithinBudget s) : WithinBudget b := by
  cases work with
  | suspend h => exact start.of_zones rfl rfl
  | endIdleDelay h => exact start.of_zones (by simp [State.endIdleDelay]) (by simp [State.endIdleDelay])
  | endStopDelay h => exact start.of_zones rfl rfl
  | endRetry h => exact start.of_zones rfl rfl
  | loseStroke h => exact start.of_zones (State.bladeNews_zones _ _ _ _).1 (State.bladeNews_zones _ _ _ _).2
  | lapse h => exact WithinBudget.reevaluate (start.of_zones rfl rfl)
  | endMark h => exact start.dropMark h
  | failZone k =>
    refine State.orphanRestart_withinBudget (WithinBudget.of_zones ?_ (by simp) (by simp) (s := s.setZone k (s.zone k).fail))
    exact start.of_le (s.setZone_activeCount_le k _ fun on => by cases on) rfl
  | pressureGone k =>
    exact start.of_le (s.setZone_activeCount_le k _ fun on => by rwa [Zone.becomeBad_on] at on) rfl
  | pressureCome k =>
    have held : WithinBudget (s.setZone k (s.zone k).becomeGood) :=
      start.of_le (s.setZone_activeCount_le k _ fun on => by rwa [Zone.becomeGood_on] at on) rfl
    unfold State.pressureCome
    dsimp only
    split
    · exact held.of_zones (State.zoneBecameHeld_zones _ _).1 (State.zoneBecameHeld_zones _ _).2
    · exact held
  | pulse h => exact start.of_zones (State.bladeNews_zones _ _ _ _).1 (State.bladeNews_zones _ _ _ _).2

theorem State.zoneSetRefusal_none {s : State} {cfg : ZoneSettings} (fits : s.zoneSetRefusal cfg = none) :
    s.job.state = .idle ∧ cfg.inRange = true ∧ s.activeCount = 0 := by
  unfold State.zoneSetRefusal at fits
  split at fits
  · cases fits
  · next job =>
    split at fits
    · cases fits
    · next range =>
      split at fits
      · cases fits
      · next idle => exact ⟨not_not.mp job, Bool.eq_true_of_not_eq_false range, not_not.mp idle⟩

theorem withinBudget_kept : KeptByParts WithinBudget where
  line _ _ start := start
  queue _ _ start := start
  answered {s t} done start := by
    cases done with
    | same | attention | waits | pieceDeclare | classSet => exact start
    | zoneSet cfg fits =>
      obtain ⟨-, -, none⟩ := State.zoneSetRefusal_none fits
      exact ((State.activeCount_of_states (s.zoneSet_states cfg)).trans none).le.trans (Nat.zero_le _)
    | cutSet | bladeSet | guardSet => exact start.of_zones (by simp) (by simp)
    | work w => exact (w.withinBudget start).of_zones (by simp) (by simp)
  tick {s t} done start := by
    cases done with
    | time d => exact start.of_le (State.activeCount_of_states (s.elapse_states d)).le rfl
    | line k => exact start.of_le (State.activeCount_of_states (s.flipLine_states k)).le rfl
    | samples k samples => exact start.of_zones rfl rfl
    | work w => exact (w.withinBudget start).of_zones (by simp) (by simp)
  power _ := by unfold WithinBudget; exact (by decide : (0 : Nat) ≤ 8)
  warm _ _ := by unfold WithinBudget; exact (by decide : (0 : Nat) ≤ 8)
  extend _ start := start
  endHold rate cause start := start.of_le (State.activeCount_of_states (State.endHold_states _ rate cause)).le rfl

end Sys2Proof.Machine

/-! PROOFS. Every zone that is on is needed (R86), the lapse timers (R88), and with the budget the zones' share of what every
step keeps. -/

namespace Sys2Proof.Machine

/-! ### Need -/

theorem State.needed_congr {s t : State} (windows : ∀ h, (t.head h).window = (s.head h).window)
    (pending : ∀ h, (t.head h).pendingReq = (s.head h).pendingReq) (pieces : t.pieces = s.pieces) (k : Nat) :
    t.needed k = s.needed k := by
  have a := windows .a
  have b := windows .b
  have pa := pending .a
  have pb := pending .b
  simp only [State.head, Pair.get_a, Pair.get_b] at a b pa pb
  simp only [State.needed, Head.cutsOver, State.severedOver, a, b, pa, pb, pieces]

theorem State.needed_of_cutsOver {s : State} {k : Nat} (cuts : (s.heads.a.cutsOver k || s.heads.b.cutsOver k) = true) :
    s.needed k = true := by
  simp [State.needed, cuts]

/-- There are sixteen zones and each that is on is needed (R83, R86). -/
def State.NeedMet (s : State) : Prop :=
  s.zones.length = Config.zoneCount ∧ ∀ k < Config.zoneCount, (s.zone k).st.on = true → s.needed k = true

theorem onZonesNeeded_iff (s : State) : OnZonesNeeded s ↔ NoWorkOutsideJob s ∧ s.NeedMet := Iff.rfl

/-- Where zones only go off, or go on over a need, and need only grows, every zone that is on stays needed. -/
theorem State.NeedMet.of_le {s t : State} (start : s.NeedMet) (length : t.zones.length = s.zones.length)
    (needs : ∀ k, s.needed k = true → t.needed k = true)
    (on : ∀ k, (t.zone k).st.on = true → (s.zone k).st.on = true ∨ t.needed k = true) : t.NeedMet := by
  obtain ⟨sixteen, met⟩ := start
  exact ⟨length.trans sixteen, fun k lt isOn => (on k isOn).elim (fun was => needs k (met k lt was)) id⟩

theorem State.NeedMet.of_states {s t : State} (start : s.NeedMet) (states : t.zoneStates = s.zoneStates)
    (windows : ∀ h, (t.head h).window = (s.head h).window) (pending : ∀ h, (t.head h).pendingReq = (s.head h).pendingReq)
    (pieces : t.pieces = s.pieces) : t.NeedMet :=
  start.of_le (State.zones_length_of_states states) (fun k need => (State.needed_congr windows pending pieces k).trans need)
    fun k on => .inl (State.zone_st_of_states states k ▸ on)

theorem State.NeedMet.of_zones {s t : State} (start : s.NeedMet) (zones : t.zones = s.zones)
    (windows : ∀ h, (t.head h).window = (s.head h).window) (pending : ∀ h, (t.head h).pendingReq = (s.head h).pendingReq)
    (pieces : t.pieces = s.pieces) : t.NeedMet := start.of_states (State.zoneStates_of_zones zones) windows pending pieces

/-- Nothing is on. -/
theorem State.NeedMet.of_off {s : State} (zones : s.zones = List.replicate 16 Zone.reset) : s.NeedMet := by
  refine ⟨by rw [zones]; rfl, fun k lt on => ?_⟩
  have off : s.zone k = Zone.reset := by
    unfold State.zone
    rw [zones]
    exact List.getD_replicate Zone.reset lt
  rw [off] at on
  cases on

/-! ### Vents and restarts -/

theorem State.zone_setZone_cases (s : State) (k j : Nat) (z : Zone) :
    (s.setZone k z).zone j = s.zone j ∨ j = k ∧ (s.setZone k z).zone j = z := by
  by_cases e : j = k
  · subst e
    by_cases lt : j < s.zones.length
    · exact .inr ⟨rfl, State.zone_setZone_self s z lt⟩
    · refine .inl ?_
      rw [State.setZone, List.set_eq_of_length_le (Nat.le_of_not_lt lt)]
  · exact .inl (State.zone_setZone_ne s z e)

/-- A zone record that is not on, or takes the place of one that was, brings no zone on. -/
theorem State.setZone_on {s : State} {k : Nat} {z : Zone} (was : z.st.on = true → (s.zone k).st.on = true) (j : Nat)
    (on : ((s.setZone k z).zone j).st.on = true) : (s.zone j).st.on = true := by
  obtain e | ⟨rfl, e⟩ := s.zone_setZone_cases k j z
  · exact e ▸ on
  · exact was (e ▸ on)

theorem State.zone_of_zones {s t : State} (zones : t.zones = s.zones) (k : Nat) : t.zone k = s.zone k := by
  rw [State.zone, zones, State.zone]

theorem State.startZone_needed (s : State) (k j : Nat) : (s.startZone k).needed j = s.needed j :=
  State.needed_congr (fun _ => rfl) (fun _ => rfl) rfl j

theorem State.restartZone_needed (s : State) (k j : Nat) : (s.restartZone k).needed j = s.needed j := by
  unfold State.restartZone
  split
  · exact s.startZone_needed k j
  · rfl

theorem State.restartZone_length (s : State) (k : Nat) : (s.restartZone k).zones.length = s.zones.length := by
  unfold State.restartZone
  split
  · exact s.setZone_length k _
  · rfl

/-- A zone that the orphan restart finds on afterwards was on or lies under a cut (R95). -/
theorem State.restartZone_on {s : State} {k j : Nat} (on : ((s.restartZone k).zone j).st.on = true) :
    (s.zone j).st.on = true ∨ s.needed j = true := by
  unfold State.restartZone at on
  split at on
  · next starts =>
    obtain e | ⟨rfl, -⟩ := s.zone_setZone_cases k j ((s.zone k).start s.zoneSettings)
    · exact .inl (e ▸ on)
    · exact .inr (State.needed_of_cutsOver starts.2.1)
  · exact .inl on

theorem State.NeedMet.restarts {s : State} (start : s.NeedMet) (ks : List Nat) : (ks.foldl State.restartZone s).NeedMet := by
  induction ks generalizing s with
  | nil => exact start
  | cons k ks ih =>
    exact ih (start.of_le (s.restartZone_length k) (fun j need => (s.restartZone_needed k j).trans need)
      fun j on => (State.restartZone_on on).imp_right (s.restartZone_needed k j).trans)

theorem State.NeedMet.orphanRestart {s : State} (start : s.NeedMet) : s.orphanRestart.NeedMet := start.restarts _

theorem State.ventZone_zone (s : State) (k j : Nat) : (s.ventZone k).zone j = (s.setZone k (s.zone k).vent).zone j :=
  State.zone_of_zones (by rw [State.ventZone, State.zoneGone_zones]) j

theorem State.ventIfUnneeded_needed (s : State) (k j : Nat) : (s.ventIfUnneeded k).needed j = s.needed j :=
  State.needed_congr (by simp) (by simp) (by simp) j

theorem State.ventIfUnneeded_length (s : State) (k : Nat) : (s.ventIfUnneeded k).zones.length = s.zones.length := by
  unfold State.ventIfUnneeded
  split
  · rw [State.ventZone, State.zoneGone_zones, State.setZone_length]
  · rfl

/-- A look at zone k brings no zone on, and leaves zone k on only over a need (R86). -/
theorem State.ventIfUnneeded_on {s : State} {k j : Nat} (on : ((s.ventIfUnneeded k).zone j).st.on = true) :
    (s.zone j).st.on = true ∧ (j = k → k < s.zones.length → s.needed k = true) := by
  unfold State.ventIfUnneeded at on
  split at on
  · rw [State.ventZone_zone] at on
    refine ⟨State.setZone_on (fun on => by cases on) j on, fun e lt => ?_⟩
    rw [e, State.zone_setZone_self s _ lt] at on
    cases on
  · next needed =>
    refine ⟨on, fun e _ => ?_⟩
    subst e
    simpa [on] using needed

theorem State.vents_needed (ks : List Nat) (s : State) (j : Nat) :
    (ks.foldl State.ventIfUnneeded s).needed j = s.needed j :=
  foldl_keeps (·.needed j) State.ventIfUnneeded (fun s k => s.ventIfUnneeded_needed k j) ks s

theorem State.vents_length (ks : List Nat) (s : State) : (ks.foldl State.ventIfUnneeded s).zones.length = s.zones.length :=
  foldl_keeps (·.zones.length) State.ventIfUnneeded (fun s k => s.ventIfUnneeded_length k) ks s

theorem State.vents_on (ks : List Nat) (s : State) (j : Nat) (on : ((ks.foldl State.ventIfUnneeded s).zone j).st.on = true) :
    (s.zone j).st.on = true ∧ (j ∈ ks → j < s.zones.length → s.needed j = true) := by
  induction ks generalizing s with
  | nil => exact ⟨on, fun mem => by cases mem⟩
  | cons k ks ih =>
    obtain ⟨still, later⟩ := ih _ on
    obtain ⟨was, need⟩ := State.ventIfUnneeded_on still
    refine ⟨was, fun mem lt => ?_⟩
    obtain e | mem := List.mem_cons.mp mem
    · exact e ▸ need e (e ▸ lt)
    · rw [← s.ventIfUnneeded_needed k j]
      exact later mem (by rwa [State.ventIfUnneeded_length])

/-- After a re-evaluation every zone that is on is needed (R86). -/
theorem State.reevaluate_needMet {s : State} (sixteen : s.zones.length = Config.zoneCount) : s.reevaluate.NeedMet := by
  have vented : ((List.range Config.zoneCount).foldl State.ventIfUnneeded s).NeedMet := by
    refine ⟨(State.vents_length _ s).trans sixteen, fun k lt on => ?_⟩
    rw [State.vents_needed]
    exact (State.vents_on _ s k on).2 (List.mem_range.mpr lt) (by rwa [sixteen])
  unfold State.reevaluate
  dsimp only
  split
  · exact vented.orphanRestart
  · exact vented

theorem State.NeedMet.drainIfDone {s : State} (start : s.NeedMet) : s.drainIfDone.NeedMet := by
  unfold State.drainIfDone
  split
  · exact State.reevaluate_needMet start.1
  · exact start

theorem State.startZones_length (ks : List Nat) (s : State) : (ks.foldl State.startZone s).zones.length = s.zones.length :=
  foldl_keeps (·.zones.length) State.startZone (fun s k => s.setZone_length k _) ks s

theorem State.zoneRequest_length (s : State) (h : HeadId) (r : ZoneRange) :
    (s.zoneRequest h r).1.zones.length = s.zones.length := by
  unfold State.zoneRequest
  dsimp only
  split
  · rfl
  · split
    · rfl
    · split
      · rfl
      · split
        · exact State.startZones_length _ _
        · split <;> rfl

theorem State.preparedFor_length (s : State) (h : HeadId) (e : Entry) :
    (s.preparedFor h e).1.zones.length = s.zones.length := by
  unfold State.preparedFor
  cases e.zones with
  | none => rfl
  | some r => exact State.zoneRequest_length (s.modHead h Head.startIdle) h r

/-! ### The parts of a step -/

theorem State.headDone_needMet {s : State} (sixteen : s.zones.length = Config.zoneCount) (h : HeadId) :
    ((s.dropMark h).reevaluate).drainIfDone.NeedMet :=
  (State.reevaluate_needMet (by rwa [State.dropMark_zones])).drainIfDone

theorem RequestWork.needMet {s b : State} (work : RequestWork s b) (empty : s.job.state.isOpen = false → ∀ h, (s.head h).window = [])
    (start : s.NeedMet) : b.NeedMet := by
  have sixteen := start.1
  cases work with
  | segment h r =>
    exact start.of_zones (by simp [State.enqueue]) (fun k => by obtain rfl | rfl := HeadId.eq_or_other h k <;> simp [State.enqueue, Head.enqueue])
      (fun k => by obtain rfl | rfl := HeadId.eq_or_other h k <;> simp [State.enqueue, Head.enqueue]) (by simp [State.enqueue])
  | flush h => exact State.headDone_needMet (s := s.modHead h Head.flush) sixteen h
  | grant h e =>
    refine State.reevaluate_needMet ?_
    rw [State.dropMark_zones, State.modHead_zones, State.preparedFor_length]
    exact sixteen
  | prepare h e =>
    refine State.NeedMet.of_zones (State.reevaluate_needMet (s := ((s.grantTaken h).preparedFor h e).1) ?_) (by simp) ?_ ?_ (by simp)
    · rw [State.preparedFor_length]
      exact sixteen
    · exact fun k => by obtain rfl | rfl := HeadId.eq_or_other h k <;> simp [State.setWatch]
    · exact fun k => by obtain rfl | rfl := HeadId.eq_or_other h k <;> simp [State.setWatch]
  | done h w => exact (State.reevaluate_needMet (by simpa using sixteen)).drainIfDone
  | blockLoad layers label => exact State.reevaluate_needMet sixteen
  | openJob a b fits =>
    have closed : s.job.state.isOpen = false := by rw [(State.openRefusal_none fits).1]; rfl
    refine start.of_zones rfl (fun k => ?_) (fun k => ?_) rfl
    · obtain ⟨p, e⟩ := s.head_openJob a b k
      rw [e, empty closed k]
      rfl
    · obtain ⟨p, e⟩ := s.head_openJob a b k
      rw [e]
      rfl
  | drain => exact State.reevaluate_needMet sixteen
  | close => exact start.of_zones rfl (fun _ => rfl) (fun _ => rfl) rfl
  | abort => exact State.reevaluate_needMet sixteen
  | bedSet separation a b =>
    refine start.of_zones rfl (fun k => ?_) (fun k => ?_) rfl
    all_goals
      obtain ⟨p, e⟩ := s.head_bedSet separation a b k
      rw [e, Head.newPark]
      split <;> rfl
  | take id => exact State.reevaluate_needMet sixteen
  | release h p => exact State.headDone_needMet (s := s.modHead h (Head.released p)) sixteen h
  | cellHold on sel hs named =>
    refine start.of_zones (by simp) (State.modSelected_window named s (f := Head.withCellHold on) fun _ => rfl) (fun k => ?_) (by simp)
    obtain e | e := State.modSelected_head_or named s (Head.withCellHold on) k
    · rw [e, Head.withCellHold]
    · rw [e]
  | serviceOut h =>
    refine State.reevaluate_needMet ?_
    rw [State.dropMark_zones]
    exact sixteen
  | serviceIn h => exact State.reevaluate_needMet sixteen
  | faultClear h =>
    refine start.of_zones rfl (fun k => ?_) (fun k => ?_) rfl
    all_goals
      obtain rfl | rfl := HeadId.eq_or_other h k <;> simp
  | zoneClear k =>
    refine State.NeedMet.orphanRestart (start.of_le ?_ (fun j need => ?_) fun j on => .inl ?_)
    · rw [State.tellBoth_zones, State.setZone_length]
    · exact (State.needed_congr (by simp) (by simp) (by simp) j).trans need
    · rw [State.zone_of_zones (State.tellBoth_zones _ _)] at on
      exact State.setZone_on (fun on => by cases on) j on

theorem TimedWork.needMet {s b : State} (work : TimedWork s b) (start : s.NeedMet) : b.NeedMet := by
  have windows := work.window
  cases work with
  | suspend h =>
    refine start.of_zones rfl windows (fun k => ?_) rfl
    obtain rfl | rfl := HeadId.eq_or_other h k <;> simp [State.suspend]
  | endIdleDelay h =>
    refine start.of_zones (by simp [State.endIdleDelay]) windows (fun k => ?_) (by simp [State.endIdleDelay])
    obtain rfl | rfl := HeadId.eq_or_other h k <;> simp [State.endIdleDelay]
  | endStopDelay h =>
    refine start.of_zones rfl windows (fun k => ?_) rfl
    obtain rfl | rfl := HeadId.eq_or_other h k <;> simp [State.endStopDelay]
  | endRetry h =>
    refine start.of_zones rfl windows (fun k => ?_) rfl
    obtain rfl | rfl := HeadId.eq_or_other h k <;> simp [State.endRetry]
  | loseStroke h =>
    refine start.of_zones (State.bladeNews_zones _ _ _ _).1 windows (fun k => ?_) (by simp [State.loseStroke])
    obtain ⟨w, e⟩ := State.bladeNews_head h false (!((s.head h).blade.strokeLost (s.head h).guard).st.accepts)
        (s.setBlade h ((s.head h).blade.strokeLost (s.head h).guard)) k
    rw [State.loseStroke, e]
    obtain rfl | rfl := HeadId.eq_or_other h k <;> simp
  | lapse h => exact State.reevaluate_needMet start.1
  | endMark h => exact start.of_zones (by simp [State.endMark]) windows (by simp [State.endMark]) (by simp [State.endMark])
  | failZone k =>
    refine State.NeedMet.orphanRestart (start.of_le ?_ (fun j need => ?_) fun j on => .inl ?_)
    · rw [State.zoneGone_zones, State.raise_zones, State.setZone_length]
    · exact (State.needed_congr (by simp) (by simp) (by simp) j).trans need
    · rw [State.zone_of_zones (State.zoneGone_zones _ _ _)] at on
      exact State.setZone_on (fun on => by cases on) j on
  | pressureGone k =>
    exact start.of_le (s.setZone_length k _) (fun _ need => need)
      fun j on => .inl (State.setZone_on (fun on => by rwa [Zone.becomeBad_on] at on) j on)
  | pressureCome k =>
    have come : (s.setZone k (s.zone k).becomeGood).NeedMet := start.of_le (s.setZone_length k _) (fun _ need => need)
      fun j on => .inl (State.setZone_on (fun on => by rwa [Zone.becomeGood_on] at on) j on)
    unfold State.pressureCome
    dsimp only
    split
    · exact come.of_zones (State.zoneBecameHeld_zones _ _).1 (by simp [State.zoneBecameHeld]) (by simp [State.zoneBecameHeld])
        (by simp [State.zoneBecameHeld])
    · exact come
  | pulse h samples n noAvg noPeak =>
    refine start.of_zones (State.bladeNews_zones _ _ _ _).1 windows (fun k => ?_) (by simp)
    obtain ⟨w, e⟩ := State.bladeNews_head h ((s.head h).pulsed samples noAvg noPeak).2.ready
        ((s.head h).pulsed samples noAvg noPeak).2.bladeFault
        (State.setBlade { s with free := n } h ((s.head h).pulsed samples noAvg noPeak).1) k
    refine (congrArg _ e).trans ?_
    obtain rfl | rfl := HeadId.eq_or_other h k <;> simp

theorem State.waits_pendingReq (s : State) (k : HeadId) (reasons : WaitSet) (range : Option ZoneRange) (h : HeadId) :
    (((s.grantTaken k).setWatch k reasons range).head h).pendingReq = (s.head h).pendingReq := by
  obtain rfl | rfl := HeadId.eq_or_other k h
  · rw [State.waits_head]; rfl
  · rw [State.waits_head_other]

theorem State.modSelected_pendingReq {sel : Byte} {hs : List HeadId} (named : selectorOf sel = some hs) (s : State)
    {f : Head → Head} (same : ∀ hd, (f hd).pendingReq = hd.pendingReq) (h : HeadId) :
    ((s.modSelected hs f).head h).pendingReq = (s.head h).pendingReq := by
  obtain e | e := State.modSelected_head_or named s f h
  · rw [e, same]
  · rw [e]

theorem State.setBlade_pendingReq (s : State) (k : HeadId) (c : Channel) (h : HeadId) :
    ((s.setBlade k c).head h).pendingReq = (s.head h).pendingReq := by
  obtain rfl | rfl := HeadId.eq_or_other k h
  · rw [State.setBlade_head_self]
  · rw [State.setBlade_head_other]

theorem State.NeedMet.closeEvent {s : State} (start : s.NeedMet) (b : State) : (State.closeEvent b s).NeedMet :=
  start.of_zones (by simp) (by simp) (by simp) (by simp)

/-- Settings change no need. -/
theorem State.NeedMet.modSelected {s : State} (start : s.NeedMet) {sel : Byte} {hs : List HeadId}
    (named : selectorOf sel = some hs) {f : Head → Head} (window : ∀ hd, (f hd).window = hd.window)
    (pending : ∀ hd, (f hd).pendingReq = hd.pendingReq) : (s.modSelected hs f).NeedMet :=
  start.of_zones (by simp) (State.modSelected_window named s window) (State.modSelected_pendingReq named s pending) (by simp)

/-- A declared piece needs no zone, and takes none from another's need (R146). -/
theorem State.NeedMet.pieceDeclared {s : State} (start : s.NeedMet) (p : PieceReq) : (s.pieceDeclared p).NeedMet := by
  refine start.of_le rfl (fun k need => ?_) fun _ on => .inl on
  have severed : s.severedOver k = true → (s.pieceDeclared p).severedOver k = true := fun lies => by
    simp only [State.severedOver, State.pieceDeclared, List.any_append, Bool.or_eq_true]
    exact .inl lies
  simp only [State.needed, Bool.or_eq_true] at need ⊢
  exact need.imp_right severed

theorem onZonesNeeded_kept : KeptByParts OnZonesNeeded where
  line l k start := ⟨noWork_kept.line l k start.1, State.NeedMet.of_zones start.2 rfl (fun _ => rfl) (fun _ => rfl) rfl⟩
  queue q n start := ⟨noWork_kept.queue q n start.1, State.NeedMet.of_zones start.2 rfl (fun _ => rfl) (fun _ => rfl) rfl⟩
  answered {s t} done start := by
    obtain ⟨noWork, met⟩ := start
    refine ⟨noWork_kept.answered done noWork, ?_⟩
    cases done with
    | same | attention | classSet => exact met
    | waits k reasons range =>
      exact State.NeedMet.of_zones met rfl (s.waits_window k reasons range) (s.waits_pendingReq k reasons range) rfl
    | cutSet sel hs p _ named | bladeSet sel hs p _ named | guardSet sel hs p _ named =>
      refine State.NeedMet.modSelected met named ?_ ?_ <;> exact fun _ => rfl
    | zoneSet cfg => exact State.NeedMet.of_states met (s.zoneSet_states cfg) (fun _ => rfl) (fun _ => rfl) rfl
    | pieceDeclare p => exact State.NeedMet.pieceDeclared met p
    | work w => exact (w.needMet ((noWork_iff s).mp noWork) met).closeEvent s
  tick {s t} done start := by
    obtain ⟨noWork, met⟩ := start
    refine ⟨noWork_kept.tick done noWork, ?_⟩
    cases done with
    | time d => exact State.NeedMet.of_states met (s.elapse_states d) (by simp) (by simp) rfl
    | line k => exact State.NeedMet.of_states met (s.flipLine_states k) (fun _ => rfl) (fun _ => rfl) rfl
    | samples k samples => exact State.NeedMet.of_zones met rfl (s.setBlade_window k _) (s.setBlade_pendingReq k _) rfl
    | work w => exact (w.needMet met).closeEvent s
  power start := ⟨noWork_kept.power start.1, State.NeedMet.of_off rfl⟩
  warm cause start := ⟨noWork_kept.warm cause start.1, State.NeedMet.of_off rfl⟩
  extend r start := ⟨noWork_kept.extend r start.1, start.2⟩
  endHold rate cause start := ⟨noWork_kept.endHold rate cause start.1,
    State.NeedMet.of_states start.2 (State.endHold_states _ rate cause) (fun _ => rfl) (fun _ => rfl) rfl⟩

/-! ### The lapse timers -/

theorem State.LapseRunsWhenHeld.of_same {s t : State} {h : HeadId} (start : s.LapseRunsWhenHeld h)
    (lapse : (t.head h).lapse.isSome = (s.head h).lapse.isSome) (pending : (t.head h).pendingReq = (s.head h).pendingReq)
    (states : t.zoneStates = s.zoneStates) : t.LapseRunsWhenHeld h := by
  unfold State.LapseRunsWhenHeld at start ⊢
  rw [lapse, pending, start]
  simp only [State.allHeld_of_states states]

/-- A lapse timer as an event's end sets it runs exactly while its request is present and all HELD (R88). -/
theorem State.lapseNow_isSome (s : State) (h : HeadId) : (s.lapseNow h).isSome = (s.head h).pendingReq.any s.allHeld := by
  unfold State.lapseNow
  cases (s.head h).pendingReq with
  | none => rfl
  | some r =>
    dsimp only [Option.any_some]
    cases s.allHeld r with
    | false => rfl
    | true => cases (s.head h).lapse <;> rfl

theorem State.lapseRunsWhenHeld_iff (s : State) (h : HeadId) :
    s.LapseRunsWhenHeld h ↔ (s.head h).lapse.isSome = (s.head h).pendingReq.any s.allHeld := by
  unfold State.LapseRunsWhenHeld
  cases (s.head h).pendingReq <;> rfl

theorem State.closeHead_lapseRuns (b s : State) (h : HeadId) : (State.closeHead b h s).LapseRunsWhenHeld h := by
  have set' : ((State.closeHead b h s).head h).lapse = (State.closeHold b h (State.closeBlade b h s)).lapseNow h := by
    simp [State.closeHead]
  have held : (State.closeHold b h (State.closeBlade b h s)).allHeld = (State.closeHead b h s).allHeld :=
    funext fun r => State.allHeld_congr (by simp) r
  rw [State.lapseRunsWhenHeld_iff, set', State.lapseNow_isSome, held]
  simp

theorem State.closeEvent_lapseRuns (b s : State) (h : HeadId) : (State.closeEvent b s).LapseRunsWhenHeld h := by
  cases h with
  | a =>
    have same := State.closeEvent_head_a b s
    exact (State.closeHead_lapseRuns b s .a).of_same (by rw [same]) (by rw [same])
      (State.zoneStates_of_zones (by simp [State.closeEvent]))
  | b => exact State.closeHead_lapseRuns b _ .b

theorem State.modSelected_lapse {sel : Byte} {hs : List HeadId} (named : selectorOf sel = some hs) (s : State)
    {f : Head → Head} (same : ∀ hd, (f hd).lapse = hd.lapse) (h : HeadId) :
    ((s.modSelected hs f).head h).lapse = (s.head h).lapse := by
  obtain e | e := State.modSelected_head_or named s f h
  · rw [e, same]
  · rw [e]

theorem lapseRuns_kept : KeptByParts fun s => ∀ h, s.LapseRunsWhenHeld h where
  line _ _ start := start
  queue _ _ start := start
  answered {s t} done start h := by
    cases done with
    | same | attention | classSet | pieceDeclare => exact start h
    | waits k reasons range =>
      refine State.LapseRunsWhenHeld.of_same (start h) ?_ (s.waits_pendingReq k reasons range h) rfl
      obtain rfl | rfl := HeadId.eq_or_other k h
      · rw [State.waits_head]; exact Option.isSome_map
      · rw [State.waits_head_other]
    | cutSet sel hs p _ named | bladeSet sel hs p _ named | guardSet sel hs p _ named =>
      refine State.LapseRunsWhenHeld.of_same (start h) (congrArg _ (State.modSelected_lapse named s ?_ h))
        (State.modSelected_pendingReq named s ?_ h) (State.zoneStates_of_zones (by simp)) <;> exact fun _ => rfl
    | zoneSet cfg => exact State.LapseRunsWhenHeld.of_same (start h) rfl rfl (s.zoneSet_states cfg)
    | work w => exact State.closeEvent_lapseRuns s _ h
  tick {s t} done start h := by
    cases done with
    | time d =>
      refine State.LapseRunsWhenHeld.of_same (start h) ?_ (by simp) (s.elapse_states d)
      rw [State.head_elapse, Head.elapse_lapse, timerAfter_isSome]
    | line k => exact State.LapseRunsWhenHeld.of_same (start h) rfl rfl (s.flipLine_states k)
    | samples k samples =>
      refine State.LapseRunsWhenHeld.of_same (start h) ?_ (s.setBlade_pendingReq k _ h) rfl
      obtain rfl | rfl := HeadId.eq_or_other k h
      · rw [State.setBlade_head_self]
      · rw [State.setBlade_head_other]
    | work w => exact State.closeEvent_lapseRuns s _ h
  power _ h := by cases h <;> rfl
  warm _ _ h := by cases h <;> rfl
  extend _ start := start
  endHold rate cause start h := (start h).of_same rfl rfl (State.endHold_states _ rate cause)

/-- Settles O55: zones start only within the budget and over a need, every event that ends a need re-evaluates it, and every
event closes with the lapse timers set. -/
theorem zonesStayWithinNeedAndBudget : Obligations.ZonesStayWithinNeedAndBudget := fun _ _ next =>
  ⟨fun start => withinBudget_kept.step start next, fun start => onZonesNeeded_kept.step start next,
    fun start => lapseRuns_kept.step start next⟩

end Sys2Proof.Machine

/-! PROOFS. The gantries: claims are hulls, segments end in their spans, a head out of service is parked, and each claim that
grows or moves is cleared first (04 sections 4.1 and 4.2). -/

namespace Sys2Proof.Machine

/-! ### Hulls -/

theorem foldl_hull_bounds (segs : List Segment) (c : Claim) (n : Nat) :
    (n ≤ (segs.foldl (fun c g => ⟨min c.lo g.xlo, max c.hi g.xhi⟩ : Claim → Segment → Claim) c).lo ↔
        n ≤ c.lo ∧ ∀ g ∈ segs, n ≤ g.xlo) ∧
      ((segs.foldl (fun c g => ⟨min c.lo g.xlo, max c.hi g.xhi⟩ : Claim → Segment → Claim) c).hi ≤ n ↔
        c.hi ≤ n ∧ ∀ g ∈ segs, g.xhi ≤ n) := by
  induction segs generalizing c with
  | nil => simp
  | cons g gs ih =>
    obtain ⟨lo, hi⟩ := ih ⟨min c.lo g.xlo, max c.hi g.xhi⟩
    rw [List.foldl_cons, lo, hi]
    simp [and_assoc]

theorem le_hull_lo {p : Point} {segs : List Segment} {n : Nat} :
    n ≤ (hull p segs).lo ↔ n ≤ p.x ∧ ∀ g ∈ segs, n ≤ g.xlo := (foldl_hull_bounds segs ⟨p.x, p.x⟩ n).1

theorem hull_hi_le {p : Point} {segs : List Segment} {n : Nat} :
    (hull p segs).hi ≤ n ↔ p.x ≤ n ∧ ∀ g ∈ segs, g.xhi ≤ n := (foldl_hull_bounds segs ⟨p.x, p.x⟩ n).2

/-- Claim `c` lies within claim `d`. -/
def Claim.Within (c d : Claim) : Prop := d.lo ≤ c.lo ∧ c.hi ≤ d.hi

theorem Claim.Within.refl (c : Claim) : c.Within c := ⟨le_refl _, le_refl _⟩

/-- A hull of fewer spans about a point of the larger hull lies within it. -/
theorem hull_within {p q : Point} {segs more : List Segment} (lo : (hull p more).lo ≤ q.x) (hi : q.x ≤ (hull p more).hi)
    (fewer : ∀ g ∈ segs, g ∈ more) : (hull q segs).Within (hull p more) := by
  have least := (le_hull_lo (p := p) (segs := more)).mp (le_refl _)
  have most := (hull_hi_le (p := p) (segs := more)).mp (le_refl _)
  exact ⟨le_hull_lo.mpr ⟨lo, fun g mem => least.2 g (fewer g mem)⟩, hull_hi_le.mpr ⟨hi, fun g mem => most.2 g (fewer g mem)⟩⟩

theorem standing_in_hull (p : Point) (segs : List Segment) : (hull p segs).lo ≤ p.x ∧ p.x ≤ (hull p segs).hi :=
  ⟨(le_hull_lo.mp (le_refl _)).1, (hull_hi_le.mp (le_refl _)).1⟩

/-! ### Claims and spans -/

/-- The head's claim is the hull of its window and its segments end in their spans (R30, R60). -/
def Head.ClaimStands (hd : Head) : Prop := hd.ClaimIsHull ∧ hd.EndsInSpan

theorem Head.ClaimStands.of_same {x y : Head} (start : x.ClaimStands) (claim : y.claim = x.claim)
    (standing : y.standing = x.standing) (window : y.window = x.window) (queue : y.queue = x.queue) : y.ClaimStands := by
  obtain ⟨isHull, ends⟩ := start
  refine ⟨?_, ?_⟩
  · rw [Head.ClaimIsHull, Head.windowSegs, claim, standing, window]
    exact isHull
  · rw [Head.EndsInSpan, window, queue]
    exact ends

theorem Head.ClaimStands.reclaim {hd : Head} (ends : hd.EndsInSpan) : hd.reclaim.ClaimStands := ⟨rfl, ends⟩

theorem Head.ClaimStands.of_empty {hd : Head} (window : hd.window = []) (queue : hd.queue = [])
    (claim : hd.claim = ⟨hd.standing.x, hd.standing.x⟩) : hd.ClaimStands := by
  refine ⟨?_, ?_, ?_⟩
  · rw [Head.ClaimIsHull, Head.windowSegs, window, claim]
    rfl
  · simp [window]
  · simp [queue]

/-- A segment that passes check 6 ends in its span (R30). -/
theorem segCheck6_endsInSpan {g : Segment} (passes : segCheck6 g = none) : g.EndsInSpan := by
  unfold segCheck6 refuse at passes
  unfold Segment.EndsInSpan
  cases arc : g.kind.isArc with
  | true =>
    simp only [arc, if_true, ite_eq_left_iff, reduceCtorEq, imp_false, not_not, Bool.and_eq_true, decide_eq_true_iff] at passes
    omega
  | false =>
    simp only [arc, Bool.false_eq_true, if_false, ite_eq_left_iff, reduceCtorEq, imp_false, not_not, Bool.and_eq_true,
      decide_eq_true_iff] at passes
    omega

theorem HeadWork.claimStands {s : State} {k : HeadId} {x : Head} (work : HeadWork s k x) (start : (s.head k).ClaimStands) :
    x.ClaimStands := by
  obtain ⟨windowEnds, queueEnds⟩ := start.2
  cases work with
  | same => exact start
  | segment r passes =>
    obtain ⟨-, -, -, -, -, span, -⟩ := State.segmentReply_none passes
    refine ⟨start.1, windowEnds, fun e mem => ?_⟩
    obtain mem | mem := List.mem_append.mp mem
    · exact queueEnds e mem
    · rw [List.mem_singleton.mp mem]
      exact segCheck6_endsInSpan span
  | flush work =>
    obtain ⟨runs, floor, e⟩ := Head.flush_eq work
    rw [e]
    exact ⟨start.1, windowEnds, fun _ mem => by cases mem⟩
  | grant e r stop clear =>
    obtain ⟨-, -, ⟨rest, queue⟩, -⟩ := State.grantStop_passes stop
    rw [queue] at queueEnds
    refine .reclaim ⟨fun v mem => ?_, fun v mem => ?_⟩
    · simp only [Head.prepared_window] at mem
      obtain mem | mem := List.mem_append.mp mem
      · exact windowEnds v mem
      · rw [List.mem_singleton.mp mem]
        exact queueEnds e (List.mem_cons_self ..)
    · simp only [Head.prepared_queue, Head.grantTaken, queue, List.tail_cons] at mem
      exact queueEnds v (List.mem_cons_of_mem _ mem)
  | prepare e =>
    exact start.of_same (by simp [Head.grantTaken]) (by simp [Head.grantTaken]) (by simp [Head.grantTaken])
      (by simp [Head.grantTaken])
  | done w rest oldest =>
    obtain ⟨timer, e⟩ := Head.completed_eq w (s.head k)
    rw [e]
    exact .reclaim ⟨fun v mem => windowEnds v (List.mem_of_mem_tail mem), queueEnds⟩
  | openJob p => exact .of_empty rfl rfl rfl
  | abort =>
    obtain ⟨runs, floor, e⟩ := (s.head k).aborted_eq
    rw [e]
    exact .of_empty rfl rfl rfl
  | bedSet p =>
    unfold Head.newPark
    split
    · exact start
    · exact .reclaim start.2
  | release p =>
    obtain ⟨runs, floor, timer, e⟩ := Head.released_eq p (s.head k)
    rw [e]
    exact .of_empty rfl rfl rfl
  | cellHold | faultClear => exact start.of_same rfl rfl rfl rfl
  | serviceOut | serviceIn => exact .reclaim start.2

theorem HeadTimed.claim {s : State} {k : HeadId} {x : Head} (timed : HeadTimed s k x) :
    x.claim = (s.head k).claim ∧ x.standing = (s.head k).standing ∧ x.service = (s.head k).service := by
  cases timed <;> exact ⟨rfl, rfl, rfl⟩

theorem claimStands_kept : HeadKept (fun _ => True) Head.ClaimStands where
  work changed start := changed.claimStands start
  timed changed start := by
    obtain ⟨queue, window, -⟩ := changed.path
    obtain ⟨claim, standing, -⟩ := changed.claim
    exact start.of_same claim standing window queue
  after d w start := start.of_same (Head.after_claim ..) (Head.after_standing ..) (Head.after_window ..) (Head.after_queue ..)
  close _ _ _ _ _ _ start := start.of_same rfl rfl rfl rfl
  elapse _ start := start.of_same rfl rfl rfl rfl
  waits _ start := start.of_same rfl rfl rfl rfl
  samples _ start := start.of_same rfl rfl rfl rfl
  cutSet _ _ _ _ _ start := start.of_same rfl rfl rfl rfl
  bladeSet _ _ _ _ _ start := start.of_same rfl rfl rfl rfl
  guardSet _ _ _ _ _ start := start.of_same rfl rfl rfl rfl
  power _ := .of_empty rfl rfl rfl
  warm _ _ := .of_empty rfl rfl rfl

/-! ### Heads that stay in their places -/

/-- Head `x` keeps to the place of head `hd`: its claim lies within that one's, and out of service with an empty window it
stands where that one stood. -/
structure Head.Stays (hd x : Head) : Prop where
  claim : x.claim.Within hd.claim
  service : x.service = hd.service
  parked : hd.inService = false → hd.window = [] → x.window = [] ∧ x.standing = hd.standing

theorem Head.Stays.of_same {hd x : Head} (claim : x.claim = hd.claim) (service : x.service = hd.service)
    (window : x.window = hd.window) (standing : x.standing = hd.standing) : hd.Stays x :=
  ⟨claim ▸ Claim.Within.refl _, service, fun _ empty => ⟨window.trans empty, standing⟩⟩

theorem Head.Stays.refl (hd : Head) : hd.Stays hd := .of_same rfl rfl rfl rfl

theorem Head.Stays.after {hd x : Head} (stays : hd.Stays x) (d : Bool) (w : Watch) : hd.Stays (x.after d w) :=
  ⟨by simpa using stays.claim, by simpa using stays.service, by simpa using stays.parked⟩

/-- The gantries are apart and a head out of service is parked (R59, R61). -/
def State.Cleared (s : State) : Prop := GantriesApart s ∧ ∀ h, s.ParkedWhenOut h

theorem clearanceKept_iff (s : State) :
    ClearanceKept s ↔ s.Cleared ∧ NoWorkOutsideJob s ∧ ∀ h, (s.head h).ClaimStands := by
  unfold ClearanceKept State.Cleared Head.ClaimStands
  constructor
  · exact fun ⟨apart, noWork, each⟩ =>
      ⟨⟨apart, fun h => (each h).2.2⟩, noWork, fun h => ⟨(each h).1, (each h).2.1⟩⟩
  · exact fun ⟨⟨apart, parked⟩, noWork, each⟩ => ⟨apart, noWork, fun h => ⟨(each h).1, (each h).2, parked h⟩⟩

theorem gantriesApart_iff (s : State) :
    GantriesApart s ↔ (s.head .a).claim.hi + s.bed.separation ≤ (s.head .b).claim.lo := Iff.rfl

theorem Head.Stays.parkedWhenOut {s t : State} {h : HeadId} (stays : (s.head h).Stays (t.head h)) (bed : t.bed = s.bed)
    (parked : s.ParkedWhenOut h) : t.ParkedWhenOut h := by
  intro out
  have out : (s.head h).inService = false := by rwa [Head.inService, stays.service] at out
  obtain ⟨empty, stands⟩ := parked out
  obtain ⟨window, standing⟩ := stays.parked out empty
  refine ⟨window, standing.trans (stands.trans ?_)⟩
  cases h <;> simp only [State.park, bed]

theorem State.Cleared.of_stays {s t : State} (start : s.Cleared) (bed : t.bed = s.bed)
    (each : ∀ h, (s.head h).Stays (t.head h)) : t.Cleared := by
  obtain ⟨apart, parked⟩ := start
  refine ⟨?_, fun h => (each h).parkedWhenOut bed (parked h)⟩
  have a := (each .a).claim.2
  have b := (each .b).claim.1
  rw [gantriesApart_iff] at apart ⊢
  rw [bed]
  omega

/-- A claim of one head that is clear of the other's keeps the gantries apart (R61). -/
theorem State.clearFor_apart {s t : State} {h : HeadId} (bed : t.bed = s.bed)
    (other : (s.head h.other).Stays (t.head h.other)) (clear : s.clearFor h (t.head h).claim = true) : GantriesApart t := by
  rw [gantriesApart_iff, bed]
  cases h
  · have within : (s.head .b).claim.lo ≤ (t.head .b).claim.lo := other.claim.1
    have clear : (t.head .a).claim.hi + s.bed.separation ≤ (s.head .b).claim.lo := of_decide_eq_true clear
    omega
  · have within : (t.head .a).claim.hi ≤ (s.head .a).claim.hi := other.claim.2
    have clear : (s.head .a).claim.hi + s.bed.separation ≤ (t.head .b).claim.lo := of_decide_eq_true clear
    omega

theorem State.Cleared.of_clear {s t : State} {h : HeadId} (start : s.Cleared) (bed : t.bed = s.bed)
    (other : (s.head h.other).Stays (t.head h.other)) (clear : s.clearFor h (t.head h).claim = true)
    (own : t.ParkedWhenOut h) : t.Cleared := by
  refine ⟨State.clearFor_apart bed other clear, fun k => ?_⟩
  obtain rfl | rfl := HeadId.eq_or_other h k
  · exact own
  · exact other.parkedWhenOut bed (start.2 _)

theorem State.stays_modHead {s : State} {h : HeadId} {f : Head → Head} (own : (s.head h).Stays (f (s.head h))) (k : HeadId) :
    (s.head k).Stays ((s.modHead h f).head k) := by
  obtain rfl | rfl := HeadId.eq_or_other h k
  · rwa [State.head_modHead_self]
  · rw [State.head_modHead_other]
    exact .refl _

/-! ### What keeps to its place -/

theorem Head.stays_flush {hd : Head} (work : hd.queue ≠ []) : hd.Stays hd.flush := by
  obtain ⟨runs, floor, e⟩ := Head.flush_eq work
  rw [e]
  exact .of_same rfl rfl rfl rfl

/-- The end of the oldest segment lies in its span, and what is left of the window was in the hull (R60, R77). -/
theorem Head.stays_completed {hd : Head} {w : WinEntry} {rest : List WinEntry} (oldest : hd.window = w :: rest)
    (stands : hd.ClaimStands) : hd.Stays (Head.completed w hd) := by
  obtain ⟨timer, e⟩ := Head.completed_eq w hd
  have segs : hd.windowSegs = w.entry.seg :: rest.map fun w => w.entry.seg := by simp [Head.windowSegs, oldest]
  obtain ⟨lo, hi⟩ : w.entry.seg.EndsInSpan := stands.2.1 w (by simp [oldest])
  have least := (le_hull_lo (p := hd.standing) (segs := hd.windowSegs)).mp (le_refl _)
  have most := (hull_hi_le (p := hd.standing) (segs := hd.windowSegs)).mp (le_refl _)
  have within : (hull w.entry.seg.last (rest.map fun w => w.entry.seg)).Within hd.claim := by
    rw [stands.1]
    exact hull_within ((least.2 _ (by simp [segs])).trans lo) (hi.trans (most.2 _ (by simp [segs])))
      fun g mem => by rw [segs]; exact List.mem_cons_of_mem _ mem
  rw [e]
  refine ⟨?_, rfl, fun _ empty => by simp [oldest] at empty⟩
  simpa [Head.standAt, Head.reclaim, Head.windowSegs, oldest] using within

theorem Head.stays_aborted {hd : Head} (stands : hd.ClaimStands) : hd.Stays hd.aborted := by
  obtain ⟨runs, floor, e⟩ := hd.aborted_eq
  rw [e]
  refine ⟨?_, rfl, fun _ _ => ⟨rfl, rfl⟩⟩
  show Claim.Within ⟨hd.standing.x, hd.standing.x⟩ hd.claim
  rw [stands.1]
  exact standing_in_hull _ _

theorem Head.stays_released {hd : Head} {p : Point} (fits : hd.releaseRefusal p = none) : hd.Stays (Head.released p hd) := by
  obtain ⟨runs, floor, timer, e⟩ := Head.released_eq p hd
  unfold Head.releaseRefusal at fits
  split at fits
  · cases fits
  · next serves =>
    split at fits
    · cases fits
    · split at fits
      · cases fits
      · split at fits
        · cases fits
        · next inside =>
          rw [e]
          exact ⟨not_not.mp inside, rfl, fun out => absurd out serves⟩

theorem Head.stays_prepared (e : Entry) (hd : Head) : hd.Stays (hd.grantTaken.prepared e) :=
  .of_same (by simp [Head.grantTaken]) (by simp [Head.grantTaken]) (by simp [Head.grantTaken]) (by simp [Head.grantTaken])

/-! ### The beds of the parts -/

@[simp] theorem State.preparedFor_bed (s : State) (h : HeadId) (e : Entry) : (s.preparedFor h e).1.bed = s.bed := by
  unfold State.preparedFor
  cases e.zones with
  | none => rfl
  | some r => simp [State.prepare]

@[simp] theorem State.drain_bed (s : State) : s.drain.bed = s.bed := State.reevaluate_bed _

@[simp] theorem State.drainIfDone_bed (s : State) : s.drainIfDone.bed = s.bed := by
  unfold State.drainIfDone
  split
  · exact s.drain_bed
  · rfl

@[simp] theorem State.creditTag_bed (h : HeadId) (n : Nat) (s : State) (tag : Nat) :
    (State.creditTag h n s tag).bed = s.bed := by
  unfold State.creditTag; dsimp only; split <;> rfl

@[simp] theorem State.credit_bed (s : State) (h : HeadId) (n : Nat) (tags : List Nat) : (s.credit h n tags).bed = s.bed :=
  foldl_keeps State.bed (State.creditTag h n) (fun s t => State.creditTag_bed h n s t) tags s

@[simp] theorem State.modSelected_bed (s : State) (hs : List HeadId) (f : Head → Head) :
    (s.modSelected hs f).bed = s.bed := foldl_keeps State.bed (fun s h => s.modHead h f) (fun _ _ => rfl) hs s

@[simp] theorem State.bladeNews_bed (h : HeadId) (ready bladeFault : Bool) (s : State) :
    (State.bladeNews h ready bladeFault s).bed = s.bed := by
  unfold State.bladeNews
  dsimp only
  split <;> split <;> simp

theorem TimedWork.bed {s b : State} (work : TimedWork s b) : b.bed = s.bed := by
  cases work with
  | suspend => simp [State.suspend]
  | endIdleDelay => simp [State.endIdleDelay]
  | endStopDelay => simp [State.endStopDelay]
  | endRetry => simp [State.endRetry]
  | loseStroke => simp [State.loseStroke]
  | lapse => simp [State.lapseRequest]
  | endMark => simp [State.endMark]
  | failZone => simp [State.failZone]
  | pressureGone => rfl
  | pressureCome =>
    unfold State.pressureCome State.zoneBecameHeld
    dsimp only
    split <;> simp
  | pulse => simp

/-! ### The requests -/

theorem TimedWork.stays {s b : State} (work : TimedWork s b) (h : HeadId) : (s.head h).Stays (b.head h) := by
  obtain ⟨x, w, changed, e⟩ := work.head h
  obtain ⟨-, window, -⟩ := changed.path
  obtain ⟨claim, standing, service⟩ := changed.claim
  rw [e]
  exact (Head.Stays.of_same claim service window standing).after false w

theorem State.serviceOutRefusal_clear {s : State} {h : HeadId} (fits : s.serviceOutRefusal h = none) :
    s.clearFor h (s.parkClaim h) = true := by
  unfold State.serviceOutRefusal at fits
  split at fits
  · cases fits
  · split at fits
    · cases fits
    · next clear => exact Bool.eq_true_of_not_eq_false clear

theorem State.serviceInRefusal_clear {s : State} {h : HeadId} (fits : s.serviceInRefusal h = none) :
    s.clearFor h (s.parkClaim h) = true := by
  unfold State.serviceInRefusal at fits
  split at fits
  · cases fits
  · next clear => exact Bool.eq_true_of_not_eq_false clear

theorem State.Cleared.openJob {s : State} {a b : Point} (fits : s.openRefusal a b = none) :
    (s.openJob a b).Cleared := by
  obtain ⟨-, apart⟩ := State.openRefusal_none fits
  refine ⟨apart, fun h out => ?_⟩
  have home (p : Point) (out : (s.head h).inService = false) : s.home h p = s.park h := by simp [State.home, out]
  cases h
  · exact ⟨rfl, home a out⟩
  · exact ⟨rfl, home b out⟩

/-- BED SET finds no job, and the parks and the places of the heads apart (R63). -/
theorem State.bedSetRefusal_none {s : State} {n : Nat} {a b : Point} (fits : s.bedSetRefusal n a b = none) :
    s.job.state = .idle ∧ 2000 ≤ n ∧ n ≤ 20000 ∧ inBed a = true ∧ inBed b = true ∧ a.x + n ≤ b.x ∧
      (if s.heads.a.inService then s.heads.a.standing.x else a.x) + n ≤
        (if s.heads.b.inService then s.heads.b.standing.x else b.x) := by
  unfold State.bedSetRefusal at fits
  dsimp only at fits
  generalize (if s.heads.a.inService = true then s.heads.a.standing.x else a.x) = placeA at fits ⊢
  generalize (if s.heads.b.inService = true then s.heads.b.standing.x else b.x) = placeB at fits ⊢
  split at fits
  · cases fits
  · next job =>
    split at fits
    · cases fits
    · next range =>
      split at fits
      · cases fits
      · next parks =>
        split at fits
        · cases fits
        · next places =>
          simp only [Bool.or_eq_true, decide_eq_true_iff, Bool.not_eq_true', not_or, Bool.not_eq_false] at range
          obtain ⟨⟨⟨least, most⟩, bedA⟩, bedB⟩ := range
          exact ⟨not_not.mp job, by omega, by omega, bedA, bedB, not_not.mp parks, not_not.mp places⟩

/-- With an empty window a head after BED SET claims its place alone (R59, R60). -/
theorem Head.newPark_claim {hd : Head} (p : Point) (empty : hd.window = []) (stands : hd.ClaimStands) :
    (hd.newPark p).claim = (let x := if hd.inService then hd.standing.x else p.x; ⟨x, x⟩) := by
  unfold Head.newPark
  split
  · rw [stands.1, Head.windowSegs, empty]
    rfl
  · simp [Head.standAt, Head.reclaim, Head.windowSegs, empty, hull]

theorem State.Cleared.bedSet {s : State} {n : Nat} {a b : Point} (fits : s.bedSetRefusal n a b = none)
    (noWork : NoWorkOutsideJob s) (stands : ∀ h, (s.head h).ClaimStands) : (s.bedSet n a b).Cleared := by
  obtain ⟨job, -, -, -, -, -, apart⟩ := State.bedSetRefusal_none fits
  have empty := (noWork_iff s).mp noWork (by rw [job]; rfl)
  refine ⟨?_, fun h out => ?_⟩
  · have claimA := Head.newPark_claim a (empty .a) (stands .a)
    have claimB := Head.newPark_claim b (empty .b) (stands .b)
    rw [gantriesApart_iff]
    show (s.heads.a.newPark a).claim.hi + n ≤ (s.heads.b.newPark b).claim.lo
    simp only [State.head, Pair.get_a, Pair.get_b] at claimA claimB
    rw [claimA, claimB]
    exact apart
  · have placed (p : Point) (out : ((s.head h).newPark p).inService = false) :
        ((s.head h).newPark p).window = [] ∧ ((s.head h).newPark p).standing = p := by
      unfold Head.newPark at out ⊢
      split at out
      · next serves => simp [serves] at out
      · next isOut => rw [if_neg isOut]; exact ⟨empty h, rfl⟩
    cases h
    · exact placed a out
    · exact placed b out

theorem Head.takenOut_claim {hd : Head} (p : Point) (empty : hd.window = []) : (Head.takenOut p hd).claim = ⟨p.x, p.x⟩ := by
  simp [Head.takenOut, Head.standAt, Head.reclaim, Head.windowSegs, empty, hull]

theorem Head.takenIn_claim {hd : Head} (p : Point) (empty : hd.window = []) : (Head.takenIn p hd).claim = ⟨p.x, p.x⟩ := by
  simp [Head.takenIn, Head.standAt, Head.reclaim, Head.windowSegs, empty, hull]

theorem RequestWork.cleared {s b : State} (work : RequestWork s b) (start : s.Cleared) (noWork : NoWorkOutsideJob s)
    (stands : ∀ h, (s.head h).ClaimStands) : b.Cleared := by
  cases work with
  | segment h r =>
    refine start.of_stays (by simp [State.enqueue]) fun k => ?_
    obtain ⟨w, e⟩ := State.tell_head (s.modHead h fun hd => hd.enqueue (submitted r)) h (fun w => w.reasons.queueEmpty) k
    rw [State.enqueue, e]
    exact (State.stays_modHead (.of_same rfl rfl rfl rfl) k).after _ _
  | flush h serves work =>
    refine start.of_stays (by simp [State.flush]) fun k => ?_
    obtain ⟨d, w, e⟩ := State.release_tail_head (s.modHead h Head.flush) h k
    rw [State.flush, e]
    exact (State.stays_modHead (Head.stays_flush work) k).after d w
  | grant h e stop clear ready =>
    have tail := State.grant_tail_head ((((s.grantTaken h).preparedFor h e).1).modHead h
      (Head.granted e (((s.grantTaken h).preparedFor h e).1.governed h e))) h
    obtain ⟨-, serves, -⟩ := State.grantStop_passes stop
    refine start.of_clear (h := h) (by simp [State.grant]) ?_ ?_ ?_
    · obtain ⟨w, e'⟩ := tail h.other
      rw [State.grant, e', State.head_modHead_other, State.preparedFor_head_other, State.grantTaken_head_other]
      exact (Head.Stays.refl _).after false w
    · obtain ⟨w, e'⟩ := tail h
      rw [State.clearFor_grantTaken] at clear
      rw [State.grant, e', State.head_modHead_self, State.preparedFor_head, State.grantTaken_head]
      simpa [Head.granted, Head.reclaim, Head.windowSegs, Head.claimWith, Head.grantTaken] using clear
    · intro out
      obtain ⟨w, e'⟩ := tail h
      rw [State.grant, e', State.head_modHead_self, State.preparedFor_head, State.grantTaken_head] at out
      simp [Head.granted, Head.reclaim, Head.grantTaken, Head.inService] at out serves
      exact absurd serves out
  | prepare h e =>
    refine start.of_stays (by simp) fun k => ?_
    obtain ⟨w, e'⟩ := State.reevaluate_head ((s.grantTaken h).preparedFor h e).1 k
    obtain rfl | rfl := HeadId.eq_or_other h k
    · rw [State.setWatch, State.head_modHead_self, e', State.preparedFor_head, State.grantTaken_head]
      exact (Head.stays_prepared e _).after false _
    · rw [State.setWatch, State.head_modHead_other, e', State.preparedFor_head_other, State.grantTaken_head_other]
      exact (Head.Stays.refl _).after false w
  | done h w rest oldest =>
    refine start.of_stays (by simp [State.complete]) fun k => ?_
    obtain ⟨d, v, e⟩ := State.complete_head s h k w
    rw [e]
    exact (State.stays_modHead (Head.stays_completed oldest (stands h)) k).after d v
  | blockLoad layers label =>
    refine start.of_stays (State.reevaluate_bed _) fun k => ?_
    obtain ⟨w, e⟩ := State.reevaluate_head
      { s with job := { s.job with stack := layers, label := label, state := .staged }, pieces := [], retained := false } k
    rw [State.blockLoad, e]
    exact (Head.Stays.refl _).after false w
  | openJob a b fits => exact State.Cleared.openJob fits
  | drain =>
    refine start.of_stays (by simp) fun k => ?_
    obtain ⟨w, e⟩ := State.drain_head s k
    rw [e]
    exact (Head.Stays.refl _).after true w
  | close => exact start.of_stays rfl fun k => .refl _
  | abort =>
    refine start.of_stays (State.reevaluate_bed _) fun k => ?_
    have aborted : ((s.modBoth Head.aborted).setJobState .idle).scrapPieces.head k = (s.head k).aborted := by
      simp [State.head_modBoth]
    obtain ⟨w, e⟩ := State.reevaluate_head_of (s := { ((s.modBoth Head.aborted).setJobState .idle).scrapPieces with
      mark := none }) (h := k) aborted
    rw [State.abort, e]
    exact (Head.stays_aborted (stands k)).after false w
  | bedSet n a b fits => exact State.Cleared.bedSet fits noWork stands
  | take id =>
    refine start.of_stays (State.reevaluate_bed _) fun k => ?_
    obtain ⟨w, e⟩ := State.reevaluate_head
      { s with pieces := s.pieces.map fun p : Piece => if p.id = id then { p with st := .taken } else p } k
    rw [State.taken, e]
    exact (Head.Stays.refl _).after false w
  | release h p fits =>
    refine start.of_stays (by simp [State.release]) fun k => ?_
    obtain ⟨d, w, e⟩ := State.release_tail_head (s.modHead h (Head.released p)) h k
    rw [State.release, e]
    exact (State.stays_modHead (Head.stays_released fits) k).after d w
  | cellHold on sel hs named =>
    refine start.of_stays (by simp) fun k => ?_
    obtain e | e := State.modSelected_head_or named s (Head.withCellHold on) k
    · rw [e]
      exact .of_same rfl rfl rfl rfl
    · rw [e]
      exact .refl _
  | serviceOut h service fits =>
    obtain ⟨-, empty⟩ := Head.window_of_workless (State.serviceOutRefusal_workless fits)
    have tail := State.grant_tail_head (s.modHead h (Head.takenOut (s.park h))) h
    refine start.of_clear (h := h) (by simp [State.serviceOut]) ?_ ?_ fun _ => ?_
    · obtain ⟨w, e⟩ := tail h.other
      rw [State.serviceOut, e, State.head_modHead_other]
      exact (Head.Stays.refl _).after false w
    · obtain ⟨w, e⟩ := tail h
      rw [State.serviceOut, e, State.head_modHead_self, Head.after_claim, Head.takenOut_claim _ empty]
      exact State.serviceOutRefusal_clear fits
    · obtain ⟨w, e⟩ := tail h
      rw [State.serviceOut, e, State.head_modHead_self]
      refine ⟨empty, ?_⟩
      cases h <;> simp [State.park, Head.takenOut, Head.standAt, Head.reclaim]
  | serviceIn h service fits =>
    have isOut : (s.head h).inService = false := by simp [Head.inService, service]
    obtain ⟨empty, -⟩ := start.2 h isOut
    have tail := State.reevaluate_head (s.modHead h (Head.takenIn (s.park h)))
    refine start.of_clear (h := h) (by simp [State.serviceIn]) ?_ ?_ fun out => ?_
    · obtain ⟨w, e⟩ := tail h.other
      rw [State.serviceIn, e, State.head_modHead_other]
      exact (Head.Stays.refl _).after false w
    · obtain ⟨w, e⟩ := tail h
      rw [State.serviceIn, e, State.head_modHead_self, Head.after_claim, Head.takenIn_claim _ empty]
      exact State.serviceInRefusal_clear fits
    · obtain ⟨w, e⟩ := tail h
      rw [State.serviceIn, e, State.head_modHead_self] at out
      cases out
  | faultClear h => exact start.of_stays rfl (State.stays_modHead (.of_same rfl rfl rfl rfl))
  | zoneClear j =>
    refine start.of_stays (by simp [State.zoneClear]) fun k => ?_
    obtain ⟨w, e⟩ := State.tellBoth_head (s.setZone j (s.zone j).vent)
      (fun w => w.reasons.zoneBudget || (w.reasons.zoneFaulted && rangeHas w.range j)) k
    rw [State.zoneClear, State.head_orphanRestart, e, State.head_setZone]
    exact (Head.Stays.refl _).after false w

theorem State.Cleared.closeEvent {s : State} (start : s.Cleared) (b : State) : (State.closeEvent b s).Cleared :=
  start.of_stays (by simp) fun h => .of_same (by simp) (by simp) (by simp) (by simp)

theorem State.Cleared.modSelected {s : State} (start : s.Cleared) {sel : Byte} {hs : List HeadId}
    (named : selectorOf sel = some hs) {f : Head → Head} (stays : ∀ hd : Head, hd.Stays (f hd)) : (s.modSelected hs f).Cleared := by
  refine start.of_stays (by simp) fun k => ?_
  obtain e | e := State.modSelected_head_or named s f k
  · rw [e]
    exact stays _
  · rw [e]
    exact .refl _

/-- After a reset each head is parked at the default bed's point (R165). -/
theorem State.Cleared.of_reset {s : State} (bed : s.bed = BedGeometry.default)
    (a : ∃ trim record, s.head .a = Head.reset BedGeometry.default.parkA trim record)
    (b : ∃ trim record, s.head .b = Head.reset BedGeometry.default.parkB trim record) : s.Cleared := by
  obtain ⟨_, _, a⟩ := a
  obtain ⟨_, _, b⟩ := b
  refine ⟨?_, fun h out => ?_⟩
  · rw [gantriesApart_iff, a, b, bed]
    exact (by decide : BedGeometry.default.parkA.x + BedGeometry.default.separation ≤ BedGeometry.default.parkB.x)
  · cases h
    · rw [a] at out
      cases out
    · rw [b] at out
      cases out

theorem clearanceKept_kept : KeptByParts fun s => s.Cleared ∧ NoWorkOutsideJob s ∧ ∀ h, (s.head h).ClaimStands := by
  have stands := claimStands_kept.byParts .trivial
  have along {s t : State} (rest : (NoWorkOutsideJob s → NoWorkOutsideJob t) ∧
      ((True ∧ ∀ h, (s.head h).ClaimStands) → True ∧ ∀ h, (t.head h).ClaimStands))
      (cleared : s.Cleared → NoWorkOutsideJob s → (∀ h, (s.head h).ClaimStands) → t.Cleared)
      (start : s.Cleared ∧ NoWorkOutsideJob s ∧ ∀ h, (s.head h).ClaimStands) :
      t.Cleared ∧ NoWorkOutsideJob t ∧ ∀ h, (t.head h).ClaimStands :=
    ⟨cleared start.1 start.2.1 start.2.2, rest.1 start.2.1, (rest.2 ⟨trivial, start.2.2⟩).2⟩
  have same {s t : State} (bed : t.bed = s.bed) (heads : ∀ h, t.head h = s.head h) (start : s.Cleared) : t.Cleared :=
    start.of_stays bed fun h => heads h ▸ .refl _
  constructor
  case line => exact fun l k => along ⟨noWork_kept.line l k, stands.line l k⟩ fun start _ _ => same rfl (fun _ => rfl) start
  case queue => exact fun q n => along ⟨noWork_kept.queue q n, stands.queue q n⟩ fun start _ _ => same rfl (fun _ => rfl) start
  case answered =>
    intro s t done
    refine along ⟨noWork_kept.answered done, stands.answered done⟩ fun start noWork stands => ?_
    cases done with
    | same => exact start
    | attention | zoneSet | pieceDeclare | classSet => exact same rfl (fun _ => rfl) start
    | waits k reasons range =>
      refine State.Cleared.of_stays start rfl fun h => ?_
      obtain rfl | rfl := HeadId.eq_or_other k h
      · rw [State.waits_head]
        exact .of_same rfl rfl rfl rfl
      · rw [State.waits_head_other]
        exact .refl _
    | cutSet sel hs p _ named | bladeSet sel hs p _ named | guardSet sel hs p _ named =>
      refine State.Cleared.modSelected start named ?_
      exact fun _ => .of_same rfl rfl rfl rfl
    | work w => exact (w.cleared start noWork stands).closeEvent s
  case tick =>
    intro s t done
    refine along ⟨noWork_kept.tick done, stands.tick done⟩ fun start _ _ => ?_
    cases done with
    | time d => exact State.Cleared.of_stays start rfl fun h => by rw [State.head_elapse]; exact .of_same rfl rfl rfl rfl
    | line k => exact same rfl (fun _ => rfl) start
    | samples k samples => exact State.Cleared.of_stays start rfl (State.stays_modHead (.of_same rfl rfl rfl rfl))
    | work w => exact (State.Cleared.of_stays start w.bed w.stays).closeEvent s
  case power => exact along ⟨noWork_kept.power, stands.power⟩ fun _ _ _ => .of_reset rfl ⟨_, _, rfl⟩ ⟨_, _, rfl⟩
  case warm => exact fun cause => along ⟨noWork_kept.warm cause, stands.warm cause⟩ fun _ _ _ => .of_reset rfl ⟨_, _, rfl⟩ ⟨_, _, rfl⟩
  case extend => exact fun r => along ⟨noWork_kept.extend r, stands.extend r⟩ fun start _ _ => same rfl (fun _ => rfl) start
  case endHold =>
    exact fun rate cause => along ⟨noWork_kept.endHold rate cause, stands.endHold rate cause⟩ fun start _ _ =>
      same rfl (fun _ => rfl) start

/-- Settles O54: a claim grows or moves only where it is clear of the other head's, and otherwise shrinks. -/
theorem gantriesStayApart : Obligations.GantriesStayApart := fun s t start next => by
  rw [clearanceKept_iff] at start ⊢
  exact clearanceKept_kept.step start next

end Sys2Proof.Machine

/-! PROOFS. The head supervisors: every event closes with the reason sets its conditions give, the overdue timers at the level
of the lines, and the watches told (Chapter 8). -/

namespace Sys2Proof.Machine

/-! ### The reason set -/

theorem State.zoneHolds_of {s t : State} {h : HeadId} (states : t.zoneStates = s.zoneStates)
    (window : (t.head h).window = (s.head h).window) : t.zoneHolds h = s.zoneHolds h := by
  simp only [State.zoneHolds, Head.cutsOver, window, State.zone_st_of_states states]

/-- What the reason set of a head depends on (Table 8-1). -/
theorem State.holdNow_of {s t : State} {h : HeadId} (job : t.job.state = s.job.state) (states : t.zoneStates = s.zoneStates)
    (service : (t.head h).service = (s.head h).service) (window : (t.head h).window = (s.head h).window)
    (blade : (t.head h).bladeHolds = (s.head h).bladeHolds) (cell : (t.head h).hold.cellHold = (s.head h).hold.cellHold)
    (overdue : (t.head h).hold.overdue = (s.head h).hold.overdue) : t.holdNow h = s.holdNow h := by
  simp only [State.holdNow, Head.inService, State.zoneHolds_of states window, job, service, blade, cell, overdue]

theorem State.closeHead_overdueReason (b s : State) (h : HeadId) :
    ((State.closeHead b h s).head h).hold.overdue = (s.head h).hold.overdue := by
  rw [State.closeHead_hold]
  show ((State.closeBlade b h s).head h).hold.overdue = (s.head h).hold.overdue
  rw [State.closeBlade_hold]

/-- Closing an event leaves OVERDUE as it was set. -/
theorem State.closeEvent_overdueReason (b s : State) (h : HeadId) :
    ((State.closeEvent b s).head h).hold.overdue = (s.head h).hold.overdue := by
  cases h with
  | a => rw [State.closeEvent_head_a, State.closeHead_overdueReason]
  | b =>
    rw [State.closeEvent_head_b, State.closeHead_overdueReason]
    exact congrArg (fun hd : Head => hd.hold.overdue) (State.closeHead_head_other b s .a)

/-- Closing an event brings the overdue timer to the level of the line (R136). -/
theorem State.closeEvent_overdue (b s : State) (h : HeadId) :
    ((State.closeEvent b s).head h).overdue = (s.head h).overdue.follow ((State.closeEvent b s).head h).hold.held := by
  cases h with
  | a => rw [State.closeEvent_head_a, State.closeHead_overdue, State.closeHead_hold]
  | b =>
    rw [State.closeEvent_head_b, State.closeHead_overdue, State.closeHead_hold]
    exact congrArg (fun hd : Head => hd.overdue.follow _) (State.closeHead_head_other b s .a)

/-! ### The watch -/

/-- After a telling of HEAD-HELD a watch that still holds it does so over a reason that stands (R75). -/
theorem State.tell_watch (s : State) (h : HeadId) (p : Watch → Bool) :
    ((s.tell h p).head h).watch = if p (s.head h).watch then Watch.empty else (s.head h).watch := by
  unfold State.tell
  split
  · rw [State.head_wake_self]
  · rfl

theorem State.closeHead_watchFollows (b s : State) (h : HeadId) : ((State.closeHead b h s).head h).WatchFollows := by
  intro held
  rw [State.closeHead, State.closeWatch, State.tell_watch] at held
  split at held
  · cases held
  · next stands =>
    rw [State.closeHead, State.closeWatch, State.tell_head_hold]
    simp only [held, Bool.true_and, Bool.or_eq_true, not_or, Bool.not_eq_true, Bool.not_eq_false'] at stands
    exact stands.1

theorem State.closeEvent_watchFollows (b s : State) (h : HeadId) : ((State.closeEvent b s).head h).WatchFollows := by
  cases h with
  | a => exact State.closeEvent_head_a b s ▸ State.closeHead_watchFollows b s .a
  | b => exact State.closeHead_watchFollows b _ .b

/-! ### The overdue timer -/

/-- The overdue timer but for the level of the line: STOPPED with an empty window and under OVERDUE, and otherwise timing the
oldest entry's allowance (R82, R137). -/
def Head.OverdueTimes (hd : Head) : Prop :=
  match hd.window with
  | [] => hd.overdue.st = .stopped ∧ hd.hold.overdue = false
  | w :: _ =>
    if hd.hold.overdue = true then hd.overdue.st = .stopped
    else hd.overdue.st ≠ .stopped ∧ hd.overdue.allowance = w.result.allowance * 1000 ∧ hd.overdue.elapsed ≤ hd.overdue.allowance

theorem Head.overdueTimes_empty {hd : Head} (empty : hd.window = []) :
    hd.OverdueTimes ↔ hd.overdue.st = .stopped ∧ hd.hold.overdue = false := by
  rw [Head.OverdueTimes, empty]

theorem Head.overdueTimes_cons {hd : Head} {w : WinEntry} {rest : List WinEntry} (oldest : hd.window = w :: rest) :
    hd.OverdueTimes ↔ if hd.hold.overdue = true then hd.overdue.st = .stopped
      else hd.overdue.st ≠ .stopped ∧ hd.overdue.allowance = w.result.allowance * 1000 ∧
        hd.overdue.elapsed ≤ hd.overdue.allowance := by
  rw [Head.OverdueTimes, oldest]

theorem Head.overdueFollows_empty {hd : Head} (empty : hd.window = []) :
    hd.OverdueFollows ↔ hd.overdue.st = .stopped ∧ hd.hold.overdue = false := by
  rw [Head.OverdueFollows, empty]

theorem Head.overdueFollows_cons {hd : Head} {w : WinEntry} {rest : List WinEntry} (oldest : hd.window = w :: rest) :
    hd.OverdueFollows ↔ if hd.hold.overdue = true then hd.overdue.st = .stopped
      else hd.overdue.st = (if hd.hold.held then .paused else .counting) ∧
        hd.overdue.allowance = w.result.allowance * 1000 ∧ hd.overdue.elapsed ≤ hd.overdue.allowance := by
  rw [Head.OverdueFollows, oldest]

theorem Head.OverdueFollows.times {hd : Head} (follows : hd.OverdueFollows) : hd.OverdueTimes := by
  cases window : hd.window with
  | nil => exact (Head.overdueTimes_empty window).mpr ((Head.overdueFollows_empty window).mp follows)
  | cons w rest =>
    rw [Head.overdueFollows_cons window] at follows
    rw [Head.overdueTimes_cons window]
    split
    · next stands => rwa [if_pos stands] at follows
    · next none =>
      rw [if_neg none] at follows
      obtain ⟨st, rest⟩ := follows
      refine ⟨?_, rest⟩
      rw [st]
      split <;> decide

theorem Head.OverdueTimes.of_same {x y : Head} (start : x.OverdueTimes) (window : y.window = x.window)
    (overdue : y.overdue = x.overdue) (reason : y.hold.overdue = x.hold.overdue) : y.OverdueTimes := by
  unfold Head.OverdueTimes at start ⊢
  rwa [window, overdue, reason]

theorem Head.OverdueFollows.of_same {x y : Head} (start : x.OverdueFollows) (window : y.window = x.window)
    (overdue : y.overdue = x.overdue) (hold : y.hold = x.hold) : y.OverdueFollows := by
  unfold Head.OverdueFollows at start ⊢
  rwa [window, overdue, hold]

theorem Overdue.follow_stopped {o : Overdue} (line : Bool) (st : o.st = .stopped) : o.follow line = o := by
  simp [Overdue.follow, st]

theorem Overdue.follow_running {o : Overdue} (line : Bool) (st : o.st ≠ .stopped) :
    o.follow line = { o with st := if line then .paused else .counting } := by
  unfold Overdue.follow
  cases e : o.st with
  | stopped => exact absurd e st
  | counting => rfl
  | paused => rfl

/-- A timer that times its entry follows its rule once it follows the line (R136). -/
theorem Head.OverdueTimes.follows {x y : Head} (times : x.OverdueTimes) (window : y.window = x.window)
    (reason : y.hold.overdue = x.hold.overdue) (overdue : y.overdue = x.overdue.follow y.hold.held) : y.OverdueFollows := by
  cases empty : x.window with
  | nil =>
    obtain ⟨stopped, none⟩ := (Head.overdueTimes_empty empty).mp times
    rw [Head.overdueFollows_empty (window.trans empty), overdue, reason, Overdue.follow_stopped _ stopped]
    exact ⟨stopped, none⟩
  | cons w rest =>
    rw [Head.overdueTimes_cons empty] at times
    rw [Head.overdueFollows_cons (window.trans empty), overdue, reason]
    split
    · next stands =>
      rw [if_pos stands] at times
      rwa [Overdue.follow_stopped _ times]
    · next none =>
      rw [if_neg none] at times
      obtain ⟨runs, allowance⟩ := times
      rw [Overdue.follow_running _ runs]
      exact ⟨rfl, allowance⟩

theorem Head.overdueTimes_stopped {hd : Head} (window : hd.window = []) (overdue : hd.overdue.st = .stopped)
    (reason : hd.hold.overdue = false) : hd.OverdueTimes := (Head.overdueTimes_empty window).mpr ⟨overdue, reason⟩

/-- A timer started over its entry times it (R82, R136). -/
theorem Head.overdueTimes_started {hd : Head} {w : WinEntry} {rest : List WinEntry} (oldest : hd.window = w :: rest)
    (overdue : hd.overdue = Overdue.start w.result.allowance) (reason : hd.hold.overdue = false) : hd.OverdueTimes := by
  rw [Head.overdueTimes_cons oldest, overdue, reason, if_neg Bool.false_ne_true]
  exact ⟨by simp [Overdue.start], rfl, Nat.zero_le _⟩

theorem HeadWork.overdueTimes {s : State} {k : HeadId} {x : Head} (work : HeadWork s k x) (noWork : NoWorkOutsideJob s)
    (start : (s.head k).OverdueTimes) : x.OverdueTimes := by
  cases work with
  | same => exact start
  | segment r => exact start.of_same rfl rfl rfl
  | flush work =>
    obtain ⟨runs, floor, e⟩ := Head.flush_eq work
    rw [e]
    exact start.of_same rfl rfl rfl
  | grant e r =>
    cases window : (s.head k).window with
    | nil =>
      obtain ⟨-, none⟩ := (Head.overdueTimes_empty window).mp start
      refine Head.overdueTimes_started (w := ⟨e, r, e.zones⟩) (rest := []) ?_ ?_ ?_ <;>
        simp [Head.granted, Head.reclaim, Head.grantTaken, window, none]
    | cons w rest =>
      rw [Head.overdueTimes_cons window] at start
      rw [Head.overdueTimes_cons (w := w) (rest := rest ++ [⟨e, r, e.zones⟩])]
      · simpa [Head.granted, Head.reclaim, Head.grantTaken, window] using start
      · simp [Head.granted, Head.reclaim, Head.grantTaken, window]
  | prepare e => exact start.of_same (by simp [Head.grantTaken]) (by simp [Head.grantTaken]) (by simp [Head.grantTaken])
  | done w rest oldest =>
    obtain ⟨timer, e⟩ := Head.completed_eq w (s.head k)
    rw [e, oldest]
    cases rest with
    | nil => exact Head.overdueTimes_stopped rfl rfl rfl
    | cons v rest => exact Head.overdueTimes_started (w := v) (rest := rest) rfl rfl rfl
  | openJob p staged =>
    have empty := (noWork_iff s).mp noWork (by rw [staged]; rfl) k
    obtain ⟨stopped, none⟩ := (Head.overdueTimes_empty empty).mp start
    exact Head.overdueTimes_stopped rfl stopped none
  | abort =>
    obtain ⟨runs, floor, e⟩ := (s.head k).aborted_eq
    rw [e]
    exact Head.overdueTimes_stopped rfl rfl rfl
  | bedSet p =>
    unfold Head.newPark
    split
    · exact start
    · exact start.of_same rfl rfl rfl
  | release p =>
    obtain ⟨runs, floor, timer, e⟩ := Head.released_eq p (s.head k)
    rw [e]
    exact Head.overdueTimes_stopped rfl rfl rfl
  | cellHold | serviceOut | serviceIn | faultClear => exact start.of_same rfl rfl rfl

theorem HeadTimed.overdueTimes {s : State} {k : HeadId} {x : Head} (timed : HeadTimed s k x)
    (start : (s.head k).OverdueTimes) : x.OverdueTimes := by
  cases timed with
  | suspend counts =>
    cases window : (s.head k).window with
    | nil => simp [(Head.overdueTimes_empty window).mp start] at counts
    | cons w rest =>
      refine (Head.overdueTimes_cons (w := w) (rest := rest) ?_).mpr ?_
      · exact window
      · rw [if_pos rfl]
  | same => exact start
  | endIdleDelay | endStopDelay | endRetry | loseStroke | lapse | pulse => exact start.of_same rfl rfl rfl

theorem Head.OverdueTimes.after {hd : Head} (start : hd.OverdueTimes) (d : Bool) (w : Watch) : (hd.after d w).OverdueTimes :=
  start.of_same (Head.after_window ..) (Head.after_overdue ..) (congrArg HoldSet.overdue (Head.after_hold ..))

theorem Overdue.elapse_fields (d : Nat) (o : Overdue) : (o.elapse d).allowance = o.allowance ∧
    (o.elapsed ≤ o.allowance → (o.elapse d).elapsed ≤ o.allowance) := by
  unfold Overdue.elapse
  split
  · exact ⟨rfl, fun _ => Nat.min_le_left _ _⟩
  · exact ⟨rfl, id⟩
  · exact ⟨rfl, id⟩

theorem Head.OverdueFollows.elapse {hd : Head} (start : hd.OverdueFollows) (d : Nat) : (hd.elapse d).OverdueFollows := by
  obtain ⟨allowance, elapsed⟩ := Overdue.elapse_fields d hd.overdue
  have st := Overdue.elapse_st d hd.overdue
  cases window : hd.window with
  | nil =>
    rw [Head.overdueFollows_empty window] at start
    rw [Head.overdueFollows_empty (hd := hd.elapse d) window, Head.elapse_overdue, Head.elapse_hold, st]
    exact start
  | cons w rest =>
    rw [Head.overdueFollows_cons window] at start
    rw [Head.overdueFollows_cons (hd := hd.elapse d) window, Head.elapse_overdue, Head.elapse_hold, st, allowance]
    split
    · next stands => rwa [if_pos stands] at start
    · next none =>
      rw [if_neg none] at start
      obtain ⟨level, allowed, within⟩ := start
      exact ⟨level, allowed, elapsed within⟩

/-! ### The parts of a step -/

/-- Set, timer and watch of head h stand as their rules give them (R75, R82, R133 to R137). -/
def State.Supervised (s : State) (h : HeadId) : Prop :=
  s.HoldFollows h ∧ (s.head h).OverdueFollows ∧ (s.head h).WatchFollows

/-- A closed event leaves a head supervised if its timer times its window (R75, R134, R136). -/
theorem State.closeEvent_supervised {s : State} {h : HeadId} (b : State) (times : (s.head h).OverdueTimes) :
    (State.closeEvent b s).Supervised h :=
  ⟨State.closeEvent_holds b s h,
    times.follows (by simp) (State.closeEvent_overdueReason b s h) (State.closeEvent_overdue b s h),
    State.closeEvent_watchFollows b s h⟩

/-- What supervision depends on. -/
theorem State.Supervised.of_same {s t : State} {h : HeadId} (start : s.Supervised h) (job : t.job.state = s.job.state)
    (states : t.zoneStates = s.zoneStates) (service : (t.head h).service = (s.head h).service)
    (window : (t.head h).window = (s.head h).window) (blade : (t.head h).bladeHolds = (s.head h).bladeHolds)
    (hold : (t.head h).hold = (s.head h).hold) (overdue : (t.head h).overdue = (s.head h).overdue)
    (watch : (t.head h).watch = (s.head h).watch) : t.Supervised h := by
  obtain ⟨holds, times, watches⟩ := start
  refine ⟨?_, times.of_same window overdue hold, ?_⟩
  · rw [State.HoldFollows, State.holdNow_of job states service window blade (hold ▸ rfl) (hold ▸ rfl), hold]
    exact holds
  · unfold Head.WatchFollows
    rwa [watch, hold]

theorem State.Supervised.of_head {s t : State} {h : HeadId} (start : s.Supervised h) (job : t.job.state = s.job.state)
    (states : t.zoneStates = s.zoneStates) (head : t.head h = s.head h) : t.Supervised h :=
  start.of_same job states (by rw [head]) (by rw [head]) (by rw [head]) (by rw [head]) (by rw [head]) (by rw [head])

theorem State.supervised_selected {sel : Byte} {hs : List HeadId} (named : selectorOf sel = some hs) {s : State}
    {f : Head → Head} (same : ∀ hd, (f hd).service = hd.service ∧ (f hd).window = hd.window ∧
      (f hd).bladeHolds = hd.bladeHolds ∧ (f hd).hold = hd.hold ∧ (f hd).overdue = hd.overdue ∧ (f hd).watch = hd.watch)
    {h : HeadId} (start : s.Supervised h) : (s.modSelected hs f).Supervised h := by
  have job : (s.modSelected hs f).job.state = s.job.state := by rw [State.modSelected_job]
  have states : (s.modSelected hs f).zoneStates = s.zoneStates := State.zoneStates_of_zones (by simp)
  obtain e | e := State.modSelected_head_or named s f h
  · obtain ⟨service, window, blade, hold, overdue, watch⟩ := same (s.head h)
    exact start.of_same job states (e ▸ service) (e ▸ window) (e ▸ blade) (e ▸ hold) (e ▸ overdue) (e ▸ watch)
  · exact start.of_head job states e

/-- A head under reset is held by NO-JOB alone, and nothing of it runs (R165). -/
theorem State.supervised_reset {s : State} {h : HeadId} {park : Point} {trim : Nat} {record : FaultRecord}
    (head : s.head h = Head.reset park trim record) (job : s.job = Job.reset) : s.Supervised h := by
  refine ⟨?_, ?_, ?_⟩
  · simp only [State.HoldFollows, State.holdNow, State.zoneHolds, head, job]
    rfl
  · rw [head, Head.overdueFollows_empty rfl]
    exact ⟨rfl, rfl⟩
  · rw [head]
    exact fun held => by cases held

theorem supervised_kept : KeptByParts fun s => NoWorkOutsideJob s ∧ ∀ h, s.Supervised h where
  line l k start := ⟨noWork_kept.line l k start.1, fun h => (start.2 h).of_head rfl rfl rfl⟩
  queue q n start := ⟨noWork_kept.queue q n start.1, fun h => (start.2 h).of_head rfl rfl rfl⟩
  answered {s t} done start := by
    obtain ⟨noWork, start⟩ := start
    refine ⟨noWork_kept.answered done noWork, fun h => ?_⟩
    cases done with
    | same => exact start h
    | attention | pieceDeclare | classSet => exact State.Supervised.of_head (start h) rfl rfl rfl
    | zoneSet cfg => exact State.Supervised.of_head (start h) rfl (s.zoneSet_states cfg) rfl
    | waits k reasons range stands =>
      obtain rfl | rfl := HeadId.eq_or_other k h
      · obtain ⟨holds, times, -⟩ := start h
        refine ⟨?_, ?_, ?_⟩
        · have same : ((s.grantTaken h).setWatch h reasons range).holdNow h = s.holdNow h := by
            refine State.holdNow_of rfl rfl ?_ ?_ ?_ ?_ ?_ <;> rw [State.waits_head] <;> rfl
          rw [State.HoldFollows, same, State.waits_head]
          exact holds
        · rw [State.waits_head]
          exact times.of_same rfl rfl rfl
        · rw [State.waits_head]
          exact stands
      · exact State.Supervised.of_head (start _) rfl rfl (s.waits_head_other k reasons range)
    | cutSet sel hs p _ named | bladeSet sel hs p _ named | guardSet sel hs p _ named =>
      refine State.supervised_selected named ?_ (start h)
      exact fun _ => ⟨rfl, rfl, rfl, rfl, rfl, rfl⟩
    | work w =>
      obtain ⟨x, d, v, changed, e⟩ := w.head h
      refine State.closeEvent_supervised s ?_
      rw [e]
      exact (changed.overdueTimes noWork (start h).2.1.times).after d v
  tick {s t} done start := by
    obtain ⟨noWork, start⟩ := start
    refine ⟨noWork_kept.tick done noWork, fun h => ?_⟩
    cases done with
    | time d =>
      obtain ⟨holds, times, watches⟩ := start h
      refine ⟨?_, ?_, ?_⟩
      · have same : (s.elapse d).holdNow h = s.holdNow h := by
          refine State.holdNow_of rfl (s.elapse_states d) ?_ ?_ ?_ ?_ ?_ <;> rw [State.head_elapse] <;> rfl
        rw [State.HoldFollows, same, State.head_elapse]
        exact holds
      · rw [State.head_elapse]
        exact times.elapse d
      · rw [State.head_elapse]
        exact watches
    | line k => exact State.Supervised.of_head (start h) rfl (s.flipLine_states k) rfl
    | samples k samples =>
      obtain rfl | rfl := HeadId.eq_or_other k h
      · refine State.Supervised.of_same (start h) rfl rfl ?_ ?_ ?_ ?_ ?_ ?_ <;> simp [Head.bladeHolds, Head.holdsCut, Channel.runAtCut, Channel.addSamples]
      · exact State.Supervised.of_head (start _) rfl rfl (s.setBlade_head_other k _)
    | work w =>
      obtain ⟨x, v, changed, e⟩ := w.head h
      refine State.closeEvent_supervised s ?_
      rw [e]
      exact (changed.overdueTimes (start h).2.1.times).after false v
  power start := ⟨noWork_kept.power start.1, fun h => by
    obtain ⟨park, e⟩ := State.head_powerReset _ h
    exact State.supervised_reset e rfl⟩
  warm cause start := ⟨noWork_kept.warm cause start.1, fun h => by
    obtain ⟨park, e⟩ := State.head_warmReset _ cause h
    exact State.supervised_reset e rfl⟩
  extend r start := ⟨noWork_kept.extend r start.1, fun h => (start.2 h).of_head rfl rfl rfl⟩
  endHold rate cause start := ⟨noWork_kept.endHold rate cause start.1,
    fun h => (start.2 h).of_head rfl (State.endHold_states _ rate cause) rfl⟩

/-- Settles O56: every event closes with set, timer and watch reworked, and what lies between events leaves what they depend
on. -/
theorem supervisionIsKept : Obligations.SupervisionIsKept := fun _ _ start next => supervised_kept.step start next

end Sys2Proof.Machine

/-! PROOFS. What the events make of the links: causes join the attention sets, and lines and replies stay (R162). -/

namespace Sys2Proof.Machine

/-! ### Sets of causes -/

theorem AttSet.union_assoc (t u v : AttSet) : (t.union u).union v = t.union (u.union v) := by
  simp [AttSet.union, Bool.or_assoc]

theorem AttSet.union_empty (t : AttSet) : t.union AttSet.empty = t := by
  simp [AttSet.union, AttSet.empty]

/-- Every cause of `t` is one of `u`. -/
def AttSet.Below (t u : AttSet) : Prop := t.union u = u

theorem AttSet.below_iff (t u : AttSet) : t.Below u ↔
    (t.waitCleared = true → u.waitCleared = true) ∧ (t.holdChanged = true → u.holdChanged = true) ∧
      (t.bladeFault = true → u.bladeFault = true) ∧ (t.headSuspended = true → u.headSuspended = true) ∧
      (t.zoneFault = true → u.zoneFault = true) ∧ (t.pieceSevered = true → u.pieceSevered = true) ∧
      (t.restarted = true → u.restarted = true) := by
  obtain ⟨a, b, c, d, e, f, g⟩ := t
  obtain ⟨a', b', c', d', e', f', g'⟩ := u
  simp [AttSet.Below, AttSet.union]

theorem AttSet.Below.union {t u v : AttSet} (one : t.Below v) (two : u.Below v) : (t.union u).Below v := by
  unfold AttSet.Below at one two ⊢
  rw [AttSet.union_assoc, two, one]

theorem AttSet.Below.trans {t u v : AttSet} (one : t.Below u) (two : u.Below v) : t.Below v := by
  unfold AttSet.Below at one two ⊢
  rw [← two, ← AttSet.union_assoc, one]

theorem AttSet.empty_below (u : AttSet) : AttSet.empty.Below u := by simp [AttSet.below_iff, AttSet.empty]

theorem AttSet.below_refl (u : AttSet) : u.Below u := by simp [AttSet.below_iff]

/-! ### Causes that join -/

/-- The links of `t` are those of `s`, but that causes of `u` may have joined their sets. -/
def State.Hears (u : LinkId → AttSet) (s t : State) : Prop :=
  ∀ l, ∃ c : AttSet, c.Below (u l) ∧ t.link l = { s.link l with attention := (s.link l).attention.union c }

theorem State.Hears.of_links {u : LinkId → AttSet} {s t : State} (links : t.links = s.links) : State.Hears u s t := fun l =>
  ⟨AttSet.empty, AttSet.empty_below _, by rw [State.link, links, AttSet.union_empty]; rfl⟩

theorem State.Hears.refl {u : LinkId → AttSet} (s : State) : State.Hears u s s := .of_links rfl

theorem State.Hears.trans {u : LinkId → AttSet} {s t r : State} (one : State.Hears u s t) (two : State.Hears u t r) :
    State.Hears u s r := by
  intro l
  obtain ⟨c, below, e⟩ := one l
  obtain ⟨d, below', e'⟩ := two l
  exact ⟨c.union d, below.union below', by rw [e', e, AttSet.union_assoc]⟩

theorem State.Hears.mono {u v : LinkId → AttSet} {s t : State} (hears : State.Hears u s t) (more : ∀ l, (u l).Below (v l)) :
    State.Hears v s t := fun l =>
  have ⟨c, below, e⟩ := hears l
  ⟨c, below.trans (more l), e⟩

/-- The lines are as they were. -/
theorem State.Hears.sameLine {u : LinkId → AttSet} {s t : State} (hears : State.Hears u s t) (l : LinkId) : SameLine s t l := by
  obtain ⟨c, -, e⟩ := hears l
  rw [SameLine, e]
  exact ⟨rfl, rfl, rfl⟩

theorem State.Hears.raisesOnly {v : LinkId → AttSet} {u : AttSet} {s t : State} (hears : State.Hears v s t)
    (all : ∀ l, (v l).Below u) : RaisesOnly s t u := by
  intro l
  obtain ⟨c, below, e⟩ := hears l
  have below := below.trans (all l)
  rw [e]
  refine ⟨?_, ?_⟩
  · simp [AttSet.union, Bool.or_comm, Bool.or_left_comm]
  · unfold AttSet.Below at below
    rw [← below]
    simp [AttSet.union, Bool.or_assoc, Bool.or_comm, Bool.or_left_comm]

theorem State.raise_hears {u : LinkId → AttSet} (s : State) (l : LinkId) {c : AttSet} (below : c.Below (u l)) :
    State.Hears u s (s.raise l c) := by
  intro m
  by_cases e : m = l
  · subst e
    exact ⟨c, below, by rw [State.link_raise_self]⟩
  · exact ⟨AttSet.empty, AttSet.empty_below _, by rw [State.link_raise_ne s c e, AttSet.union_empty]⟩

/-- WAIT-CLEARED on the head links. -/
def wakes : LinkId → AttSet
  | .head _ => AttSet.ofWaitCleared
  | .cell => AttSet.empty

theorem foldl_hears {α : Type} {u : LinkId → AttSet} {f : State → α → State} (each : ∀ s x, State.Hears u s (f s x))
    (xs : List α) (s : State) : State.Hears u s (xs.foldl f s) := by
  induction xs generalizing s with
  | nil => exact .refl s
  | cons x xs ih => exact (each s x).trans (ih _)

theorem State.tell_hears (s : State) (h : HeadId) (p : Watch → Bool) : State.Hears wakes s (s.tell h p) := by
  unfold State.tell
  split
  · exact (s.raise_hears (.head h) (AttSet.below_refl _)).trans (.of_links rfl)
  · exact .refl s

theorem State.tellBoth_hears (s : State) (p : Watch → Bool) : State.Hears wakes s (s.tellBoth p) :=
  (s.tell_hears .a p).trans (State.tell_hears _ .b p)

theorem State.wake_hears (s : State) (h : HeadId) : State.Hears wakes s (s.wake h) :=
  (s.raise_hears (.head h) (AttSet.below_refl _)).trans (.of_links rfl)

theorem State.dropMark_hears (s : State) (h : HeadId) : State.Hears wakes s (s.dropMark h) := by
  unfold State.dropMark
  split
  · exact .refl s
  · split
    · split
      · exact State.wake_hears { s with mark := some ⟨h.other, Config.twoSeconds⟩ } h.other
      · exact .of_links rfl
    · exact .refl s

theorem State.ventIfUnneeded_hears (s : State) (k : Nat) : State.Hears wakes s (s.ventIfUnneeded k) := by
  unfold State.ventIfUnneeded
  split
  · exact State.tellBoth_hears (s.setZone k (s.zone k).vent) _
  · exact .refl s

theorem State.orphanRestart_hears {u : LinkId → AttSet} (s : State) : State.Hears u s s.orphanRestart :=
  .of_links s.orphanRestart_links

theorem State.reevaluate_hears (s : State) : State.Hears wakes s s.reevaluate := by
  have vents : State.Hears wakes s ((List.range Config.zoneCount).foldl State.ventIfUnneeded s) :=
    foldl_hears State.ventIfUnneeded_hears _ s
  unfold State.reevaluate
  dsimp only
  split
  · exact vents.trans (State.orphanRestart_hears _)
  · exact vents

theorem State.drain_hears (s : State) : State.Hears wakes s s.drain :=
  State.reevaluate_hears { ((s.modBoth Head.drained).setJobState .idle).scrapPieces with mark := none }

theorem State.drainIfDone_hears (s : State) : State.Hears wakes s s.drainIfDone := by
  unfold State.drainIfDone
  split
  · exact s.drain_hears
  · exact .refl s

theorem State.preparedFor_links (s : State) (h : HeadId) (e : Entry) : (s.preparedFor h e).1.links = s.links := by
  unfold State.preparedFor
  cases e.zones with
  | none => rfl
  | some r => exact State.zoneRequest_links _ h r

theorem State.modSelected_links (s : State) (hs : List HeadId) (f : Head → Head) : (s.modSelected hs f).links = s.links :=
  foldl_keeps State.links (fun s h => s.modHead h f) (fun _ _ => rfl) hs s

/-- The causes the body of an event may raise, HOLD-CHANGED apart (R162). -/
def ordinary : LinkId → AttSet
  | .head _ => { AttSet.empty with waitCleared := true, bladeFault := true, headSuspended := true }
  | .cell => { AttSet.empty with bladeFault := true, headSuspended := true, zoneFault := true, pieceSevered := true }

theorem wakes_below_ordinary (l : LinkId) : (wakes l).Below (ordinary l) := by
  cases l <;> simp [AttSet.below_iff, wakes, ordinary, AttSet.ofWaitCleared, AttSet.empty]

theorem State.Hears.ordinary {s t : State} (hears : State.Hears wakes s t) : State.Hears ordinary s t :=
  hears.mono wakes_below_ordinary

theorem State.creditTag_hears (h : HeadId) (n : Nat) (s : State) (tag : Nat) :
    State.Hears Machine.ordinary s (State.creditTag h n s tag) := by
  unfold State.creditTag
  dsimp only
  split
  · exact State.raise_hears (u := Machine.ordinary)
      { s with pieces := s.pieces.map fun p => if p.id = tag then p.credit h n else p } .cell
      (by simp [AttSet.below_iff, Machine.ordinary, AttSet.ofPieceSevered, AttSet.empty])
  · exact .of_links rfl

theorem State.credit_hears (s : State) (h : HeadId) (n : Nat) (tags : List Nat) :
    State.Hears Machine.ordinary s (s.credit h n tags) := foldl_hears (State.creditTag_hears h n) tags s

theorem State.headDone_hears (s : State) (h : HeadId) : State.Hears wakes s ((s.dropMark h).reevaluate).drainIfDone :=
  ((s.dropMark_hears h).trans (State.reevaluate_hears _)).trans (State.drainIfDone_hears _)

theorem State.headMoved_hears (s : State) (h : HeadId) : State.Hears wakes s (s.dropMark h).reevaluate :=
  (s.dropMark_hears h).trans (State.reevaluate_hears _)

theorem RequestWork.hears {s b : State} (work : RequestWork s b) : State.Hears ordinary s b := by
  cases work with
  | segment h r => exact (State.tell_hears (s.modHead h fun hd => hd.enqueue (submitted r)) h _).ordinary
  | flush h => exact (State.headDone_hears (s.modHead h Head.flush) h).ordinary
  | grant h e =>
    have prepared : State.Hears wakes s ((s.grantTaken h).preparedFor h e).1 := .of_links (State.preparedFor_links _ h e)
    refine (prepared.trans ?_).ordinary
    exact State.headMoved_hears (((s.grantTaken h).preparedFor h e).1.modHead h
      (Head.granted e (((s.grantTaken h).preparedFor h e).1.governed h e))) h
  | prepare h e =>
    have prepared : State.Hears wakes s ((s.grantTaken h).preparedFor h e).1 := .of_links (State.preparedFor_links _ h e)
    exact ((prepared.trans (State.reevaluate_hears _)).trans (.of_links rfl)).ordinary
  | done h w =>
    refine .trans ?_ ((State.reevaluate_hears _).trans (State.drainIfDone_hears _)).ordinary
    exact (State.tell_hears (s.modHead h (Head.completed w)) h _).ordinary.trans (State.credit_hears _ _ _ _)
  | blockLoad layers label =>
    exact (State.reevaluate_hears
      { s with job := { s.job with stack := layers, label := label, state := .staged }, pieces := [], retained := false }).ordinary
  | openJob | close | bedSet | faultClear => exact .of_links rfl
  | drain => exact s.drain_hears.ordinary
  | abort =>
    exact (State.reevaluate_hears { ((s.modBoth Head.aborted).setJobState .idle).scrapPieces with mark := none }).ordinary
  | take id =>
    exact (State.reevaluate_hears
      { s with pieces := s.pieces.map fun p : Piece => if p.id = id then { p with st := .taken } else p }).ordinary
  | release h p => exact (State.headDone_hears (s.modHead h (Head.released p)) h).ordinary
  | cellHold on sel hs => exact .of_links (s.modSelected_links hs _)
  | serviceOut h => exact (State.headMoved_hears (s.modHead h (Head.takenOut (s.park h))) h).ordinary
  | serviceIn h => exact (State.reevaluate_hears (s.modHead h (Head.takenIn (s.park h)))).ordinary
  | zoneClear k =>
    exact ((State.tellBoth_hears (s.setZone k (s.zone k).vent) _).trans (State.orphanRestart_hears _)).ordinary

theorem bladeFault_below (l : LinkId) : AttSet.ofBladeFault.Below (ordinary l) := by
  cases l <;> simp [AttSet.below_iff, ordinary, AttSet.ofBladeFault, AttSet.empty]

theorem headSuspended_below (l : LinkId) : AttSet.ofHeadSuspended.Below (ordinary l) := by
  cases l <;> simp [AttSet.below_iff, ordinary, AttSet.ofHeadSuspended, AttSet.empty]

theorem State.bladeNews_hears (h : HeadId) (ready bladeFault : Bool) (s : State) :
    State.Hears ordinary s (State.bladeNews h ready bladeFault s) := by
  have told : State.Hears ordinary s (if ready then s.tell h fun w => w.reasons.bladeNotReady else s) := by
    split
    · exact (s.tell_hears h _).ordinary
    · exact .refl s
  unfold State.bladeNews
  dsimp only
  split
  · exact (told.trans (State.raise_hears _ _ (bladeFault_below _))).trans (State.raise_hears _ _ (bladeFault_below _))
  · exact told

theorem TimedWork.hears {s b : State} (work : TimedWork s b) : State.Hears ordinary s b := by
  cases work with
  | suspend h =>
    exact (State.raise_hears (u := ordinary)
        (s.modHead h fun hd => { hd with hold := { hd.hold with overdue := true }, overdue := ⟨.stopped, 0, 0⟩ }) (.head h)
        (headSuspended_below _)).trans (State.raise_hears _ _ (headSuspended_below _))
  | endIdleDelay h =>
    exact (State.tell_hears (s.modHead h fun hd => { hd with blade := { hd.blade with idleTimer := none } }) h _).ordinary
  | endStopDelay | endRetry | pressureGone => exact .of_links rfl
  | loseStroke h =>
    exact State.bladeNews_hears h _ _ (s.setBlade h ((s.head h).blade.strokeLost (s.head h).guard))
  | lapse h => exact (State.reevaluate_hears (s.modHead h fun hd => { hd with pendingReq := none })).ordinary
  | endMark h => exact (s.dropMark_hears h).ordinary
  | failZone k =>
    refine State.Hears.trans ?_ (State.orphanRestart_hears _)
    refine State.Hears.trans ?_ (State.tellBoth_hears _ _).ordinary
    exact State.raise_hears (u := ordinary) (s.setZone k (s.zone k).fail) .cell
      (by simp [AttSet.below_iff, ordinary, AttSet.ofZoneFault, AttSet.empty])
  | pressureCome k =>
    unfold State.pressureCome
    dsimp only
    split
    · exact (State.tellBoth_hears (s.setZone k (s.zone k).becomeGood) _).ordinary
    · exact .of_links rfl
  | pulse h samples n noAvg noPeak =>
    exact State.bladeNews_hears h _ _ (State.setBlade { s with free := n } h ((s.head h).pulsed samples noAvg noPeak).1)

/-! ### Closing an event -/

/-- HOLD-CHANGED on the links of the heads whose set has changed, and WAIT-CLEARED (R75, R134). -/
def closes (b t : State) : LinkId → AttSet
  | .head h => { AttSet.ofWaitCleared with holdChanged := decide ((t.head h).hold ≠ (b.head h).hold) }
  | .cell => AttSet.empty

theorem State.closeHold_hears (b s : State) (h : HeadId) {u : LinkId → AttSet}
    (changed : s.holdNow h ≠ (b.head h).hold → AttSet.ofHoldChanged.Below (u (.head h))) :
    State.Hears u s (State.closeHold b h s) := by
  unfold State.closeHold
  dsimp only
  split
  · exact .of_links rfl
  · next differs =>
    exact State.Hears.trans (.of_links rfl) (State.raise_hears (s.modHead h fun hd =>
      { hd with hold := s.holdNow h, overdue := hd.overdue.follow (s.holdNow h).held }) _ (changed differs))

theorem State.closeHead_hears (b s : State) (h : HeadId) {u : LinkId → AttSet} (wake : ∀ l, (wakes l).Below (u l))
    (changed : ((State.closeHead b h s).head h).hold ≠ (b.head h).hold → AttSet.ofHoldChanged.Below (u (.head h))) :
    State.Hears u s (State.closeHead b h s) := by
  rw [State.closeHead_hold] at changed
  have held : State.Hears u s (State.closeHold b h (State.closeBlade b h s)) :=
    (State.Hears.of_links rfl).trans (State.closeHold_hears b (State.closeBlade b h s) h changed)
  exact (held.trans (.of_links rfl)).trans
    ((State.tell_hears (State.closeLapse h (State.closeHold b h (State.closeBlade b h s))) h _).mono wake)

theorem State.closeEvent_hears (b s : State) : State.Hears (closes b (State.closeEvent b s)) s (State.closeEvent b s) := by
  have wake (l : LinkId) : (wakes l).Below (closes b (State.closeEvent b s) l) := by
    cases l <;> simp [AttSet.below_iff, wakes, closes, AttSet.ofWaitCleared, AttSet.empty]
  have told (h : HeadId) (differs : ((State.closeEvent b s).head h).hold ≠ (b.head h).hold) :
      AttSet.ofHoldChanged.Below (closes b (State.closeEvent b s) (.head h)) := by
    simp [AttSet.below_iff, closes, AttSet.ofHoldChanged, AttSet.ofWaitCleared, AttSet.empty, differs]
  exact (State.closeHead_hears b s .a wake fun differs => told .a (State.closeEvent_head_a b s ▸ differs)).trans
    (State.closeHead_hears b (State.closeHead b .a s) .b wake (told .b))

/-- A head whose set has changed has HOLD-CHANGED raised (R134). -/
theorem State.closeHold_raises (b s : State) (h : HeadId) (differs : s.holdNow h ≠ (b.head h).hold) :
    ((State.closeHold b h s).link (.head h)).attention.holdChanged = true := by
  unfold State.closeHold
  rw [if_neg differs, State.link_raise_self]
  simp [AttSet.union, AttSet.ofHoldChanged]

/-- A cause that is there stays, whatever joins. -/
theorem State.Hears.stays {u : LinkId → AttSet} {s t : State} (hears : State.Hears u s t) (l : LinkId) (cause : AttSet → Bool)
    (joins : ∀ t u : AttSet, cause (t.union u) = (cause t || cause u)) (there : cause (s.link l).attention = true) :
    cause (t.link l).attention = true := by
  obtain ⟨c, -, e⟩ := hears l
  rw [e, joins, there, Bool.true_or]

/-- A cause that none may raise is there only if it was there. -/
theorem State.Hears.was {u : LinkId → AttSet} {s t : State} (hears : State.Hears u s t) (l : LinkId) (cause : AttSet → Bool)
    (joins : ∀ t u : AttSet, cause (t.union u) = (cause t || cause u)) (quiet : cause (u l) = false)
    (there : cause (t.link l).attention = true) : cause (s.link l).attention = true := by
  obtain ⟨c, below, e⟩ := hears l
  have none : cause c = false := by
    have both := joins c (u l)
    rw [below, quiet] at both
    simpa using both.symm
  simpa [e, joins, none] using there

theorem State.closeHead_raises (b s : State) (h : HeadId) (differs : ((State.closeHead b h s).head h).hold ≠ (b.head h).hold) :
    ((State.closeHead b h s).link (.head h)).attention.holdChanged = true := by
  rw [State.closeHead_hold] at differs
  have raised := State.closeHold_raises b (State.closeBlade b h s) h differs
  exact (State.tell_hears (State.closeLapse h (State.closeHold b h (State.closeBlade b h s))) h _).stays (.head h)
    AttSet.holdChanged (fun _ _ => rfl) raised

theorem State.closeEvent_raises (b s : State) (h : HeadId) (differs : ((State.closeEvent b s).head h).hold ≠ (b.head h).hold) :
    ((State.closeEvent b s).link (.head h)).attention.holdChanged = true := by
  cases h with
  | a =>
    rw [State.closeEvent_head_a] at differs
    have hears : State.Hears (fun _ => ⟨true, true, true, true, true, true, true⟩) (State.closeHead b .a s) (State.closeEvent b s) :=
      State.closeHead_hears b _ .b (fun _ => by simp [AttSet.below_iff]) fun _ => by simp [AttSet.below_iff]
    exact hears.stays (.head .a) AttSet.holdChanged (fun _ _ => rfl) (State.closeHead_raises b s .a differs)
  | b => exact State.closeHead_raises b _ .b differs

end Sys2Proof.Machine

/-! PROOFS. The settings stay in their tables, and the attention sets keep to their causes (R162). -/

namespace Sys2Proof.Machine

/-! ### The settings of a head -/

theorem Head.SettingsInRange.of_same {x y : Head} (start : x.SettingsInRange) (cut : y.cut = x.cut)
    (params : y.bladeParams = x.bladeParams) (guard : y.guard = x.guard) : y.SettingsInRange := by
  unfold Head.SettingsInRange at start ⊢
  rwa [cut, params, guard]

/-- A request that is no settings request leaves a head's settings. -/
theorem HeadWork.settings {s : State} {k : HeadId} {x : Head} (work : HeadWork s k x) :
    x.cut = (s.head k).cut ∧ x.bladeParams = (s.head k).bladeParams ∧ x.guard = (s.head k).guard := by
  cases work with
  | same | segment | openJob | cellHold | serviceOut | serviceIn | faultClear => exact ⟨rfl, rfl, rfl⟩
  | flush work =>
    obtain ⟨runs, floor, e⟩ := Head.flush_eq work
    rw [e]
    exact ⟨rfl, rfl, rfl⟩
  | grant e r => refine ⟨?_, ?_, ?_⟩ <;> simp [Head.granted, Head.reclaim, Head.grantTaken]
  | prepare e => refine ⟨?_, ?_, ?_⟩ <;> simp [Head.grantTaken]
  | done w =>
    obtain ⟨timer, e⟩ := Head.completed_eq w (s.head k)
    rw [e]
    exact ⟨rfl, rfl, rfl⟩
  | abort =>
    obtain ⟨runs, floor, e⟩ := (s.head k).aborted_eq
    rw [e]
    exact ⟨rfl, rfl, rfl⟩
  | bedSet p =>
    unfold Head.newPark
    split <;> exact ⟨rfl, rfl, rfl⟩
  | release p =>
    obtain ⟨runs, floor, timer, e⟩ := Head.released_eq p (s.head k)
    rw [e]
    exact ⟨rfl, rfl, rfl⟩

theorem HeadTimed.settings {s : State} {k : HeadId} {x : Head} (timed : HeadTimed s k x) :
    x.cut = (s.head k).cut ∧ x.bladeParams = (s.head k).bladeParams ∧ x.guard = (s.head k).guard := by
  cases timed <;> exact ⟨rfl, rfl, rfl⟩

theorem Head.settingsInRange_reset (park : Point) (trim : Nat) (record : FaultRecord) :
    (Head.reset park trim record).SettingsInRange := by
  refine ⟨(?_ : CutParams.default.inRange = true), (?_ : BladeParams.default.inRange = true),
    (?_ : GuardSettings.default.inRange = true)⟩ <;> decide

theorem headSettings_kept : HeadKept (fun _ => True) Head.SettingsInRange where
  work changed start := by
    obtain ⟨cut, params, guard⟩ := changed.settings
    exact start.of_same cut params guard
  timed changed start := by
    obtain ⟨cut, params, guard⟩ := changed.settings
    exact start.of_same cut params guard
  after d w start := start.of_same (Head.after_cut ..) (Head.after_bladeParams ..) (Head.after_guard ..)
  close _ _ _ _ _ _ start := start.of_same rfl rfl rfl
  elapse _ start := start.of_same rfl rfl rfl
  waits _ start := start.of_same rfl rfl rfl
  samples _ start := start.of_same rfl rfl rfl
  cutSet _ _ _ _ fits start := ⟨fits, start.2⟩
  bladeSet _ _ _ _ fits start := ⟨start.1, fits, start.2.2⟩
  guardSet _ _ _ _ fits start := ⟨start.1, start.2.1, fits⟩
  power _ := Head.settingsInRange_reset ..
  warm _ _ := Head.settingsInRange_reset ..

/-! ### The shared settings -/

/-- The shared settings lie in their ranges (R62, R84). -/
def State.SharedInRange (s : State) : Prop :=
  s.zoneSettings.inRange = true ∧ 2000 ≤ s.bed.separation ∧ s.bed.separation ≤ 20000 ∧ inBed s.bed.parkA = true ∧
    inBed s.bed.parkB = true

theorem State.settingsInRange_iff (s : State) : s.SettingsInRange ↔ s.SharedInRange ∧ ∀ h, (s.head h).SettingsInRange := by
  unfold State.SettingsInRange State.SharedInRange
  constructor
  · rintro ⟨zones, least, most, a, b, headA, headB⟩
    exact ⟨⟨zones, least, most, a, b⟩, fun h => by cases h <;> assumption⟩
  · rintro ⟨⟨zones, least, most, a, b⟩, heads⟩
    exact ⟨zones, least, most, a, b, heads .a, heads .b⟩

theorem State.SharedInRange.of_same {s t : State} (start : s.SharedInRange) (zones : t.zoneSettings = s.zoneSettings)
    (bed : t.bed = s.bed) : t.SharedInRange := by
  unfold State.SharedInRange at start ⊢
  rwa [zones, bed]

@[simp] theorem State.preparedFor_zoneSettings (s : State) (h : HeadId) (e : Entry) :
    (s.preparedFor h e).1.zoneSettings = s.zoneSettings := by
  unfold State.preparedFor
  cases e.zones with
  | none => rfl
  | some r => simp [State.prepare]

@[simp] theorem State.drain_zoneSettings (s : State) : s.drain.zoneSettings = s.zoneSettings := State.reevaluate_zoneSettings _

@[simp] theorem State.drainIfDone_zoneSettings (s : State) : s.drainIfDone.zoneSettings = s.zoneSettings := by
  unfold State.drainIfDone
  split
  · exact s.drain_zoneSettings
  · rfl

theorem RequestWork.zoneSettings {s b : State} (work : RequestWork s b) : b.zoneSettings = s.zoneSettings := by
  cases work with
  | segment => simp [State.enqueue]
  | flush => simp [State.flush]
  | grant h e => simp only [State.grant, State.reevaluate_zoneSettings, State.dropMark_zoneSettings,
      State.modHead_zoneSettings, State.preparedFor_zoneSettings]; rfl
  | prepare h e => simp only [State.setWatch_zoneSettings, State.reevaluate_zoneSettings, State.preparedFor_zoneSettings]; rfl
  | done => simp [State.complete]
  | blockLoad | abort | take => exact State.reevaluate_zoneSettings _
  | openJob | close | bedSet | faultClear => rfl
  | drain => simp
  | release => simp [State.release]
  | cellHold => simp
  | serviceOut => simp [State.serviceOut]
  | serviceIn => simp [State.serviceIn]
  | zoneClear => simp [State.zoneClear]

theorem RequestWork.bed {s b : State} (work : RequestWork s b) :
    b.bed = s.bed ∨ ∃ n p q, s.bedSetRefusal n p q = none ∧ b.bed = ⟨n, p, q⟩ := by
  cases work with
  | bedSet n p q fits => exact .inr ⟨n, p, q, fits, rfl⟩
  | segment => exact .inl (by simp [State.enqueue])
  | flush => exact .inl (by simp [State.flush])
  | grant h e =>
    refine .inl ?_
    simp only [State.grant, State.reevaluate_bed, State.dropMark_bed, State.modHead_bed, State.preparedFor_bed]
    rfl
  | prepare h e =>
    refine .inl ?_
    simp only [State.setWatch_bed, State.reevaluate_bed, State.preparedFor_bed]
    rfl
  | done => exact .inl (by simp [State.complete])
  | blockLoad | abort | take => exact .inl (State.reevaluate_bed _)
  | openJob | close | faultClear => exact .inl rfl
  | drain => exact .inl (by simp)
  | release => exact .inl (by simp [State.release])
  | cellHold => exact .inl (by simp)
  | serviceOut => exact .inl (by simp [State.serviceOut])
  | serviceIn => exact .inl (by simp [State.serviceIn])
  | zoneClear => exact .inl (by simp [State.zoneClear])

theorem TimedWork.zoneSettings {s b : State} (work : TimedWork s b) : b.zoneSettings = s.zoneSettings := by
  cases work with
  | suspend => simp [State.suspend]
  | endIdleDelay => simp [State.endIdleDelay]
  | endStopDelay | endRetry | pressureGone => rfl
  | loseStroke | pulse => exact (State.bladeNews_zones _ _ _ _).2
  | lapse => simp [State.lapseRequest]
  | endMark => simp [State.endMark]
  | failZone => simp [State.failZone]
  | pressureCome =>
    unfold State.pressureCome State.zoneBecameHeld
    dsimp only
    split <;> simp

theorem State.sharedInRange_reset {s : State} (zones : s.zoneSettings = ZoneSettings.default)
    (bed : s.bed = BedGeometry.default) : s.SharedInRange := by
  unfold State.SharedInRange
  rw [zones, bed]
  decide

theorem sharedInRange_kept : KeptByParts State.SharedInRange where
  line _ _ start := start.of_same rfl rfl
  queue _ _ start := start.of_same rfl rfl
  answered {s t} done start := by
    cases done with
    | same => exact start
    | attention | waits | classSet | pieceDeclare => exact State.SharedInRange.of_same start rfl rfl
    | cutSet | bladeSet | guardSet => exact State.SharedInRange.of_same start (by simp) (by simp)
    | zoneSet cfg fits =>
      obtain ⟨-, range, -⟩ := State.zoneSetRefusal_none fits
      exact ⟨range, start.2⟩
    | work w =>
      have zones := w.zoneSettings
      obtain bed | ⟨n, p, q, fits, bed⟩ := w.bed
      · exact State.SharedInRange.of_same start (by simp [zones]) (by simp [bed])
      · obtain ⟨-, least, most, a, b, -⟩ := State.bedSetRefusal_none fits
        unfold State.SharedInRange
        rw [State.closeEvent_bed, State.closeEvent_zoneSettings, zones, bed]
        exact ⟨start.1, least, most, a, b⟩
  tick {s t} done start := by
    cases done with
    | time | line | samples => exact State.SharedInRange.of_same start rfl rfl
    | work w => exact State.SharedInRange.of_same start (by simp [w.zoneSettings]) (by simp [w.bed])
  power _ := State.sharedInRange_reset rfl rfl
  warm _ _ := State.sharedInRange_reset rfl rfl
  extend _ start := start.of_same rfl rfl
  endHold _ _ start := start.of_same rfl rfl

/-! ### Replies -/

/-- REFUSED and ALREADY (0.6). -/
def Reply.declines : Reply → Bool
  | .refused _ _ => true
  | .already _ _ _ => true
  | .accepted _ => false
  | .wait _ _ => false

theorem declines_of_carries {reply : Reply} (declines : reply.declines = true) : carriedCauses reply = AttSet.empty := by
  cases reply <;> first | rfl | cases declines

/-- The outcome of a request: a reply that declines leaves the state, and no reply of it carries causes (0.6, R162). -/
structure Outcome (s : State) (p : State × Reply) : Prop where
  unchanged : p.2.declines = true → p.1 = s
  carried : carriedCauses p.2 = AttSet.empty

theorem Outcome.declined {s : State} {reply : Reply} (declines : reply.declines = true) : Outcome s (s, reply) :=
  ⟨fun _ => rfl, declines_of_carries declines⟩

theorem Outcome.refused {s : State} {reason : Reason} {d : Detail} : Outcome s (s, .refused reason d) := .declined rfl

theorem Outcome.accepted {s t : State} {c : Content} (carried : carriedCauses (.accepted c) = AttSet.empty) :
    Outcome s (t, .accepted c) := ⟨(fun declines => by cases declines), carried⟩

theorem Outcome.waits {s t : State} {reasons : WaitSet} {n : Nat} : Outcome s (t, .wait reasons n) :=
  ⟨(fun declines => by cases declines), rfl⟩

theorem Outcome.same {s : State} {reply : Reply} (carried : carriedCauses reply = AttSet.empty) : Outcome s (s, reply) :=
  ⟨fun _ => rfl, carried⟩

theorem refuse_declines {reason : Reason} {reply : Reply} (fails : refuse reason = some reply) : reply.declines = true := by
  cases fails
  rfl

theorem State.segCheck1_declines {s : State} {h : HeadId} {reply : Reply} (fails : s.segCheck1 h = some reply) :
    reply.declines = true := by
  unfold State.segCheck1 at fails
  repeat' split at fails
  all_goals first
    | exact refuse_declines fails
    | cases fails

theorem Head.segCheck2_declines {hd : Head} {n : Nat} {reply : Reply} (fails : hd.segCheck2 n = some reply) :
    reply.declines = true := by
  unfold Head.segCheck2 at fails
  repeat' split at fails
  all_goals first
    | exact refuse_declines fails
    | (cases fails; rfl)
    | cases fails

theorem refuseIf_declines {p : Prop} [Decidable p] {reason : Reason} {reply : Reply}
    (fails : (if p then refuse reason else none) = some reply) : reply.declines = true := by
  split at fails
  · exact refuse_declines fails
  · cases fails

theorem refuseUnless_declines {p : Prop} [Decidable p] {reason : Reason} {reply : Reply}
    (fails : (if p then none else refuse reason) = some reply) : reply.declines = true := by
  split at fails
  · cases fails
  · exact refuse_declines fails

theorem segCheck4_declines {r : SegmentReq} {reply : Reply} (fails : segCheck4 r = some reply) : reply.declines = true := by
  unfold segCheck4 at fails
  repeat' split at fails
  all_goals first
    | exact refuse_declines fails
    | cases fails

theorem Head.segCheck5_declines {hd : Head} {g : Segment} {reply : Reply} (fails : hd.segCheck5 g = some reply) :
    reply.declines = true := by
  unfold Head.segCheck5 at fails
  split at fails
  · cases fails
  · cases fails
    rfl

theorem Head.segCheck10_declines {hd : Head} {g : Segment} {reply : Reply} (fails : hd.segCheck10 g = some reply) :
    reply.declines = true := by
  unfold Head.segCheck10 at fails
  split at fails
  · cases fails
    rfl
  · cases fails

theorem State.segCheck11_declines {s : State} {g : Segment} {reply : Reply} (fails : s.segCheck11 g = some reply) :
    reply.declines = true := by
  obtain ⟨reason, d, rfl, -⟩ := State.segCheck11_refusesOtherwise fails
  rfl

/-- Every check of SEGMENT that fails declines it (R24). -/
theorem State.segmentReply_declines {s : State} {h : HeadId} {r : SegmentReq} {reply : Reply}
    (fails : s.segmentReply h r = some reply) : reply.declines = true := by
  have mem := mem_of_firstReply fails
  simp only [List.mem_cons, List.not_mem_nil, or_false] at mem
  obtain e | e | e | e | e | e | e | e | e | e | e := mem
  · exact State.segCheck1_declines e.symm
  · exact Head.segCheck2_declines e.symm
  · exact refuseIf_declines e.symm
  · exact segCheck4_declines e.symm
  · exact Head.segCheck5_declines e.symm
  · exact refuseUnless_declines e.symm
  · exact refuseIf_declines e.symm
  · exact refuseUnless_declines e.symm
  · exact refuseIf_declines e.symm
  · exact Head.segCheck10_declines e.symm
  · exact State.segCheck11_declines e.symm

theorem State.segmentRequest_outcome (s : State) (h : HeadId) (r : SegmentReq) : Outcome s (s.segmentRequest h r) := by
  unfold State.segmentRequest
  split
  · next fails => exact .declined (State.segmentReply_declines fails)
  · exact .accepted rfl

theorem State.flushRequest_outcome (s : State) (h : HeadId) : Outcome s (s.flushRequest h) := by
  unfold State.flushRequest
  dsimp only
  split
  · exact .refused
  · split <;> exact .accepted rfl

theorem State.grantRequest_outcome (s : State) (h : HeadId) : Outcome s (s.grantRequest h) := by
  unfold State.grantRequest
  split
  · exact .refused
  · exact .waits
  · rw [State.grantFor_eq]
    split
    · exact .waits
    · split
      · exact .accepted rfl
      · exact .waits

theorem Head.doneReply_declines {hd : Head} {n : Nat} {reply : Reply} (fails : hd.doneReply n = some reply) :
    reply.declines = true := by
  unfold Head.doneReply at fails
  repeat' split at fails
  all_goals first
    | exact refuse_declines fails
    | (cases fails; rfl)
    | cases fails

theorem State.doneRequest_outcome (s : State) (h : HeadId) (n : Half) : Outcome s (s.doneRequest h n) := by
  unfold State.doneRequest
  split
  · next fails => exact .declined (Head.doneReply_declines fails)
  · split
    · exact .refused
    · exact .accepted rfl

theorem State.headReadReply_outcome (s : State) (l : LinkId) (head : Byte) : Outcome s (s, s.headReadReply l head) := by
  unfold State.headReadReply
  split
  · exact .refused
  · split
    · exact .accepted rfl
    · exact .refused

theorem State.pieceRead_outcome (s : State) (id : Option Byte) : Outcome s (s, s.pieceRead id) := by
  unfold State.pieceRead
  split
  · exact .accepted rfl
  · split
    · exact .refused
    · split
      · exact .refused
      · exact .accepted rfl

theorem State.closeRequest_outcome (s : State) : Outcome s s.closeRequest := by
  unfold State.closeRequest
  split
  · exact .refused
  · exact .accepted rfl

theorem State.abortRequest_outcome (s : State) : Outcome s s.abortRequest := by
  unfold State.abortRequest
  split
  · exact .refused
  · exact .accepted rfl

/-- A request of one refusal test: refused by it, or accepted. -/
theorem Outcome.tested {s t : State} {test : Option Reason} {c : Content} (carried : carriedCauses (.accepted c) = AttSet.empty) :
    Outcome s (match test with
      | some reason => (s, .refused reason .none)
      | none => (t, .accepted c)) := by
  cases test
  · exact .accepted carried
  · exact .refused

theorem State.classSetRequest_outcome (s : State) (cls coef : Byte) : Outcome s (s.classSetRequest cls coef) := by
  unfold State.classSetRequest
  split
  · exact .refused
  · split
    · exact .refused
    · exact .accepted rfl

theorem State.cutSetRequest_outcome (s : State) (sel : Byte) (p : CutReq) : Outcome s (s.cutSetRequest sel p) := by
  unfold State.cutSetRequest
  split
  · exact .refused
  · split
    · exact .refused
    · split
      · exact .refused
      · exact .accepted rfl

theorem State.bladeSetRequest_outcome (s : State) (sel : Byte) (p : BladeReq) : Outcome s (s.bladeSetRequest sel p) := by
  unfold State.bladeSetRequest
  split
  · exact .refused
  · split
    · exact .refused
    · split
      · exact .refused
      · exact .accepted rfl

theorem State.guardSetRequest_outcome (s : State) (sel : Byte) (p : GuardReq) : Outcome s (s.guardSetRequest sel p) := by
  unfold State.guardSetRequest
  split
  · exact .refused
  · split
    · exact .accepted rfl
    · exact .refused
    · exact .refused

theorem State.releaseRequest_outcome (s : State) (head : Byte) (p : PointReq) : Outcome s (s.releaseRequest head p) := by
  unfold State.releaseRequest
  split
  · exact .refused
  · split
    · exact .refused
    · exact .accepted rfl

theorem State.cellHoldRequest_outcome (s : State) (on : Bool) (sel : Byte) : Outcome s (State.cellHoldRequest on s sel) := by
  unfold State.cellHoldRequest
  split
  · exact .refused
  · exact .accepted rfl

theorem State.serviceRequest_outcome (s : State) (head direction : Byte) : Outcome s (s.serviceRequest head direction) := by
  have each (h : HeadId) (d : Service) : Outcome s (s.serviceHead h d) := by
    unfold State.serviceHead
    split
    · exact .accepted rfl
    · cases d with
      | outOfService =>
        dsimp only
        split
        · exact .refused
        · exact .accepted rfl
      | inService =>
        dsimp only
        split
        · exact .refused
        · exact .accepted rfl
  unfold State.serviceRequest
  split
  · exact each _ _
  · exact .refused
  · exact .refused

theorem State.faultClearRequest_outcome (s : State) (head : Byte) : Outcome s (s.faultClearRequest head) := by
  unfold State.faultClearRequest
  split
  · exact .refused
  · split
    · exact .refused
    · exact .accepted rfl

theorem State.zoneClearRequest_outcome (s : State) (zone : Byte) : Outcome s (s.zoneClearRequest zone) := by
  unfold State.zoneClearRequest
  split
  · exact .refused
  · split
    · exact .refused
    · exact .accepted rfl

theorem State.takeRequest_outcome (s : State) (id : Byte) : Outcome s (s.takeRequest id) := by
  unfold State.takeRequest
  split
  · exact .refused
  · exact .accepted rfl

/-- Only the reply to STATUS carries causes (R162), and a reply that declines comes with no change (0.6). -/
theorem State.run_outcome (s : State) (l : LinkId) (r : Request) (other : r ≠ .status) : Outcome s (s.run l r) := by
  have own {act : HeadId → State × Reply} (each : ∀ h, Outcome s (act h)) : Outcome s (onHeadLink s l act) := by
    cases l with
    | head h => exact each h
    | cell => exact .refused
  cases r with
  | status => exact absurd rfl other
  | ident | zoneRead | reset => exact .same rfl
  | headRead head => exact s.headReadReply_outcome l head
  | pieceRead id => exact s.pieceRead_outcome id
  | segment r => exact own fun h => s.segmentRequest_outcome h r
  | flush => exact own s.flushRequest_outcome
  | grant => exact own s.grantRequest_outcome
  | done n => exact own fun h => s.doneRequest_outcome h n
  | blockLoad layers label => exact .tested rfl
  | openJob a b => exact .tested rfl
  | close => exact s.closeRequest_outcome
  | abort => exact s.abortRequest_outcome
  | classSet cls coef => exact s.classSetRequest_outcome cls coef
  | cutSet sel p => exact s.cutSetRequest_outcome sel p
  | bedSet n a b => exact .tested rfl
  | zoneSet p => exact .tested rfl
  | bladeSet sel p => exact s.bladeSetRequest_outcome sel p
  | guardSet sel p => exact s.guardSetRequest_outcome sel p
  | pieceDeclare p => exact .tested rfl
  | take id => exact s.takeRequest_outcome id
  | release head p => exact s.releaseRequest_outcome head p
  | hold sel => exact s.cellHoldRequest_outcome true sel
  | resume sel => exact s.cellHoldRequest_outcome false sel
  | service head direction => exact s.serviceRequest_outcome head direction
  | faultClear head => exact s.faultClearRequest_outcome head
  | zoneClear zone => exact s.zoneClearRequest_outcome zone

end Sys2Proof.Machine

/-! PROOFS. The links: a request taken on its link, the causes each link's set may hold, and what one link leaves another
(10.2 to 10.4). -/

namespace Sys2Proof.Machine

/-! ### A request taken -/

/-- A request row on a link that listens is taken (R160). -/
theorem exec_served {s t : State} {c : Instr} {l : LinkId} {r : Request} (row : requestOf c = some (l, r))
    (free : s.listens l = true) (run : exec c s = .next t) : t = s.served l r := by
  rw [effect_of_exec run, effect_request row, State.serve_listens s l r free]
  rfl

/-- The reply that a taken request leaves in its link's buffer (R160). -/
theorem State.served_inFlight (s : State) (l : LinkId) (r : Request) :
    ((s.served l r).link l).inFlight = some ⟨requestCode r, ((s.toLead l).judge l r).2, false⟩ := by
  rw [State.served, State.inFlight_replyWith]

theorem State.judge_outcome (s : State) (l : LinkId) (r : Request) (other : r ≠ .status) : Outcome s (s.judge l r) := by
  unfold State.judge
  split
  · exact s.run_outcome l r other
  · exact .refused

theorem State.judge_declines {s : State} {l : LinkId} {r : Request} (declines : (s.judge l r).2.declines = true) :
    (s.judge l r).1 = s := by
  by_cases status : r = .status
  · subst status
    unfold State.judge at declines ⊢
    split at declines
    · cases declines
    · next refused => rw [if_neg refused]
  · exact (s.judge_outcome l r status).unchanged declines

/-- Settles O14: every request that declines does so on the state it was taken in. -/
theorem refusedRequestsChangeNothing : Obligations.RefusedRequestsChangeNothing := by
  intro s t c l r row free run reply taken declined
  have e := exec_served row free run
  subst e
  rw [State.served_inFlight] at taken
  have answer : ((s.toLead l).judge l r).2 = reply := by
    cases taken
    rfl
  have declines : ((s.toLead l).judge l r).2.declines = true := by
    obtain ⟨reason, d, e⟩ | ⟨n, st, next, e⟩ := declined <;> rw [answer, e] <;> rfl
  rw [State.served, State.judge_declines declines, State.answering_eq_replyWith_toLead, answer]

/-! ### The causes of each link -/

/-- The causes R162 gives a link. -/
def causesOf : LinkId → AttSet
  | .head _ => ⟨true, true, true, true, false, false, false⟩
  | .cell => ⟨false, false, true, true, true, true, true⟩

/-- A link's set and what its reply carries hold only its causes (R162). -/
def Link.Keeps (l : LinkId) (k : Link) : Prop := k.attention.Below (causesOf l) ∧ k.carried.Below (causesOf l)

theorem attentionKept_iff (s : State) : AttentionKept s ↔ ∀ l, (s.link l).Keeps l := by
  have head (t : AttSet) (h : HeadId) : t.OfHeadLink ↔ t.Below (causesOf (.head h)) := by
    rw [AttSet.below_iff]
    simp [AttSet.OfHeadLink, causesOf]
  have cell (t : AttSet) : t.OfCellLink ↔ t.Below (causesOf .cell) := by
    rw [AttSet.below_iff]
    simp [AttSet.OfCellLink, causesOf]
  unfold AttentionKept Link.Keeps
  constructor
  · rintro ⟨heads, att, carried⟩ l
    cases l with
    | head h => exact ⟨(head _ h).mp (heads h).1, (head _ h).mp (heads h).2⟩
    | cell => exact ⟨(cell _).mp att, (cell _).mp carried⟩
  · exact fun each => ⟨fun h => ⟨(head _ h).mpr (each (.head h)).1, (head _ h).mpr (each (.head h)).2⟩,
      (cell _).mpr (each .cell).1, (cell _).mpr (each .cell).2⟩

theorem ordinary_below_causesOf (l : LinkId) : (ordinary l).Below (causesOf l) := by
  cases l <;> simp [AttSet.below_iff, ordinary, causesOf, AttSet.empty]

theorem closes_below_causesOf (b t : State) (l : LinkId) : (closes b t l).Below (causesOf l) := by
  cases l <;> simp [AttSet.below_iff, closes, causesOf, AttSet.empty, AttSet.ofWaitCleared]

/-- A closed event raises only causes of their links. -/
theorem State.closeEvent_hears_causes {s b : State} (body : State.Hears ordinary s b) :
    State.Hears causesOf s (State.closeEvent s b) :=
  (body.mono ordinary_below_causesOf).trans ((State.closeEvent_hears s b).mono (closes_below_causesOf _ _))

theorem Tick.hears {s t : State} (tick : Tick s t) : State.Hears causesOf s t := by
  cases tick with
  | time | line | samples => exact .of_links rfl
  | work w => exact State.closeEvent_hears_causes w.hears

theorem Ticks.hears {s t : State} (chain : Ticks s t) : State.Hears causesOf s t := by
  induction chain with
  | refl => exact .refl s
  | tail _ tick ih => exact ih.trans tick.hears

/-- Running a request empties a set (STATUS) or lets causes join (R162). -/
theorem Answered.links {s t : State} (done : Answered s t) :
    (∃ l, t = s.emptyAttention l) ∨ State.Hears causesOf s t := by
  cases done with
  | attention l => exact .inl ⟨l, rfl⟩
  | same => exact .inr (.refl s)
  | waits | classSet | zoneSet | pieceDeclare => exact .inr (.of_links rfl)
  | cutSet | bladeSet | guardSet => exact .inr (.of_links (s.modSelected_links _ _))
  | work w => exact .inr (State.closeEvent_hears_causes w.hears)

theorem Link.Keeps.of_same {l : LinkId} {k j : Link} (keeps : k.Keeps l) (attention : j.attention = k.attention)
    (inFlight : j.inFlight = k.inFlight) : j.Keeps l := by
  unfold Link.Keeps Link.carried at keeps ⊢
  rwa [attention, inFlight]

theorem State.Hears.keeps {s t : State} (hears : State.Hears causesOf s t) {l : LinkId} (keeps : (s.link l).Keeps l) :
    (t.link l).Keeps l := by
  obtain ⟨c, below, e⟩ := hears l
  rw [e]
  exact ⟨keeps.1.union below, keeps.2⟩

theorem State.emptyAttention_keeps {s : State} (m : LinkId) {l : LinkId} (keeps : (s.link l).Keeps l) :
    ((s.emptyAttention m).link l).Keeps l := by
  unfold State.emptyAttention
  by_cases e : l = m
  · subst e
    rw [State.link_setLink_self]
    exact ⟨AttSet.empty_below _, keeps.2⟩
  · rwa [State.link_setLink_ne _ _ e]

theorem State.setLink_keeps {s : State} {m : LinkId} {k : Link} (own : k.Keeps m) (start : ∀ l, (s.link l).Keeps l)
    (l : LinkId) : ((s.setLink m k).link l).Keeps l := by
  by_cases e : l = m
  · subst e
    rwa [State.link_setLink_self]
  · rw [State.link_setLink_ne _ _ e]
    exact start l

theorem Answered.keeps {s t : State} (done : Answered s t) (start : ∀ l, (s.link l).Keeps l) (l : LinkId) :
    (t.link l).Keeps l := by
  obtain ⟨m, rfl⟩ | hears := done.links
  · exact State.emptyAttention_keeps m (start l)
  · exact hears.keeps (start l)

/-- What the reply to a request carries are causes of its link (R162). -/
theorem State.judge_carried {s : State} {l : LinkId} (r : Request) (start : (s.link l).Keeps l) :
    (carriedCauses (s.judge l r).2).Below (causesOf l) := by
  by_cases status : r = .status
  · subst status
    unfold State.judge
    split
    · cases l <;> exact start.1
    · exact AttSet.empty_below _
  · rw [(s.judge_outcome l r status).carried]
    exact AttSet.empty_below _

theorem Link.Follows.keeps {k old : Link} {l : LinkId} (follows : k.Follows old) (keeps : old.Keeps l) : k.Keeps l := by
  obtain ⟨attention, carried⟩ := follows
  refine ⟨?_, ?_⟩
  · obtain e | e := attention <;> rw [e]
    · exact keeps.1
    · exact keeps.1.union keeps.2
  · obtain e | e := carried <;> rw [e]
    · exact keeps.2
    · exact AttSet.empty_below _

theorem Link.keeps_reset (l : LinkId) : Link.reset.Keeps l := ⟨AttSet.empty_below _, AttSet.empty_below _⟩

theorem State.toLead_keeps {s : State} (m : LinkId) (start : ∀ l, (s.link l).Keeps l) (l : LinkId) :
    ((s.toLead m).link l).Keeps l := by
  refine State.setLink_keeps (k := { s.link m with asm := .lead }) ?_ start l
  exact (start m).of_same rfl rfl

theorem Commanded.keeps {s t : State} {c : Instr} (done : Commanded s c t) (start : ∀ l, (s.link l).Keeps l) (l : LinkId) :
    (t.link l).Keeps l := by
  cases done with
  | served m r =>
    have lead := State.toLead_keeps m start
    have judged := (State.judge_answered (s.toLead m) m r).keeps lead
    refine State.setLink_keeps ?_ judged l
    exact ⟨(judged m).1, State.judge_carried r (lead m)⟩
  | line m k follows => exact State.setLink_keeps (follows.keeps (start m)) start l
  | power | warm =>
    cases l with
    | head h => cases h <;> exact Link.keeps_reset _
    | cell => exact Link.keeps_reset _
  | extend r => exact start l
  | endHold rate r =>
    cases l with
    | head h => cases h <;> exact Link.keeps_reset _
    | cell =>
      exact ⟨(by rw [AttSet.below_iff]; decide : AttSet.restartedOnly.Below (causesOf .cell)), AttSet.empty_below _⟩
  | ticks _ chain => exact chain.hears.keeps (start l)

theorem attentionKept_step {s t : State} (start : AttentionKept s) (next : step s = .next t) : AttentionKept t := by
  rw [attentionKept_iff] at start ⊢
  unfold Machine.step at next
  split at next
  · exact (exec_commanded next).keeps start
  · cases next
    unfold State.idle
    split <;> exact start

/-- Settles O60: settings change only by settings requests, which take values of their tables alone; and every cause is raised
on a link that has it. -/
theorem settingsAndAttentionAreKept : Obligations.SettingsAndAttentionAreKept := by
  refine fun s t next => ⟨fun start => ?_, fun start => attentionKept_step start next⟩
  rw [State.settingsInRange_iff] at start ⊢
  exact ⟨sharedInRange_kept.step start.1 next, headSettings_kept.step start.2 next⟩

/-! ### The other links -/

theorem SameLine.refl (s : State) (l : LinkId) : SameLine s s l := ⟨rfl, rfl, rfl⟩

theorem SameLine.trans {s t r : State} {l : LinkId} (one : SameLine s t l) (two : SameLine t r l) : SameLine s r l :=
  ⟨two.1.trans one.1, two.2.1.trans one.2.1, two.2.2.trans one.2.2⟩

theorem State.setLink_sameLine (s : State) {l m : LinkId} (k : Link) (ne : m ≠ l) : SameLine s (s.setLink l k) m := by
  rw [SameLine, State.link_setLink_ne s k ne]
  exact ⟨rfl, rfl, rfl⟩

theorem Answered.sameLine {s t : State} (done : Answered s t) (l : LinkId) : SameLine s t l := by
  obtain ⟨m, rfl⟩ | hears := done.links
  · by_cases e : l = m
    · subst e
      rw [SameLine, State.emptyAttention, State.link_setLink_self]
      exact ⟨rfl, rfl, rfl⟩
    · exact s.setLink_sameLine _ e
  · exact hears.sameLine l

theorem State.served_sameLine (s : State) {l m : LinkId} (r : Request) (ne : m ≠ l) : SameLine s (s.served l r) m :=
  ((s.setLink_sameLine _ ne).trans ((State.judge_answered (s.toLead l) l r).sameLine m)).trans
    (State.setLink_sameLine _ _ ne)

theorem linkOf_served {c : Instr} {l m : LinkId} {r : Request}
    (row : requestOf c = some (m, r) ∨ ∃ ch, c = .characterReceived m ch)
    (link : linkOf c = some l) : m = l := by
  obtain row | ⟨ch, rfl⟩ := row
  · exact Option.some.inj ((linkOf_request row).symm.trans link)
  · exact Option.some.inj link

/-- A reset that begins starts its hold over, or anew (R165). -/
theorem BeginsReset.hold_free {s : State} {c : Instr} {l : LinkId} {cause : ResetCause} (link : linkOf c = some l)
    (begins : BeginsReset s c = some cause) : s.resetHold = none := by
  unfold BeginsReset at begins
  split at begins
  · cases link
  · cases link
  · split at begins
    · next free => exact free.1
    · cases begins
  · split at begins
    · next free => exact free.1
    · cases begins
  · cases begins

/-- Settles O13: what a command of one link does to the lines it does on that link's. -/
theorem otherLinksAreUntouched : Obligations.OtherLinksAreUntouched := by
  intro s t c l m link run hold ne
  have done := exec_commanded run
  cases done with
  | served k r row => exact State.served_sameLine s r (linkOf_served row link ▸ ne)
  | line k j follows row =>
    have e : k = l := Option.some.inj (row.symm.trans link)
    exact s.setLink_sameLine j (e ▸ ne)
  | power begins => exact absurd (hold.trans (BeginsReset.hold_free link begins)) (by simp [State.powerReset])
  | warm cause begins => exact absurd (hold.trans (BeginsReset.hold_free link begins)) (by simp [State.warmReset])
  | extend r holds row => rw [row] at link; cases link
  | endHold rate r holds => exact absurd (hold.trans holds) (by simp [State.endHold])
  | ticks row => rw [row] at link; cases link

end Sys2Proof.Machine

/-! PROOFS. The job state moves only by the requests that name its arcs (R2), and a granted segment leaves the window only by
DONE, RELEASE, ABORT and a reset (R64, R65). -/

namespace Sys2Proof.Machine

/-! ### Job state and windows over a request -/

/-- The job state and both windows are as they were. -/
structure State.SameCourse (s t : State) : Prop where
  job : t.job.state = s.job.state
  window : ∀ h, (t.head h).window = (s.head h).window

theorem State.SameCourse.refl (s : State) : s.SameCourse s := ⟨rfl, fun _ => rfl⟩

theorem State.SameCourse.closeEvent {s t : State} (same : s.SameCourse t) (b : State) : s.SameCourse (State.closeEvent b t) :=
  ⟨by rw [State.closeEvent_job, same.job], fun h => by rw [State.closeEvent_head_window, same.window]⟩

/-- What a request may make of the job state: it keeps it, or a closing job drains (R12). -/
def State.DrainsAtMost (s t : State) : Prop :=
  t.job.state = s.job.state ∨ s.job.state = .closing ∧ t.job.state = .idle

theorem State.drain_job (s : State) : s.drain.job.state = .idle := by
  rw [State.drain, State.reevaluate_job]
  rfl

theorem State.drainIfDone_drains {s t : State} (job : t.job.state = s.job.state) : s.DrainsAtMost t.drainIfDone := by
  unfold State.drainIfDone
  split
  · next done => exact .inr ⟨job ▸ done.1, t.drain_job⟩
  · exact .inl job

theorem State.DrainsAtMost.closeEvent {s t : State} (drains : s.DrainsAtMost t) (b : State) :
    s.DrainsAtMost (State.closeEvent b t) := by
  unfold State.DrainsAtMost
  rwa [State.closeEvent_job]

theorem State.drainIfDone_window (s : State) (h : HeadId) : (s.drainIfDone.head h).window = (s.head h).window := by
  obtain ⟨d, w, e⟩ := s.drainIfDone_head h
  rw [e, Head.after_window]

theorem State.modHead_window {s : State} {h : HeadId} {f : Head → Head} (same : (f (s.head h)).window = (s.head h).window)
    (k : HeadId) : ((s.modHead h f).head k).window = (s.head k).window := by
  obtain rfl | rfl := HeadId.eq_or_other h k
  · rw [State.head_modHead_self, same]
  · rw [State.head_modHead_other]

theorem State.segmentRequest_course (s : State) (h : HeadId) (r : SegmentReq) : s.SameCourse (s.segmentRequest h r).1 := by
  unfold State.segmentRequest
  split
  · exact .refl s
  · refine State.SameCourse.closeEvent ⟨by simp [State.enqueue], fun k => ?_⟩ s
    rw [State.enqueue, State.tell_head_window]
    exact State.modHead_window rfl k

theorem State.bedSetRequest_course (s : State) (n : Half) (a b : PointReq) : s.SameCourse (s.bedSetRequest n a b).1 := by
  unfold State.bedSetRequest
  split
  · exact .refl s
  · refine State.SameCourse.closeEvent (s := s) (t := s.bedSet n.toNat (pointOf a) (pointOf b)) ⟨rfl, fun k => ?_⟩ s
    obtain ⟨p, e⟩ := s.head_bedSet n.toNat (pointOf a) (pointOf b) k
    rw [e, Head.newPark]
    split <;> rfl

theorem State.takeRequest_course (s : State) (id : Byte) : s.SameCourse (s.takeRequest id).1 := by
  unfold State.takeRequest
  split
  · exact .refl s
  · exact State.SameCourse.closeEvent ⟨by simp [State.taken], fun k => by simp [State.taken]⟩ s

theorem State.cellHoldRequest_course (s : State) (on : Bool) (sel : Byte) :
    s.SameCourse (State.cellHoldRequest on s sel).1 := by
  unfold State.cellHoldRequest
  split
  · exact .refl s
  · next named =>
    refine State.SameCourse.closeEvent ⟨by simp, ?_⟩ s
    exact State.modSelected_window named s (f := Head.withCellHold on) fun _ => rfl

theorem State.serviceRequest_course (s : State) (head direction : Byte) : s.SameCourse (s.serviceRequest head direction).1 := by
  have each (h : HeadId) (d : Service) : s.SameCourse (s.serviceHead h d).1 := by
    unfold State.serviceHead
    split
    · exact .refl s
    · cases d with
      | outOfService =>
        dsimp only
        split
        · exact .refl s
        · refine State.SameCourse.closeEvent ⟨by simp [State.serviceOut], fun k => ?_⟩ s
          rw [State.serviceOut, State.reevaluate_head_window, State.dropMark_head_window]
          exact State.modHead_window rfl k
      | inService =>
        dsimp only
        split
        · exact .refl s
        · refine State.SameCourse.closeEvent ⟨by simp [State.serviceIn], fun k => ?_⟩ s
          rw [State.serviceIn, State.reevaluate_head_window]
          exact State.modHead_window rfl k
  unfold State.serviceRequest
  split
  · exact each _ _
  · exact .refl s
  · exact .refl s

theorem State.faultClearRequest_course (s : State) (head : Byte) : s.SameCourse (s.faultClearRequest head).1 := by
  unfold State.faultClearRequest
  split
  · exact .refl s
  · split
    · exact .refl s
    · refine State.SameCourse.closeEvent ?_ s
      exact ⟨rfl, fun k => State.modHead_window rfl k⟩

theorem State.zoneClear_course (s : State) (k : Nat) : s.SameCourse (s.zoneClear k) :=
  ⟨by simp [State.zoneClear], fun h => by simp [State.zoneClear]⟩

theorem State.zoneClearRequest_course (s : State) (zone : Byte) : s.SameCourse (s.zoneClearRequest zone).1 := by
  unfold State.zoneClearRequest
  split
  · exact .refl s
  · split
    · exact .refl s
    · dsimp only
      exact (s.zoneClear_course zone.toNat).closeEvent s

theorem State.classSetRequest_course (s : State) (cls coef : Byte) : s.SameCourse (s.classSetRequest cls coef).1 := by
  unfold State.classSetRequest
  split
  · exact .refl s
  · split
    · exact .refl s
    · exact ⟨rfl, fun _ => rfl⟩

/-- Settings of selected heads touch no window. -/
theorem State.modSelected_course {sel : Byte} {hs : List HeadId} (named : selectorOf sel = some hs) (s : State)
    {f : Head → Head} (same : ∀ hd, (f hd).window = hd.window) : s.SameCourse (s.modSelected hs f) :=
  ⟨by rw [State.modSelected_job], State.modSelected_window named s same⟩

theorem State.cutSetRequest_course (s : State) (sel : Byte) (p : CutReq) : s.SameCourse (s.cutSetRequest sel p).1 := by
  unfold State.cutSetRequest
  split
  · exact .refl s
  · split
    · exact .refl s
    · next named =>
      split
      · exact .refl s
      · exact State.modSelected_course named s (f := fun hd => { hd with cut := cutParamsOf p }) fun _ => rfl

theorem State.bladeSetRequest_course (s : State) (sel : Byte) (p : BladeReq) : s.SameCourse (s.bladeSetRequest sel p).1 := by
  unfold State.bladeSetRequest
  split
  · exact .refl s
  · split
    · exact .refl s
    · next named =>
      split
      · exact .refl s
      · exact State.modSelected_course named s (f := fun hd => { hd with bladeParams := bladeParamsOf p }) fun _ => rfl

theorem State.guardSetRequest_course (s : State) (sel : Byte) (p : GuardReq) : s.SameCourse (s.guardSetRequest sel p).1 := by
  unfold State.guardSetRequest
  split
  · exact .refl s
  · split
    · next hs g named _ => exact State.modSelected_course named s (f := Head.guardSet g) fun _ => rfl
    · exact .refl s
    · exact .refl s

theorem State.zoneSetRequest_course (s : State) (p : ZoneSetReq) : s.SameCourse (s.zoneSetRequest p).1 := by
  unfold State.zoneSetRequest
  split <;> exact ⟨rfl, fun _ => rfl⟩

theorem State.pieceDeclareRequest_course (s : State) (p : PieceReq) : s.SameCourse (s.pieceDeclareRequest p).1 := by
  unfold State.pieceDeclareRequest
  split <;> exact ⟨rfl, fun _ => rfl⟩

/-- A grant keeps the job, and appends to its head's window at most (R71). -/
theorem State.grantRequest_course (s : State) (h : HeadId) :
    (s.grantRequest h).1.job.state = s.job.state ∧ ∀ k, (s.head k).window <+: ((s.grantRequest h).1.head k).window := by
  have waits (reasons : WaitSet) (range : Option ZoneRange) (k : HeadId) :
      (s.head k).window <+: (((s.grantTaken h).setWatch h reasons range).head k).window := by
    rw [State.waits_window]
  unfold State.grantRequest
  split
  · exact ⟨rfl, fun _ => List.prefix_refl _⟩
  · exact ⟨rfl, waits _ _⟩
  · next e _ =>
    rw [State.grantFor_eq]
    split
    · exact ⟨rfl, waits _ _⟩
    · split
      · refine ⟨by simp [State.grant], fun k => ?_⟩
        rw [State.closeEvent_head_window, State.grant, State.reevaluate_head_window, State.dropMark_head_window]
        obtain rfl | rfl := HeadId.eq_or_other h k
        · rw [State.head_modHead_self, State.preparedFor_head, State.grantTaken_head]
          simp [Head.granted, Head.reclaim, Head.grantTaken]
        · rw [State.head_modHead_other, State.preparedFor_head_other, State.grantTaken_head_other]
      · refine ⟨by simp, fun k => ?_⟩
        rw [State.closeEvent_head_window]
        obtain rfl | rfl := HeadId.eq_or_other h k
        · rw [State.setWatch, State.head_modHead_self, State.reevaluate_head_window, State.preparedFor_head,
            State.grantTaken_head]
          simp [Head.grantTaken]
        · rw [State.setWatch, State.head_modHead_other, State.reevaluate_head_window, State.preparedFor_head_other,
            State.grantTaken_head_other]

theorem State.flushRequest_course (s : State) (h : HeadId) :
    s.DrainsAtMost (s.flushRequest h).1 ∧ ∀ k, ((s.flushRequest h).1.head k).window = (s.head k).window := by
  unfold State.flushRequest
  dsimp only
  split
  · exact ⟨.inl rfl, fun _ => rfl⟩
  · split
    · exact ⟨.inl rfl, fun _ => rfl⟩
    · next work =>
      refine ⟨(State.drainIfDone_drains (by simp)).closeEvent s, fun k => ?_⟩
      obtain ⟨runs, floor, e⟩ := Head.flush_eq (hd := s.head h) (by simpa using work)
      rw [State.closeEvent_head_window, State.flush, State.drainIfDone_window, State.reevaluate_head_window,
        State.dropMark_head_window]
      exact State.modHead_window (by rw [e]) k

/-- A DONE takes the oldest entry from its head's window at most (R77). -/
theorem State.doneRequest_course (s : State) (h : HeadId) (n : Half) :
    s.DrainsAtMost (s.doneRequest h n).1 ∧ ∀ k, ((s.doneRequest h n).1.head k).window = (s.head k).window ∨
      k = h ∧ ((s.doneRequest h n).1.head k).window = (s.head k).window.tail := by
  unfold State.doneRequest
  split
  · exact ⟨.inl rfl, fun _ => .inl rfl⟩
  · split
    · exact ⟨.inl rfl, fun _ => .inl rfl⟩
    · next w rest oldest =>
      refine ⟨(State.drainIfDone_drains (by simp)).closeEvent s, fun k => ?_⟩
      obtain ⟨d, v, e⟩ := s.complete_head h k w
      rw [State.closeEvent_head_window, e, Head.after_window]
      obtain rfl | rfl := HeadId.eq_or_other h k
      · obtain ⟨timer, e⟩ := Head.completed_eq w (s.head k)
        rw [State.head_modHead_self, e]
        exact .inr ⟨rfl, rfl⟩
      · rw [State.head_modHead_other]
        exact .inl rfl

/-- A RELEASE empties its head's window at most (R80). -/
theorem State.releaseRequest_course (s : State) (head : Byte) (p : PointReq) :
    s.DrainsAtMost (s.releaseRequest head p).1 ∧ ∀ k, ((s.releaseRequest head p).1.head k).window = (s.head k).window ∨
      headOf head = some k ∧ ((s.releaseRequest head p).1.head k).window = [] := by
  unfold State.releaseRequest
  split
  · exact ⟨.inl rfl, fun _ => .inl rfl⟩
  · next h named =>
    split
    · exact ⟨.inl rfl, fun _ => .inl rfl⟩
    · refine ⟨(State.drainIfDone_drains (by simp)).closeEvent s, fun k => ?_⟩
      rw [State.closeEvent_head_window, State.release, State.drainIfDone_window, State.reevaluate_head_window,
        State.dropMark_head_window]
      obtain rfl | rfl := HeadId.eq_or_other h k
      · obtain ⟨runs, floor, timer, e⟩ := Head.released_eq (pointOf p) (s.head k)
        rw [State.head_modHead_self, e]
        exact .inr ⟨named, rfl⟩
      · rw [State.head_modHead_other]
        exact .inl rfl

theorem State.blockLoadRequest_course (s : State) (layers : List LayerReq) (label : Option Long) :
    ((s.blockLoadRequest layers label).1.job.state = s.job.state ∨
      s.job.state = .idle ∧ (s.blockLoadRequest layers label).1.job.state = .staged) ∧
      ∀ k, ((s.blockLoadRequest layers label).1.head k).window = (s.head k).window := by
  unfold State.blockLoadRequest
  split
  · exact ⟨.inl rfl, fun _ => rfl⟩
  · next fits =>
    refine ⟨.inr ⟨?_, by simp [State.blockLoad]⟩, fun k => ?window⟩
    case window =>
      rw [State.closeEvent_head_window]
      exact State.reevaluate_head_window _ k
    unfold State.blockLoadRefusal at fits
    split at fits
    · cases fits
    · next job => exact not_not.mp job

theorem State.openRequest_course (s : State) (a b : PointReq) :
    ((s.openRequest a b).1.job.state = s.job.state ∨
      s.job.state = .staged ∧ (s.openRequest a b).1.job.state = .cutting) ∧
      ∀ k, ((s.openRequest a b).1.head k).window = (s.head k).window ∨
        s.job.state = .staged ∧ ((s.openRequest a b).1.head k).window = [] := by
  unfold State.openRequest
  split
  · exact ⟨.inl rfl, fun _ => .inl rfl⟩
  · next fits =>
    have staged := (State.openRefusal_none fits).1
    refine ⟨.inr ⟨staged, by rw [State.closeEvent_job]; rfl⟩, fun k => .inr ⟨staged, ?_⟩⟩
    obtain ⟨p, e⟩ := s.head_openJob (pointOf a) (pointOf b) k
    rw [State.closeEvent_head_window, e]
    rfl

theorem State.closeRequest_course (s : State) :
    (s.closeRequest.1.job.state = s.job.state ∨
      s.job.state = .cutting ∧ (s.closeRequest.1.job.state = .closing ∨ s.closeRequest.1.job.state = .idle)) ∧
      ∀ k, (s.closeRequest.1.head k).window = (s.head k).window := by
  unfold State.closeRequest
  split
  · exact ⟨.inl rfl, fun _ => rfl⟩
  · next job =>
    have job := not_not.mp job
    dsimp only
    split
    · refine ⟨.inr ⟨job, .inr (by rw [State.closeEvent_job, State.drain_job])⟩, fun k => ?_⟩
      obtain ⟨w, e⟩ := s.drain_head k
      rw [State.closeEvent_head_window, e, Head.after_window]
    · exact ⟨.inr ⟨job, .inl (by rw [State.closeEvent_job]; rfl)⟩, fun k => by rw [State.closeEvent_head_window]; rfl⟩

theorem State.abortRequest_course (s : State) :
    (s.abortRequest.1.job.state = s.job.state ∨ s.abortRequest.1.job.state = .idle) ∧
      ∀ k, (s.abortRequest.1.head k).window = (s.head k).window ∨ (s.abortRequest.1.head k).window = [] := by
  unfold State.abortRequest
  split
  · exact ⟨.inl rfl, fun _ => .inl rfl⟩
  · refine ⟨.inr (by rw [State.closeEvent_job, State.abort, State.reevaluate_job]; rfl), fun k => .inr ?_⟩
    have aborted : ((s.modBoth Head.aborted).setJobState .idle).scrapPieces.head k = (s.head k).aborted := by
      simp [State.head_modBoth]
    obtain ⟨w, e⟩ := State.reevaluate_head_of (s := { ((s.modBoth Head.aborted).setJobState .idle).scrapPieces with
      mark := none }) (h := k) aborted
    obtain ⟨runs, floor, e'⟩ := (s.head k).aborted_eq
    rw [State.closeEvent_head_window, State.abort, e, Head.after_window, e']

/-! ### The job state -/

/-- What request `r` may make of the job state: the arcs of Figure 1-1, each by the requests that name it. -/
def JobMoves (s t : State) (r : Request) : Prop :=
  ((s.job.state = .idle ∧ t.job.state = .staged) ∨ (s.job.state = .staged ∧ t.job.state = .cutting) ∨
      (s.job.state = .cutting ∧ t.job.state = .closing) ∨ t.job.state = .idle) ∧
    (t.job.state = .staged → ∃ layers label, r = .blockLoad layers label) ∧
    (t.job.state = .cutting → ∃ a b, r = .openJob a b) ∧ (t.job.state = .closing → r = .close) ∧
    (t.job.state = .idle → (s.job.state = .cutting ∧ r = .close) ∨ r = .abort ∨
      (s.job.state = .closing ∧ (r = .flush ∨ (∃ n, r = .done n) ∨ ∃ x p, r = .release x p)))

/-- A request after which a closing job may drain. -/
theorem State.DrainsAtMost.moves {s t : State} {r : Request} (drains : s.DrainsAtMost t)
    (names : r = .flush ∨ (∃ n, r = .done n) ∨ ∃ x p, r = .release x p) :
    t.job.state = s.job.state ∨ JobMoves s t r := by
  refine drains.imp_right fun ⟨closing, idle⟩ => ⟨.inr (.inr (.inr idle)), ?_, ?_, ?_, ?_⟩ <;> rw [idle]
  · exact fun e => by cases e
  · exact fun e => by cases e
  · exact fun e => by cases e
  · exact fun _ => .inr (.inr ⟨closing, names⟩)

theorem State.run_job (s : State) (l : LinkId) (r : Request) :
    (s.run l r).1.job.state = s.job.state ∨ JobMoves s (s.run l r).1 r := by
  have own {act : HeadId → State × Reply}
      (each : ∀ h, (act h).1.job.state = s.job.state ∨ JobMoves s (act h).1 r) :
      (onHeadLink s l act).1.job.state = s.job.state ∨ JobMoves s (onHeadLink s l act).1 r := by
    cases l with
    | head h => exact each h
    | cell => exact .inl rfl
  cases r with
  | status | ident | headRead | pieceRead | zoneRead | reset => exact .inl rfl
  | segment q => exact own fun h => .inl (s.segmentRequest_course h q).job
  | flush => exact own fun h => (s.flushRequest_course h).1.moves (.inl rfl)
  | grant => exact own fun h => .inl (s.grantRequest_course h).1
  | done n => exact own fun h => (s.doneRequest_course h n).1.moves (.inr (.inl ⟨n, rfl⟩))
  | blockLoad layers label =>
    refine (s.blockLoadRequest_course layers label).1.imp_right fun ⟨idle, staged⟩ => ?_
    have staged : (s.run l (.blockLoad layers label)).1.job.state = .staged := staged
    refine ⟨.inl ⟨idle, staged⟩, ?_, ?_, ?_, ?_⟩ <;> rw [staged]
    · exact fun _ => ⟨layers, label, rfl⟩
    all_goals exact fun e => by cases e
  | openJob a b =>
    refine (s.openRequest_course a b).1.imp_right fun ⟨staged, cutting⟩ => ?_
    have cutting : (s.run l (.openJob a b)).1.job.state = .cutting := cutting
    refine ⟨.inr (.inl ⟨staged, cutting⟩), ?_, ?_, ?_, ?_⟩ <;> rw [cutting]
    · exact fun e => by cases e
    · exact fun _ => ⟨a, b, rfl⟩
    all_goals exact fun e => by cases e
  | close =>
    refine s.closeRequest_course.1.imp_right fun ⟨cutting, after⟩ => ?_
    obtain closing | idle := after
    · have closing : (s.run l .close).1.job.state = .closing := closing
      refine ⟨.inr (.inr (.inl ⟨cutting, closing⟩)), ?_, ?_, fun _ => rfl, ?_⟩ <;> rw [closing]
      all_goals exact fun e => by cases e
    · have idle : (s.run l .close).1.job.state = .idle := idle
      refine ⟨.inr (.inr (.inr idle)), ?_, ?_, fun _ => rfl, fun _ => .inl ⟨cutting, rfl⟩⟩ <;> rw [idle]
      all_goals exact fun e => by cases e
  | abort =>
    refine s.abortRequest_course.1.imp_right fun idle => ?_
    have idle : (s.run l .abort).1.job.state = .idle := idle
    refine ⟨.inr (.inr (.inr idle)), ?_, ?_, ?_, fun _ => .inr (.inl rfl)⟩ <;> rw [idle]
    all_goals exact fun e => by cases e
  | release x p => exact (s.releaseRequest_course x p).1.moves (.inr (.inr ⟨x, p, rfl⟩))
  | classSet cls coef => exact .inl (s.classSetRequest_course cls coef).job
  | cutSet sel p => exact .inl (s.cutSetRequest_course sel p).job
  | bedSet n a b => exact .inl (s.bedSetRequest_course n a b).job
  | zoneSet p => exact .inl (s.zoneSetRequest_course p).job
  | bladeSet sel p => exact .inl (s.bladeSetRequest_course sel p).job
  | guardSet sel p => exact .inl (s.guardSetRequest_course sel p).job
  | pieceDeclare p => exact .inl (s.pieceDeclareRequest_course p).job
  | take id => exact .inl (s.takeRequest_course id).job
  | hold sel => exact .inl (s.cellHoldRequest_course true sel).job
  | resume sel => exact .inl (s.cellHoldRequest_course false sel).job
  | service x d => exact .inl (s.serviceRequest_course x d).job
  | faultClear x => exact .inl (s.faultClearRequest_course x).job
  | zoneClear k => exact .inl (s.zoneClearRequest_course k).job

theorem State.served_job (s : State) (l : LinkId) (r : Request) :
    (s.served l r).job.state = s.job.state ∨ JobMoves s (s.served l r) r := by
  have judged : ((s.toLead l).judge l r).1.job.state = s.job.state ∨ JobMoves s ((s.toLead l).judge l r).1 r := by
    unfold State.judge
    split
    · exact (s.toLead l).run_job l r
    · exact .inl rfl
  exact judged

theorem Tick.job {s t : State} (tick : Tick s t) : t.job = s.job := by
  cases tick with
  | time | line | samples => rfl
  | work w => rw [State.closeEvent_job, w.job]

theorem Ticks.job {s t : State} (chain : Ticks s t) : t.job = s.job := by
  induction chain with
  | refl => rfl
  | tail _ tick ih => exact tick.job.trans ih

/-- Settles O15: only a request taken moves the job state, and only along the arcs it names. -/
theorem jobStateMoves : Obligations.JobStateMoves := by
  intro s t c run free moved
  have done := exec_commanded run
  cases done with
  | served l r row =>
    obtain same | ⟨arcs, names⟩ := s.served_job l r
    · exact absurd same moved
    · exact ⟨arcs, row.elim (fun row => .inr ⟨l, r, row, names⟩) fun ⟨ch, e⟩ => .inl ⟨l, ch, e⟩⟩
  | line => exact absurd rfl moved
  | power | warm | extend => cases free
  | endHold => exact absurd rfl moved
  | ticks _ chain => exact absurd (congrArg Job.state chain.job) moved

/-! ### The windows -/

/-- What request `r` on link l may make of the window of head h (R64, R65). -/
def WindowMoves (s t : State) (h : HeadId) (l : LinkId) (r : Request) : Prop :=
  (s.head h).window <+: (t.head h).window ∨
    ((t.head h).window = (s.head h).window.tail ∧ l = .head h ∧ ∃ n, r = .done n) ∨
    ((t.head h).window = [] ∧ ((∃ p x, headOf x = some h ∧ r = .release x p) ∨ r = .abort))

theorem WindowMoves.of_same {s t : State} {h : HeadId} {l : LinkId} {r : Request}
    (window : (t.head h).window = (s.head h).window) : WindowMoves s t h l r := .inl (by rw [window])

theorem State.run_window {s : State} (noWork : NoWorkOutsideJob s) (l : LinkId) (r : Request) (h : HeadId) :
    WindowMoves s (s.run l r).1 h l r := by
  have own {act : HeadId → State × Reply} (each : ∀ k, l = .head k → WindowMoves s (act k).1 h l r) :
      WindowMoves s (onHeadLink s l act).1 h l r := by
    cases l with
    | head k => exact each k rfl
    | cell => exact .of_same rfl
  cases r with
  | status | ident | headRead | pieceRead | zoneRead | reset => exact .of_same rfl
  | segment q => exact own fun k _ => .of_same ((s.segmentRequest_course k q).window h)
  | flush => exact own fun k _ => .of_same ((s.flushRequest_course k).2 h)
  | grant => exact own fun k _ => .inl ((s.grantRequest_course k).2 h)
  | done n =>
    refine own fun k link => ?_
    obtain same | ⟨rfl, tail⟩ := (s.doneRequest_course k n).2 h
    · exact .of_same same
    · exact .inr (.inl ⟨tail, link, n, rfl⟩)
  | blockLoad layers label => exact .of_same ((s.blockLoadRequest_course layers label).2 h)
  | openJob a b =>
    obtain same | ⟨staged, empty⟩ := (s.openRequest_course a b).2 h
    · exact .of_same same
    · have none := (noWork_iff s).mp noWork (by rw [staged]; rfl) h
      exact .of_same (empty.trans none.symm)
  | close => exact .of_same (s.closeRequest_course.2 h)
  | abort =>
    obtain same | empty := s.abortRequest_course.2 h
    · exact .of_same same
    · exact .inr (.inr ⟨empty, .inr rfl⟩)
  | release x p =>
    obtain same | ⟨named, empty⟩ := (s.releaseRequest_course x p).2 h
    · exact .of_same same
    · exact .inr (.inr ⟨empty, .inl ⟨p, x, named, rfl⟩⟩)
  | classSet cls coef => exact .of_same ((s.classSetRequest_course cls coef).window h)
  | cutSet sel p => exact .of_same ((s.cutSetRequest_course sel p).window h)
  | bedSet n a b => exact .of_same ((s.bedSetRequest_course n a b).window h)
  | zoneSet p => exact .of_same ((s.zoneSetRequest_course p).window h)
  | bladeSet sel p => exact .of_same ((s.bladeSetRequest_course sel p).window h)
  | guardSet sel p => exact .of_same ((s.guardSetRequest_course sel p).window h)
  | pieceDeclare p => exact .of_same ((s.pieceDeclareRequest_course p).window h)
  | take id => exact .of_same ((s.takeRequest_course id).window h)
  | hold sel => exact .of_same ((s.cellHoldRequest_course true sel).window h)
  | resume sel => exact .of_same ((s.cellHoldRequest_course false sel).window h)
  | service x d => exact .of_same ((s.serviceRequest_course x d).window h)
  | faultClear x => exact .of_same ((s.faultClearRequest_course x).window h)
  | zoneClear k => exact .of_same ((s.zoneClearRequest_course k).window h)

theorem State.served_window {s : State} (noWork : NoWorkOutsideJob s) (l : LinkId) (r : Request) (h : HeadId) :
    WindowMoves s (s.served l r) h l r := by
  have judged : WindowMoves s ((s.toLead l).judge l r).1 h l r := by
    unfold State.judge
    split
    · exact State.run_window (s := s.toLead l) noWork l r h
    · exact .of_same rfl
  exact judged

theorem Tick.window {s t : State} (tick : Tick s t) (h : HeadId) : (t.head h).window = (s.head h).window := by
  cases tick with
  | time d => rw [State.head_elapse]; rfl
  | line => rfl
  | samples k samples => exact State.setBlade_window s k _ h
  | work w => rw [State.closeEvent_head_window, w.window]

theorem Ticks.window {s t : State} (chain : Ticks s t) (h : HeadId) : (t.head h).window = (s.head h).window := by
  induction chain with
  | refl => rfl
  | tail _ tick ih => exact (tick.window h).trans ih

theorem headOf_eq_some {x : Byte} {h : HeadId} (named : headOf x = some h) : x = headCode h := by
  unfold headOf at named
  split at named
  · next zero => cases named; exact zero
  · split at named
    · next one => cases named; exact one
    · cases named

/-- The row of a request names it. -/
theorem requestOf_done {c : Instr} {l : LinkId} {n : Half} (row : requestOf c = some (l, .done n)) : c = .done l n := by
  cases c <;> simp_all [requestOf]

theorem requestOf_abort {c : Instr} {l : LinkId} (row : requestOf c = some (l, .abort)) : c = .abort l := by
  cases c <;> simp_all [requestOf]

theorem requestOf_release {c : Instr} {l : LinkId} {x : Byte} {p : PointReq} (row : requestOf c = some (l, .release x p)) :
    c = .release l x p := by
  cases c <;> simp_all [requestOf]

/-- Settles O17: the window of a head over each request, and over what time brings. -/
theorem windowKeepsItsEntries : Obligations.WindowKeepsItsEntries := by
  intro s t c h run free noWork
  have same {u : State} (window : (u.head h).window = (s.head h).window) : (s.head h).window <+: (u.head h).window := by
    rw [window]
  have done := exec_commanded run
  cases done with
  | served l r row =>
    obtain grows | ⟨tail, link, n, e⟩ | ⟨empty, by'⟩ := State.served_window noWork l r h
    · exact .inl grows
    · subst link e
      exact .inr (.inl ⟨tail, row.imp (fun row => ⟨n, requestOf_done row⟩) id⟩)
    · refine .inr (.inr ⟨empty, ?_⟩)
      obtain row | ⟨ch, e⟩ := row
      · obtain ⟨p, x, named, e⟩ | e := by'
        · subst e
          have code := headOf_eq_some named
          subst code
          exact .inl ⟨l, p, requestOf_release row⟩
        · subst e
          exact .inr (.inl ⟨l, requestOf_abort row⟩)
      · exact .inr (.inr ⟨l, ch, e⟩)
  | line => exact .inl (same rfl)
  | power | warm | extend => cases free
  | endHold rate r => exact .inl (same (by rw [State.head_endHold, State.head_elapse]; rfl))
  | ticks _ chain => exact .inl (same (chain.window h))

end Sys2Proof.Machine

/-! PROOFS. A running channel that goes to RETRY-WAIT or FAULTED raises BLADE-FAULT on its head's link and on the cell link
(R125, R131). -/

namespace Sys2Proof.Machine

/-! ### Channels that wait or are faulted -/

/-- The channel is in RETRY-WAIT or FAULTED. -/
def Channel.Out (c : Channel) : Prop := c.st = .retryWait ∨ c.st = .faulted

theorem Channel.Out.off {c : Channel} (out : c.Out) : c.st.accepts = false := by
  obtain e | e := out <;> rw [e] <;> rfl

theorem Channel.not_out_of_runs {c : Channel} (runs : c.st.accepts = true) : ¬c.Out := fun out => by
  rw [out.off] at runs
  cases runs

theorem Channel.act_of_out (p : BladeParams) (d : Demand) {c : Channel} (out : c.Out) : c.act p d = c := by
  unfold Channel.act
  obtain e | e := out <;> rw [e]

/-- No change of demand takes a channel to RETRY-WAIT or FAULTED (R109). -/
theorem Channel.Moves.out {p : BladeParams} {c d : Channel} (moves : Channel.Moves p c d) (out : d.Out) : c.Out := by
  cases moves with
  | stays => exact out
  | stops | climbs lvl | settles lvl | joins i => exact absurd out (by simp [Channel.Out, Channel.stop, Channel.spinUp, Channel.settle])
  | retargets climbs =>
    have out : c.Out := out
    exact absurd out (by simp [Channel.Out, climbs])

/-- Reworking a channel leaves it in RETRY-WAIT or FAULTED, and takes none there (R109). -/
theorem Head.reworkBlade_out (stood jobOpen : Bool) (hd : Head) :
    ((hd.reworkBlade stood jobOpen).blade.Out ↔ hd.blade.Out) ∧
      (hd.blade.Out → (hd.reworkBlade stood jobOpen).blade.measured = hd.blade.measured) := by
  unfold Head.reworkBlade
  dsimp only
  generalize hd.stopTimerAfter stood jobOpen = timer
  generalize Head.demandOf jobOpen _ = d
  have act (out : hd.blade.Out) := Channel.act_of_out (c := { hd.blade with stopTimer := timer }) hd.bladeParams d out
  unfold Channel.setDemand
  split
  · exact ⟨.rfl, fun _ => rfl⟩
  · refine ⟨⟨fun out => (Channel.act_moves hd.bladeParams d { hd.blade with stopTimer := timer }).out out, fun out => ?_⟩,
      fun out => ?_⟩
    · show (Channel.act hd.bladeParams d { hd.blade with stopTimer := timer }).Out
      rw [act out]
      exact out
    · show (Channel.act hd.bladeParams d { hd.blade with stopTimer := timer }).measured = _
      rw [act out]

theorem State.closeEvent_blade (b s : State) (h : HeadId) : ((State.closeEvent b s).head h).blade =
    ((s.head h).reworkBlade ((b.head h).standsBy b.job.state.isOpen) s.job.state.isOpen).blade := by
  have closed (r : State) : ((State.closeHead b h r).head h).blade =
      ((r.head h).reworkBlade ((b.head h).standsBy b.job.state.isOpen) r.job.state.isOpen).blade := by
    rw [State.closeHead_blade, State.closeBlade, State.head_modHead_self]
  cases h with
  | a => rw [State.closeEvent_head_a, closed]
  | b =>
    have same : (State.closeHead b .a s).head .b = s.head .b := State.closeHead_head_other b s .a
    rw [State.closeEvent_head_b, closed, same, State.closeHead_job]

theorem State.closeEvent_out (b s : State) (h : HeadId) :
    (((State.closeEvent b s).head h).blade.Out ↔ (s.head h).blade.Out) ∧
      ((s.head h).blade.Out → ((State.closeEvent b s).head h).blade.measured = (s.head h).blade.measured) := by
  rw [State.closeEvent_blade]
  exact Head.reworkBlade_out _ _ _

/-! ### The alarm -/

/-- BLADE-FAULT is raised on the link of head h and on the cell link. -/
def State.Alarms (h : HeadId) (t : State) : Prop :=
  (t.link (.head h)).attention.bladeFault = true ∧ (t.link .cell).attention.bladeFault = true

/-- A channel of head h in RETRY-WAIT or FAULTED has raised BLADE-FAULT, and has no rate measured (R111, R131). -/
def State.Alarmed (h : HeadId) (t : State) : Prop :=
  (t.head h).blade.Out → State.Alarms h t ∧ (t.head h).blade.measured = 0

theorem State.Alarmed.of_same {h : HeadId} {s t : State} (start : State.Alarmed h s) (out : (t.head h).blade.Out → (s.head h).blade.Out)
    (measured : (t.head h).blade.Out → (t.head h).blade.measured = (s.head h).blade.measured)
    (alarms : State.Alarms h s → State.Alarms h t) : State.Alarmed h t := fun there => by
  obtain ⟨raised, rest⟩ := start (out there)
  exact ⟨alarms raised, (measured there).trans rest⟩

theorem State.Hears.alarms {s t : State} (hears : State.Hears causesOf s t) {h : HeadId} (alarms : State.Alarms h s) :
    State.Alarms h t :=
  ⟨hears.stays (.head h) AttSet.bladeFault (fun _ _ => rfl) alarms.1, hears.stays .cell AttSet.bladeFault (fun _ _ => rfl) alarms.2⟩

theorem State.closeEvent_alarmed {s b : State} {h : HeadId} (body : State.Alarmed h b) : State.Alarmed h (State.closeEvent s b) := by
  obtain ⟨out, measured⟩ := State.closeEvent_out s b h
  refine body.of_same out.mp (fun there => measured (out.mp there)) fun alarms => ?_
  have hears := State.closeEvent_hears s b
  exact ⟨hears.stays (.head h) AttSet.bladeFault (fun _ _ => rfl) alarms.1,
    hears.stays .cell AttSet.bladeFault (fun _ _ => rfl) alarms.2⟩

/-- News of a fault raise BLADE-FAULT on both links (R131). -/
theorem State.bladeNews_alarms (h : HeadId) (ready : Bool) (s : State) : State.Alarms h (State.bladeNews h ready true s) := by
  unfold State.bladeNews State.Alarms
  dsimp only
  generalize (if ready = true then _ else _ : State) = t
  rw [if_pos rfl]
  cases h <;>
    exact ⟨Bool.or_true _, Bool.or_true _⟩

theorem Channel.Restarts.not_out {p : BladeParams} {c d : Channel} (restarts : Channel.Restarts p c d) : ¬d.Out := by
  cases restarts <;> simp [Channel.Out, Channel.stop, Channel.spinUp]

theorem ownMove_out {p : BladeParams} {st : ChState} (runs : st.accepts = true) {ce : Channel × StrokeEvents}
    (tracks : Tracks st ce) (out : (ownMove p ce).1.Out) :
    (ownMove p ce).2.bladeFault = true ∧ (ownMove p ce).1.measured = 0 := by
  obtain ⟨going, same⟩ | ⟨fault, -, measured⟩ := tracks
  · have runs : ce.1.st.accepts = true := by rw [same, runs]
    unfold ownMove at out
    rw [if_neg (by simp [going])] at out
    split at out
    · refine absurd out ?_
      unfold Channel.nextStep
      split
      · exact Channel.not_out_of_runs runs
      · simp [Channel.Out, Channel.settle]
    · split at out
      · exact absurd out (by simp [Channel.Out, Channel.enterRun])
      · exact absurd out (Channel.not_out_of_runs runs)
  · unfold ownMove
    rw [if_pos fault]
    exact ⟨fault, measured⟩

/-- Only the guard's response takes a running channel out at a pulse, and its events say so (R124, R125). -/
theorem Head.pulsed_out (samples : List Sample) (noAvg noPeak : Nat) {hd : Head} (runs : hd.blade.st.accepts = true)
    (out : (hd.pulsed samples noAvg noPeak).1.Out) :
    (hd.pulsed samples noAvg noPeak).2.bladeFault = true ∧ (hd.pulsed samples noAvg noPeak).1.measured = 0 := by
  unfold Head.pulsed Head.pulseWork at out ⊢
  dsimp only at out ⊢
  split at out
  · next seen =>
    obtain ⟨same, going⟩ := Channel.ownWork_st hd.bladeParams hd.guard
      (({ hd with blade := hd.blade.addSamples samples } : Head).strokeEnded noAvg noPeak)
      (Channel.measure (({ hd with blade := hd.blade.addSamples samples } : Head).strokeEnded noAvg noPeak)
        (hd.blade.addSamples samples))
    rw [if_pos seen]
    exact ownMove_out runs (guardTests_tracks runs hd.guard _ (.inl ⟨going, same⟩) going) out
  · next first =>
    rw [if_neg first]
    split at out
    · next climbs =>
      rw [if_pos climbs]
      exact ownMove_out (st := hd.blade.st) runs (.inl ⟨rfl, rfl⟩) out
    · exact absurd out (Channel.not_out_of_runs runs)

/-- A change of heads that leaves state and measured rate of each channel leaves those of every head. -/
theorem State.modHead_rates {s : State} {k : HeadId} {f : Head → Head}
    (same : (f (s.head k)).blade.st = (s.head k).blade.st ∧ (f (s.head k)).blade.measured = (s.head k).blade.measured)
    (h : HeadId) : ((s.modHead k f).head h).blade.st = (s.head h).blade.st ∧
      ((s.modHead k f).head h).blade.measured = (s.head h).blade.measured := by
  obtain rfl | rfl := HeadId.eq_or_other k h
  · rw [State.head_modHead_self]
    exact same
  · rw [State.head_modHead_other]
    exact ⟨rfl, rfl⟩

/-- News of a blade leave the channels. -/
theorem State.bladeNews_blade (k : HeadId) (ready bladeFault : Bool) (s : State) (h : HeadId) :
    ((State.bladeNews k ready bladeFault s).head h).blade = (s.head h).blade := by
  obtain ⟨w, e⟩ := State.bladeNews_head k ready bladeFault s h
  rw [e]
  rfl

/-- A channel replaced, and the news of it: a head that is not its own is alarmed as before, and its own where a channel that
went out is in the news. -/
theorem State.bladeNews_alarmed {s t : State} {h k : HeadId} {c : Channel} {ready bladeFault : Bool} (start : State.Alarmed h s)
    (heads : t.head h = s.head h) (links : t.links = s.links)
    (own : h = k → c.Out → bladeFault = true ∧ c.measured = 0) :
    State.Alarmed h (State.bladeNews k ready bladeFault (t.setBlade k c)) := by
  have hears : State.Hears causesOf s (State.bladeNews k ready bladeFault (t.setBlade k c)) :=
    (State.Hears.of_links links).trans ((State.bladeNews_hears k ready bladeFault (t.setBlade k c)).mono ordinary_below_causesOf)
  intro out
  rw [State.bladeNews_blade] at out ⊢
  obtain rfl | rfl := HeadId.eq_or_other k h
  · rw [State.setBlade_head_self] at out ⊢
    obtain ⟨rfl, measured⟩ := own rfl out
    exact ⟨State.bladeNews_alarms _ _ _, measured⟩
  · rw [State.setBlade_head_other, heads] at out ⊢
    exact ⟨hears.alarms (start out).1, (start out).2⟩

/-- An expiry, a change of pressure and a pulse that take a channel out raise BLADE-FAULT (R125, R131). -/
theorem TimedWork.alarmed {s b : State} (work : TimedWork s b) {h : HeadId} (start : State.Alarmed h s) : State.Alarmed h b := by
  have hears : State.Hears causesOf s b := work.hears.mono ordinary_below_causesOf
  have same (rates : (b.head h).blade.st = (s.head h).blade.st ∧ (b.head h).blade.measured = (s.head h).blade.measured) :
      State.Alarmed h b :=
    start.of_same (fun out => by rwa [Channel.Out, rates.1] at out) (fun _ => rates.2) hears.alarms
  cases work with
  | suspend k counts => exact same (State.modHead_rates (s := s) (k := k)
      (f := fun hd => { hd with hold := { hd.hold with overdue := true }, overdue := ⟨.stopped, 0, 0⟩ }) ⟨rfl, rfl⟩ h)
  | endIdleDelay k =>
    rw [State.endIdleDelay, State.tell_head_blade] at same
    exact same (State.modHead_rates ⟨rfl, rfl⟩ h)
  | endStopDelay k => exact same (State.modHead_rates (s := s) (k := k)
      (f := fun hd => { hd with blade := { hd.blade with stopTimer := none } }) ⟨rfl, rfl⟩ h)
  | endRetry k =>
    intro out
    obtain rfl | rfl := HeadId.eq_or_other k h
    · rw [State.endRetry, State.head_modHead_self] at out
      exact absurd out (Channel.endRetry_restarts _ _).not_out
    · rw [State.endRetry, State.head_modHead_other] at out ⊢
      exact ⟨hears.alarms (start out).1, (start out).2⟩
  | loseStroke k =>
    refine State.bladeNews_alarmed start rfl rfl ?_
    rintro rfl out
    obtain ⟨d, watch, responds, e⟩ := (s.head h).blade.strokeLost_responds (s.head h).guard
    rw [e] at out ⊢
    have out : d.Out := out
    refine ⟨by simp [out.off], ?_⟩
    obtain ⟨st, measured⟩ | ⟨-, measured⟩ := responds.st
    · exact measured.trans (start (by rwa [Channel.Out, st] at out)).2
    · exact measured
  | lapse k =>
    rw [State.lapseRequest, State.reevaluate_head_blade] at same
    exact same (State.modHead_rates ⟨rfl, rfl⟩ h)
  | endMark k => exact same (by simp [State.endMark])
  | failZone k => exact same (by simp [State.failZone])
  | pressureGone k => exact same ⟨rfl, rfl⟩
  | pressureCome k => exact same (by unfold State.pressureCome; dsimp only; split <;> simp [State.zoneBecameHeld])
  | pulse k samples n noAvg noPeak runs seen =>
    refine State.bladeNews_alarmed (c := ((s.head k).pulsed samples noAvg noPeak).1) start rfl rfl ?_
    rintro rfl out
    exact Head.pulsed_out samples noAvg noPeak runs out

theorem Tick.alarmed {s t : State} (tick : Tick s t) {h : HeadId} (start : State.Alarmed h s) : State.Alarmed h t := by
  have same (links : t.links = s.links)
      (rates : (t.head h).blade.st = (s.head h).blade.st ∧ (t.head h).blade.measured = (s.head h).blade.measured) :
      State.Alarmed h t :=
    start.of_same (fun out => by rwa [Channel.Out, rates.1] at out) (fun _ => rates.2) fun alarms => by
      unfold State.Alarms State.link
      rwa [links]
  cases tick with
  | time d =>
    refine same rfl ?_
    rw [State.head_elapse]
    exact ⟨rfl, rfl⟩
  | line k => exact same rfl ⟨rfl, rfl⟩
  | samples k samples =>
    refine same rfl ?_
    obtain rfl | rfl := HeadId.eq_or_other k h
    · rw [State.setBlade_head_self]
      exact ⟨rfl, rfl⟩
    · rw [State.setBlade_head_other]
      exact ⟨rfl, rfl⟩
  | work w => exact State.closeEvent_alarmed (w.alarmed start)

theorem Ticks.alarmed {s t : State} (chain : Ticks s t) {h : HeadId} (start : State.Alarmed h s) : State.Alarmed h t := by
  induction chain with
  | refl => exact start
  | tail _ tick ih => exact tick.alarmed ih

/-! ### Requests take no channel out -/

theorem Head.after_out (d : Bool) (w : Watch) (hd : Head) : (hd.after d w).blade.Out ↔ hd.blade.Out := by
  cases d <;> exact .rfl

/-- No request takes a channel to RETRY-WAIT or FAULTED (R125). -/
theorem HeadWork.out {s : State} {k : HeadId} {x : Head} (work : HeadWork s k x) (out : x.blade.Out) : (s.head k).blade.Out := by
  have prepared (e : Entry) (out : ((s.head k).grantTaken.prepared e).blade.Out) : (s.head k).blade.Out := by
    obtain ⟨timer, blade⟩ := Head.prepared_blade e (s.head k).grantTaken
    rw [blade] at out
    exact out
  cases work with
  | same | segment | cellHold | openJob | serviceOut | serviceIn => exact out
  | flush work =>
    obtain ⟨runs, floor, e⟩ := Head.flush_eq work
    rw [e] at out
    exact out
  | grant e => exact prepared e out
  | prepare e => exact prepared e out
  | done w =>
    obtain ⟨timer, e⟩ := Head.completed_eq w (s.head k)
    rw [e] at out
    exact out
  | abort =>
    obtain ⟨runs, floor, e⟩ := (s.head k).aborted_eq
    rw [e] at out
    obtain ⟨-, stops⟩ | ⟨-, stays⟩ := Channel.abortStop_eq (s.head k).guard.abortAction (s.head k).blade
    · exact absurd out (by simp [stops, Channel.Out, Channel.stop])
    · simpa [stays, Channel.Out] using out
  | bedSet p =>
    unfold Head.newPark at out
    split at out <;> exact out
  | release p =>
    obtain ⟨runs, floor, timer, e⟩ := Head.released_eq p (s.head k)
    rw [e] at out
    exact out
  | faultClear latched => exact .inr latched

theorem Answered.out {s t : State} (done : Answered s t) (k : HeadId) (out : (t.head k).blade.Out) : (s.head k).blade.Out := by
  have selected {sel : Byte} {hs : List HeadId} (named : selectorOf sel = some hs) {f : Head → Head}
      (keeps : ∀ hd, (f hd).blade.st = hd.blade.st) (out : ((s.modSelected hs f).head k).blade.Out) : (s.head k).blade.Out := by
    obtain e | e := State.modSelected_head_or named s f k
    · rwa [e, Channel.Out, keeps] at out
    · rwa [e] at out
  cases done with
  | same | attention l | classSet | zoneSet | pieceDeclare => exact out
  | waits j reasons range =>
    obtain rfl | rfl := HeadId.eq_or_other j k
    · rw [State.waits_head] at out
      exact out
    · rwa [State.waits_head_other] at out
  | cutSet sel hs p _ named => exact selected named (f := fun hd => { hd with cut := p }) (fun _ => rfl) out
  | bladeSet sel hs p _ named => exact selected named (f := fun hd => { hd with bladeParams := p }) (fun _ => rfl) out
  | guardSet sel hs g _ named => exact selected named (f := Head.guardSet g) (fun _ => rfl) out
  | work w =>
    obtain ⟨x, d, v, work, e⟩ := w.head k
    have out := (State.closeEvent_out _ _ k).1.mp out
    rw [e, Head.after_out] at out
    exact work.out out

/-- A command that takes a running channel to RETRY-WAIT or FAULTED raises BLADE-FAULT on its head's link and on the cell link
(R125, R131). -/
theorem Commanded.alarmed {s t : State} {c : Instr} (done : Commanded s c t) {h : HeadId} (free : t.resetHold = none)
    (runs : (s.head h).blade.st.accepts = true) : State.Alarmed h t := by
  have running : ¬(s.head h).blade.Out := Channel.not_out_of_runs runs
  cases done with
  | served l r =>
    intro out
    exact absurd ((State.judge_answered (s.toLead l) l r).out h out) running
  | line l k => exact fun out => absurd out running
  | power | warm | extend => cases free
  | endHold rate r =>
    intro out
    have out : ((s.elapse r.left).head h).blade.Out := out
    rw [State.head_elapse] at out
    exact absurd out running
  | ticks _ chain => exact chain.alarmed fun out => absurd out running

end Sys2Proof.Machine

/-! PROOFS. The causes that events raise: HOLD-CHANGED exactly for a changed set, and BLADE-FAULT for a channel that fails
(R125, R131, R134). -/

namespace Sys2Proof.Machine

/-! ### A changed reason set -/

/-- The reason set of head h has changed from that of `s` only with HOLD-CHANGED raised, and HOLD-CHANGED that was there
stays. -/
def State.HoldRaised (h : HeadId) (s t : State) : Prop :=
  ((t.head h).hold ≠ (s.head h).hold → (t.link (.head h)).attention.holdChanged = true) ∧
    ((s.link (.head h)).attention.holdChanged = true → (t.link (.head h)).attention.holdChanged = true)

/-- Where the reason set of head h is as it was, HOLD-CHANGED is there only if it was there. -/
def State.HoldQuiet (h : HeadId) (s t : State) : Prop :=
  (t.head h).hold = (s.head h).hold → (t.link (.head h)).attention.holdChanged = true →
    (s.link (.head h)).attention.holdChanged = true

theorem State.HoldRaised.refl (h : HeadId) (s : State) : State.HoldRaised h s s := ⟨fun differs => absurd rfl differs, id⟩

theorem State.HoldRaised.trans {h : HeadId} {s t r : State} (one : State.HoldRaised h s t) (two : State.HoldRaised h t r) :
    State.HoldRaised h s r := by
  refine ⟨fun differs => ?_, fun there => two.2 (one.2 there)⟩
  by_cases e : (t.head h).hold = (s.head h).hold
  · exact two.1 fun same => differs (same.trans e)
  · exact two.2 (one.1 e)

theorem State.HoldQuiet.refl (h : HeadId) (s : State) : State.HoldQuiet h s s := fun _ there => there

/-- What leaves set and links before an event, and after it, leaves the event its word on HOLD-CHANGED. -/
theorem State.HoldQuiet.after_same {h : HeadId} {s u t : State} (quiet : State.HoldQuiet h u t)
    (hold : (u.head h).hold = (s.head h).hold)
    (att : (u.link (.head h)).attention.holdChanged = true → (s.link (.head h)).attention.holdChanged = true) :
    State.HoldQuiet h s t := fun same there => att (quiet (same.trans hold.symm) there)

theorem State.holdRaised_of_same {h : HeadId} {s t : State} (hold : (t.head h).hold = (s.head h).hold)
    (links : t.links = s.links) : State.HoldRaised h s t :=
  ⟨fun differs => absurd hold differs, fun there => by rwa [State.link, links]⟩

theorem State.holdQuiet_of_links {h : HeadId} {s t : State} (links : t.links = s.links) : State.HoldQuiet h s t :=
  fun _ there => by rwa [State.link, links] at there

/-- An event raises HOLD-CHANGED exactly for a changed set (R134). -/
theorem State.closeEvent_holdRaised {s b : State} (body : State.Hears ordinary s b) (h : HeadId) :
    State.HoldRaised h s (State.closeEvent s b) :=
  ⟨State.closeEvent_raises s b h,
    (State.closeEvent_hears_causes body).stays (.head h) AttSet.holdChanged fun _ _ => rfl⟩

theorem State.closeEvent_holdQuiet {s b : State} (body : State.Hears ordinary s b) (h : HeadId) :
    State.HoldQuiet h s (State.closeEvent s b) := by
  intro same there
  have closing : AttSet.holdChanged (closes s (State.closeEvent s b) (.head h)) = false := by simp [closes, same]
  exact body.was (.head h) AttSet.holdChanged (fun _ _ => rfl) rfl
    ((State.closeEvent_hears s b).was (.head h) AttSet.holdChanged (fun _ _ => rfl) closing there)

theorem Tick.holdRaised {s t : State} (tick : Tick s t) (h : HeadId) : State.HoldRaised h s t := by
  cases tick with
  | time d => exact State.holdRaised_of_same (by rw [State.head_elapse]; rfl) rfl
  | line k => exact State.holdRaised_of_same rfl rfl
  | samples k samples =>
    refine State.holdRaised_of_same ?_ rfl
    obtain rfl | rfl := HeadId.eq_or_other k h
    · rw [State.setBlade_head_self]
    · rw [State.setBlade_head_other]
  | work w => exact State.closeEvent_holdRaised w.hears h

theorem Ticks.holdRaised {s t : State} (chain : Ticks s t) (h : HeadId) : State.HoldRaised h s t := by
  induction chain with
  | refl => exact .refl h s
  | tail _ tick ih => exact ih.trans (tick.holdRaised h)

theorem Tick.holdQuiet {s t : State} (tick : Tick s t) (h : HeadId) : State.HoldQuiet h s t := by
  cases tick with
  | time | line | samples => exact State.holdQuiet_of_links rfl
  | work w => exact State.closeEvent_holdQuiet w.hears h

/-- Time, and then one event. -/
theorem State.HoldQuiet.after_time {h : HeadId} {s t : State} {d : Nat} (quiet : State.HoldQuiet h (s.elapse d) t) :
    State.HoldQuiet h s t := quiet.after_same (by rw [State.head_elapse]; rfl) id

theorem State.expireIf_holdQuiet {s : State} {timer : Option Nat} {body : State → State} {h : HeadId}
    (works : ∀ left ∈ timer, TimedWork (s.elapse left) (body (s.elapse left))) : State.HoldQuiet h s (s.expireIf timer body) := by
  cases timer with
  | none => exact .refl h s
  | some left => exact ((Tick.work (works left rfl)).holdQuiet h).after_time

/-! ### Requests -/

theorem State.emptyAttention_holdChanged {s : State} {l : LinkId} {h : HeadId}
    (there : ((s.emptyAttention l).link (.head h)).attention.holdChanged = true) :
    (s.link (.head h)).attention.holdChanged = true := by
  unfold State.emptyAttention at there
  by_cases e : LinkId.head h = l
  · subst e
    rw [State.link_setLink_self] at there
    cases there
  · rwa [State.link_setLink_ne _ _ e] at there

/-- Running a request raises HOLD-CHANGED exactly for a changed set (R134). -/
theorem Answered.hold {s t : State} (done : Answered s t) (h : HeadId) :
    ((t.head h).hold ≠ (s.head h).hold → (t.link (.head h)).attention.holdChanged = true) ∧ State.HoldQuiet h s t := by
  have same {u : State} (hold : (u.head h).hold = (s.head h).hold) (links : u.links = s.links) :
      ((u.head h).hold ≠ (s.head h).hold → (u.link (.head h)).attention.holdChanged = true) ∧ State.HoldQuiet h s u :=
    ⟨fun differs => absurd hold differs, State.holdQuiet_of_links links⟩
  have selected {sel : Byte} {hs : List HeadId} (named : selectorOf sel = some hs) {f : Head → Head}
      (keeps : ∀ hd, (f hd).hold = hd.hold) : ((s.modSelected hs f).head h).hold = (s.head h).hold := by
    obtain e | e := State.modSelected_head_or named s f h
    · rw [e, keeps]
    · rw [e]
  cases done with
  | same | classSet | zoneSet | pieceDeclare => exact same rfl rfl
  | attention l => exact ⟨fun differs => absurd rfl differs, fun _ there => State.emptyAttention_holdChanged there⟩
  | waits k reasons range =>
    refine same ?_ rfl
    obtain rfl | rfl := HeadId.eq_or_other k h
    · rw [State.waits_head]; rfl
    · rw [State.waits_head_other]
  | cutSet sel hs p _ named => exact same (selected named (f := fun hd => { hd with cut := p }) fun _ => rfl) (s.modSelected_links hs _)
  | bladeSet sel hs p _ named =>
    exact same (selected named (f := fun hd => { hd with bladeParams := p }) fun _ => rfl) (s.modSelected_links hs _)
  | guardSet sel hs g _ named => exact same (selected named (f := Head.guardSet g) fun _ => rfl) (s.modSelected_links hs _)
  | work w =>
    exact ⟨(State.closeEvent_holdRaised w.hears h).1, State.closeEvent_holdQuiet w.hears h⟩

theorem State.attention_setLink_same {s : State} {l : LinkId} {k : Link} (same : k.attention = (s.link l).attention)
    (m : LinkId) : ((s.setLink l k).link m).attention = (s.link m).attention := by
  by_cases e : m = l
  · subst e
    rw [State.link_setLink_self, same]
  · rw [State.link_setLink_ne _ _ e]

theorem State.toLead_attention (s : State) (l m : LinkId) : ((s.toLead l).link m).attention = (s.link m).attention := by
  refine State.attention_setLink_same (k := { s.link l with asm := .lead }) ?_ m
  rfl

theorem State.replyWith_attention (s : State) (l : LinkId) (type : Byte) (reply : Reply) (m : LinkId) :
    ((s.replyWith l type reply).link m).attention = (s.link m).attention := by
  refine State.attention_setLink_same (k := { s.link l with inFlight := some ⟨type, reply, false⟩ }) ?_ m
  rfl

theorem State.served_hold (s : State) (l : LinkId) (r : Request) (h : HeadId) :
    (((s.served l r).head h).hold ≠ (s.head h).hold → ((s.served l r).link (.head h)).attention.holdChanged = true) ∧
      State.HoldQuiet h s (s.served l r) := by
  obtain ⟨raised, quiet⟩ := (State.judge_answered (s.toLead l) l r).hold h
  unfold State.served State.HoldQuiet
  rw [State.replyWith_attention]
  refine ⟨raised, fun same there => ?_⟩
  have was := quiet same there
  rwa [State.toLead_attention] at was

/-! ### Stroke watches that run out on the way to a pulse -/

/-- Set and demand of head h stand as their conditions give them. -/
def State.Settled (s : State) (h : HeadId) : Prop := s.HoldFollows h ∧ s.DemandNow h

theorem State.Settled.elapse {s : State} {h : HeadId} (settled : s.Settled h) (d : Nat) : (s.elapse d).Settled h := by
  obtain ⟨holds, demand⟩ := settled
  refine ⟨?_, ?_⟩
  · have same : (s.elapse d).holdNow h = s.holdNow h := by
      refine State.holdNow_of rfl (s.elapse_states d) ?_ ?_ ?_ ?_ ?_ <;> rw [State.head_elapse] <;> rfl
    rw [State.HoldFollows, same, State.head_elapse]
    exact holds
  · refine demand.of_same rfl ?_ ?_ ?_ ?_ ?_ ?_ <;> rw [State.head_elapse] <;>
      first | rfl | exact timerAfter_isSome d _

theorem State.closeEvent_settled (b s : State) (h : HeadId) : (State.closeEvent b s).Settled h :=
  ⟨State.closeEvent_holds b s h, State.closeEvent_demandNow b s h⟩

/-- Of a channel: what the reason BLADE and the demand depend on. -/
structure Channel.Same (c d : Channel) : Prop where
  st : d.st = c.st
  target : d.target = c.target
  pause : d.pause = c.pause
  demand : d.demand = c.demand
  idle : d.idleTimer = c.idleTimer
  stop : d.stopTimer = c.stopTimer

theorem Channel.Same.refl (c : Channel) : Channel.Same c c := ⟨rfl, rfl, rfl, rfl, rfl, rfl⟩

theorem Head.bladeHolds_of_same {x y : Head} (window : y.window = x.window) (same : Channel.Same x.blade y.blade) :
    y.bladeHolds = x.bladeHolds := by
  unfold Head.bladeHolds Head.holdsCut Channel.runAtCut
  rw [window, same.st, same.target, same.pause]

/-- A STROKE-LOST after which the channel still runs leaves it so (R120, R125). -/
theorem Channel.strokeLost_same {g : GuardSettings} {c : Channel} (runs : (c.strokeLost g).st.accepts = true) :
    Channel.Same c (c.strokeLost g) := by
  obtain ⟨d, watch, responds, e⟩ := c.strokeLost_responds g
  rw [e] at runs ⊢
  cases responds with
  | stays => exact ⟨rfl, rfl, rfl, rfl, rfl, rfl⟩
  | latches => cases runs
  | retries => cases runs

/-- Reworking a channel whose demand and timer stand as they should leaves what the reason BLADE depends on (R103, R105). -/
theorem Head.reworkBlade_same {hd : Head} {jobOpen : Bool} (demand : hd.blade.demand = hd.demandOf jobOpen)
    (timer : hd.blade.stopTimer.isSome = true → hd.standsBy jobOpen = true) :
    (hd.reworkBlade (hd.standsBy jobOpen) jobOpen).blade = hd.blade := by
  have stays : hd.stopTimerAfter (hd.standsBy jobOpen) jobOpen = hd.blade.stopTimer := by
    unfold Head.stopTimerAfter
    split
    · rfl
    · next idle =>
      cases e : hd.blade.stopTimer with
      | none => rfl
      | some left => exact absurd (timer (by rw [e]; rfl)) idle
  unfold Head.reworkBlade Channel.setDemand
  rw [stays]
  exact if_pos demand.symm

theorem State.closeEvent_cellHold (b s : State) (h : HeadId) :
    ((State.closeEvent b s).head h).hold.cellHold = (s.head h).hold.cellHold := by
  have closed (r : State) : ((State.closeHead b h r).head h).hold.cellHold = (r.head h).hold.cellHold := by
    rw [State.closeHead_hold]
    show ((State.closeBlade b h r).head h).hold.cellHold = (r.head h).hold.cellHold
    rw [State.closeBlade_hold]
  cases h with
  | a => rw [State.closeEvent_head_a, closed]
  | b =>
    have same : (State.closeHead b .a s).head .b = s.head .b := State.closeHead_head_other b s .a
    rw [State.closeEvent_head_b, closed, same]

/-- An event that leaves what the set and the demand depend on leaves the set (R103, R134). -/
theorem State.closeEvent_hold_same {s b : State} {h : HeadId} (settled : s.Settled h) (job : b.job.state = s.job.state)
    (zones : b.zones = s.zones) (service : (b.head h).service = (s.head h).service)
    (window : (b.head h).window = (s.head h).window) (hold : (b.head h).hold = (s.head h).hold)
    (same : Channel.Same (s.head h).blade (b.head h).blade) :
    ((State.closeEvent s b).head h).hold = (s.head h).hold := by
  obtain ⟨holds, demand⟩ := settled
  have stood : (s.head h).standsBy s.job.state.isOpen = (b.head h).standsBy b.job.state.isOpen := by
    simp only [Head.standsBy, Head.cutCondition, Head.holdsCut, Head.inService, service, window, job, same.idle]
  have demand : b.DemandNow h := demand.of_same (by rw [job]) service window (by rw [hold]) same.demand (by rw [same.idle])
    (by rw [same.stop])
  have blade : ((State.closeEvent s b).head h).blade = (b.head h).blade := by
    rw [State.closeEvent_blade, stood]
    exact Head.reworkBlade_same demand.1 demand.2
  rw [State.closeEvent_holds s b h]
  refine Eq.trans ?_ holds.symm
  refine State.holdNow_of ?_ (State.zoneStates_of_zones ?_) ?_ ?_ (Head.bladeHolds_of_same ?_ ?_) ?_ ?_
  · rw [State.closeEvent_job, job]
  · rw [State.closeEvent_zones, zones]
  · rw [State.closeEvent_head_service, service]
  · rw [State.closeEvent_head_window, window]
  · rw [State.closeEvent_head_window, window]
  · rw [blade]
    exact same
  · rw [State.closeEvent_cellHold, hold]
  · rw [State.closeEvent_overdueReason, hold]

/-- A STROKE-LOST after which its channel still runs leaves the sets of settled heads (R120). -/
theorem State.loseStroke_hold {s : State} {h k : HeadId} (settled : s.Settled h)
    (runs : ((s.head k).blade.strokeLost (s.head k).guard).st.accepts = true) :
    ((State.closeEvent s (State.loseStroke k s)).head h).hold = (s.head h).hold := by
  obtain ⟨w, e⟩ := State.bladeNews_head k false (!((s.head k).blade.strokeLost (s.head k).guard).st.accepts)
    (s.setBlade k ((s.head k).blade.strokeLost (s.head k).guard)) h
  have e : (State.loseStroke k s).head h =
      ((s.setBlade k ((s.head k).blade.strokeLost (s.head k).guard)).head h).after false w := e
  refine State.closeEvent_hold_same settled (by rw [(TimedWork.loseStroke k).job])
    (State.bladeNews_zones _ _ _ _).1 ?_ ((TimedWork.loseStroke k).window h) ?_ ?_
  all_goals rw [e]
  all_goals obtain rfl | rfl := HeadId.eq_or_other k h
  · rw [State.setBlade_head_self]; rfl
  · rw [State.setBlade_head_other]; rfl
  · rw [State.setBlade_head_self]; rfl
  · rw [State.setBlade_head_other]; rfl
  · rw [State.setBlade_head_self]
    exact Channel.strokeLost_same runs
  · rw [State.setBlade_head_other]
    exact .refl _

/-- On the way to a pulse of head k, what a settled head h has seen: the set as it was and nothing raised, or one event after
which the channel of head k runs no more and the pulse is disregarded. -/
def State.Waited (h k : HeadId) (s t : State) : Prop :=
  (t.Settled h ∧ (t.head h).hold = (s.head h).hold ∧
      ((t.link (.head h)).attention.holdChanged = true → (s.link (.head h)).attention.holdChanged = true)) ∨
    ((t.head k).blade.st.accepts = false ∧ State.HoldQuiet h s t)

theorem State.Waited.time {h : HeadId} (k : HeadId) {s : State} (settled : s.Settled h) (d : Nat) :
    State.Waited h k s (s.elapse d) :=
  .inl ⟨settled.elapse d, by rw [State.head_elapse]; rfl, id⟩

theorem State.Waited.after {h k : HeadId} {s u t : State} (waited : State.Waited h k u t)
    (hold : (u.head h).hold = (s.head h).hold)
    (att : (u.link (.head h)).attention.holdChanged = true → (s.link (.head h)).attention.holdChanged = true) :
    State.Waited h k s t := by
  obtain ⟨settled, same, quiet⟩ | ⟨off, quiet⟩ := waited
  · exact .inl ⟨settled, same.trans hold, fun there => att (quiet there)⟩
  · exact .inr ⟨off, quiet.after_same hold att⟩

/-- A running channel that a STROKE-LOST takes out runs no more when the event has closed (R120, R125). -/
theorem State.loseStroke_blade {s : State} {k : HeadId} (runs : (s.head k).blade.st.accepts = true)
    (off : ((s.head k).blade.strokeLost (s.head k).guard).st.accepts = false) :
    ((State.closeEvent s (State.loseStroke k s)).head k).blade.st.accepts = false := by
  have out : ((s.head k).blade.strokeLost (s.head k).guard).Out := by
    obtain ⟨d, watch, responds, e⟩ := (s.head k).blade.strokeLost_responds (s.head k).guard
    rw [e] at off ⊢
    have off : d.st.accepts = false := off
    obtain ⟨st, -⟩ | ⟨out, -⟩ := responds.st
    · rw [st, runs] at off
      cases off
    · exact out
  refine Channel.Out.off ((State.closeEvent_out _ _ k).1.mpr ?_)
  rwa [State.loseStroke, State.bladeNews_blade, State.setBlade_head_self]

theorem State.awaitPulse_waited {h : HeadId} (k : HeadId) (fuel d : Nat) {s : State} (settled : s.Settled h) :
    State.Waited h k s (State.awaitPulse k fuel d s) := by
  induction fuel generalizing d s with
  | zero => exact .time k settled d
  | succ n ih =>
    rw [State.awaitPulse]
    split
    · exact .time k settled d
    · next left runs =>
      split
      · next due =>
        have expires : s.strokeWatchExpiry k = State.closeEvent (s.elapse left) (State.loseStroke k (s.elapse left)) := by
          rw [State.strokeWatchExpiry, runs]
          rfl
        have time : State.Settled (s.elapse left) h := settled.elapse left
        have accepts : ((s.elapse left).head k).blade.st.accepts = true := by
          rw [State.head_elapse]
          exact due.1
        have event : State.HoldQuiet h (s.elapse left) (s.strokeWatchExpiry k) := by
          rw [expires]
          exact State.closeEvent_holdQuiet (TimedWork.loseStroke k).hears h
        cases going : (((s.elapse left).head k).blade.strokeLost ((s.elapse left).head k).guard).st.accepts with
        | true =>
          have hold : ((s.strokeWatchExpiry k).head h).hold = (s.head h).hold := by
            rw [expires, State.loseStroke_hold time going, State.head_elapse]
            rfl
          have again : (s.strokeWatchExpiry k).Settled h := expires ▸ State.closeEvent_settled _ _ h
          exact (ih (d - left) again).after hold (event.after_time hold)
        | false =>
          have off : ((s.strokeWatchExpiry k).head k).blade.st.accepts = false := expires ▸ State.loseStroke_blade accepts going
          rw [State.awaitPulse_off k n (d - left) off]
          refine .inr ⟨by rw [State.head_elapse]; exact off, ?_⟩
          have quiet := event.after_time
          exact fun same there => quiet (by rw [State.head_elapse] at same; exact same) there
      · exact .time k settled d

/-! ### Rows that are one event -/

theorem State.pulse_holdQuiet {s : State} {h : HeadId} (settled : s.Settled h) (k : HeadId) (p : Pulse) :
    State.HoldQuiet h s (s.pulse k p) := by
  have waited : State.Waited h k s (s.beforePulse k p) := State.awaitPulse_waited k p.after p.after settled
  have before : State.HoldQuiet h s (s.beforePulse k p) := by
    obtain ⟨-, -, quiet⟩ | ⟨-, quiet⟩ := waited
    · exact fun _ there => quiet there
    · exact quiet
  unfold State.pulse
  dsimp only
  split
  · exact before
  · next runs =>
    have runs : ((s.beforePulse k p).head k).blade.st.accepts = true := Bool.eq_true_of_not_eq_false runs
    obtain ⟨-, hold, quiet⟩ | ⟨off, -⟩ := waited
    · split
      · exact ((Tick.samples k p.samples).holdQuiet h).after_same hold quiet
      · next seen =>
        exact ((Tick.work (.pulse k p.samples _ _ _ runs (Bool.eq_false_iff.mpr seen))).holdQuiet h).after_same hold quiet
    · rw [runs] at off
      cases off

theorem State.pulseThat_holdQuiet (what : StrokeEvents → Bool) {s : State} {h : HeadId} (settled : s.Settled h) (k : HeadId)
    (p : Pulse) : State.HoldQuiet h s (State.pulseThat what s k p) := by
  unfold State.pulseThat
  split
  · exact State.pulse_holdQuiet settled k p
  · exact .refl h s

/-- A pressure row without an edge, before whose change no zone moves, is one event (log 2, log 25). -/
theorem State.pressure_holdQuiet {s : State} {k : Nat} (alone : ∀ d ∈ s.changeIn k, ZonesQuietFor d s) (good : Bool) (h : HeadId) :
    State.HoldQuiet h s (s.pressure k good []) := by
  unfold State.pressure
  dsimp only [List.foldl_nil]
  split
  · exact .refl h s
  · split
    · exact .refl h s
    · next d change =>
      split
      · exact .refl h s
      · rw [State.pass_quiet (alone d change)]
        refine State.HoldQuiet.after_time (d := d) ?_
        unfold State.takeLevel
        split
        · exact (State.changeLevel_tick k _).holdQuiet h
        · exact .refl h _

theorem State.markExpiry_holdQuiet (s : State) (h : HeadId) : State.HoldQuiet h s s.markExpiry := by
  unfold State.markExpiry
  split
  · exact .refl h s
  · next m _ => exact ((Tick.work (.endMark m.holder)).holdQuiet h).after_time

theorem State.endHold_attention (s : State) (rate : LinkRate) (cause : ResetCause) (h : HeadId) :
    ((s.endHold rate cause).link (.head h)).attention.holdChanged = false := by
  cases h <;> rfl

theorem State.resetHoldEnd_holdQuiet (s : State) (rate : LinkRate) (h : HeadId) : State.HoldQuiet h s (s.resetHoldEnd rate) := by
  unfold State.resetHoldEnd
  split
  · exact .refl h s
  · intro _ there
    rw [State.endHold_attention] at there
    cases there

/-- A row that is no link's and begins no reset is quiet of HOLD-CHANGED, where it is one event (R134). -/
theorem effect_holdQuiet {c : Instr} {s : State} {h : HeadId} (unlinked : linkOf c = none) (free : (effect c s).resetHold = none)
    (settled : CarriesPulse c → s.Settled h) (one : OneChange s c) : State.HoldQuiet h s (effect c s) := by
  have pulse {k p} (row : c = .spinupStepComplete k p ∨ c = .lockOn k p ∨ c = .noSettle k p ∨ c = .trimStepDown k p ∨
      c = .trimStepUp k p ∨ c = .reliefPauseEnd k p ∨ c = .overload k p ∨ c = .bladeMissing k p ∨ c = .cleanRunComplete k p)
      (what : StrokeEvents → Bool) : State.HoldQuiet h s (State.pulseThat what s k p) :=
    State.pulseThat_holdQuiet what (settled ⟨k, p, .inr row⟩) k p
  cases c with
  | powerOn => cases free
  | nresetTaken =>
    have begun : s.nresetTaken.resetHold ≠ none := by
      unfold State.nresetTaken
      split <;> simp [State.warmReset]
    exact absurd free begun
  | resetHoldEnd a b => exact s.resetHoldEnd_holdQuiet _ h
  | overdueExpiry k =>
    refine State.expireIf_holdQuiet fun left runs => .suspend k ?_
    simpa [Head.elapse, Overdue.elapse_st] using Overdue.left_isSome runs
  | idleDelayExpiry k => exact State.expireIf_holdQuiet fun _ _ => .endIdleDelay k
  | stopDelayExpiry k => exact State.expireIf_holdQuiet fun _ _ => .endStopDelay k
  | pullTimeout k =>
    refine State.expireIf_holdQuiet fun left runs => .failZone k ?_
    simpa only [State.zone_elapse_st] using Zone.pullLeft_isSome runs
  | pressureGood x =>
    obtain ⟨k, edges⟩ := x
    obtain ⟨rfl, alone⟩ := one ⟨k, edges⟩ (.inl rfl)
    exact State.pressure_holdQuiet alone true h
  | pressureLoss x =>
    obtain ⟨k, edges⟩ := x
    obtain ⟨rfl, alone⟩ := one ⟨k, edges⟩ (.inr rfl)
    exact State.pressure_holdQuiet alone false h
  | pendingRequestLapse k => exact State.expireIf_holdQuiet fun _ _ => .lapse k
  | budgetMarkExpiry => exact s.markExpiry_holdQuiet h
  | retryTimeExpiry k => exact State.expireIf_holdQuiet fun _ _ => .endRetry k
  | strokeWatchExpiry k => exact State.expireIf_holdQuiet fun _ _ => .loseStroke k
  | indexPulse k p => exact State.pulse_holdQuiet (settled ⟨k, p, .inl rfl⟩) k p
  | spinupStepComplete k p | lockOn k p | noSettle k p | trimStepDown k p | trimStepUp k p | reliefPauseEnd k p | overload k p
  | bladeMissing k p | cleanRunComplete k p => exact pulse (by simp) _
  | _ => cases unlinked

/-! ### Edges -/

theorem State.takeLevel_ticks (k : Nat) (s : State) : Ticks s (State.takeLevel k s) := by
  unfold State.takeLevel
  split
  · exact .single (State.changeLevel_tick k s)
  · exact .refl

theorem State.edge_ticks (s : State) (e : Edge) : Ticks s (s.edge e) :=
  ((State.pass_ticks e.after s).trans (State.takeLevel_ticks _ _)).tail (.line _)

theorem State.edges_ticks (edges : List Edge) (s : State) : Ticks s (edges.foldl State.edge s) := by
  induction edges generalizing s with
  | nil => exact .refl
  | cons e es ih => exact (s.edge_ticks e).trans (ih _)

/-- A pressure row goes on from its first edge by ticks (log 25). -/
theorem State.pressure_after_edge {s : State} (free : s.resetHold = none) (k : Nat) (good : Bool) (e : Edge) (edges : List Edge) :
    Ticks (s.edge e) (s.pressure k good (e :: edges)) := by
  have moved := State.edges_ticks edges (s.edge e)
  unfold State.pressure
  rw [if_neg (by simp [free]), List.foldl_cons]
  dsimp only
  split
  · exact moved
  · split
    · exact moved
    · exact (moved.trans (State.pass_ticks _ _)).trans (State.takeLevel_ticks _ _)

/-! ### The causes of a command -/

theorem Link.Follows.holdChanged {k old : Link} (follows : k.Follows old) :
    (old.attention.holdChanged = true → k.attention.holdChanged = true) ∧
      (k.attention.holdChanged = true → old.attention.holdChanged = true ∨ old.carried.holdChanged = true) := by
  obtain ⟨e | e, -⟩ := follows
  · rw [e]
    exact ⟨id, .inl⟩
  · rw [e]
    simp [AttSet.union]
    tauto

/-- A command that changes a head's reason set raises HOLD-CHANGED (R134). -/
theorem Commanded.raises {s t : State} {c : Instr} (done : Commanded s c t) (free : t.resetHold = none) (h : HeadId)
    (differs : (t.head h).hold ≠ (s.head h).hold) : (t.link (.head h)).attention.holdChanged = true := by
  cases done with
  | served l r => exact (State.served_hold s l r h).1 differs
  | line => exact absurd rfl differs
  | power | warm | extend => cases free
  | endHold rate r =>
    refine absurd ?_ differs
    show ((s.elapse r.left).head h).hold = _
    rw [State.head_elapse]
    rfl
  | ticks _ chain => exact (chain.holdRaised h).1 differs

/-- A command of a link that leaves a head's reason set leaves HOLD-CHANGED as it was, or puts it back with a cancelled reply
(R134, R162). -/
theorem Commanded.linked_quiet {s t : State} {c : Instr} {l : LinkId} (done : Commanded s c t) (link : linkOf c = some l)
    (free : t.resetHold = none) (h : HeadId) (same : (t.head h).hold = (s.head h).hold)
    (there : (t.link (.head h)).attention.holdChanged = true) :
    (s.link (.head h)).attention.holdChanged = true ∨ (s.link (.head h)).carried.holdChanged = true := by
  cases done with
  | served l r => exact .inl ((State.served_hold s l r h).2 same there)
  | line l k follows =>
    by_cases e : LinkId.head h = l
    · subst e
      rw [State.link_setLink_self] at there
      exact follows.holdChanged.2 there
    · rw [State.link_setLink_ne _ _ e] at there
      exact .inl there
  | power | warm | extend => cases free
  | endHold rate r =>
    rw [State.endHold_attention] at there
    cases there
  | ticks unlinked =>
    rw [link] at unlinked
    cases unlinked

/-- Settles O16: an event raises HOLD-CHANGED exactly for a changed set, rows of several events go through their parts, and a
guard's response raises BLADE-FAULT. -/
theorem eventsRaiseTheirCauses : Obligations.EventsRaiseTheirCauses := by
  unfold Obligations.EventsRaiseTheirCauses
  refine ⟨fun s t c h run free => ⟨(exec_commanded run).raises free h, fun steady one same there => ?_⟩,
    fun s t k e edges h free run differs => ?_, fun s t c h run free runs out => ?_⟩
  · cases link : linkOf c with
    | some l => exact (exec_commanded run).linked_quiet link free h same there
    | none =>
      obtain rfl := effect_of_exec run
      have settled (pulse : CarriesPulse c) : s.Settled h := by
        obtain ⟨holds, -, -, demand, -⟩ := steady pulse
        exact ⟨holds, (State.demandFollows_iff s h).mp demand |>.1⟩
      exact .inl (effect_holdQuiet link free settled one same there)
  · have chain (good : Bool) := State.pressure_after_edge free k good e edges
    have raised := ((s.edge_ticks e).holdRaised h).1 differs
    obtain run | run := run
    · obtain rfl := effect_of_exec run
      exact ((chain true).holdRaised h).2 raised
    · obtain rfl := effect_of_exec run
      exact ((chain false).holdRaised h).2 raised
  · obtain ⟨⟨own, cell⟩, measured⟩ := (exec_commanded run).alarmed free runs out
    have off : (t.head h).blade.st.accepts = false := Channel.Out.off out
    exact ⟨own, cell, off, by simp [State.setpoint, off], measured⟩

end Sys2Proof.Machine

/-! PROOFS. The step, the idle step and what is due (R137, R85). -/

namespace Sys2Proof.Machine

/-- Settles O1, by the definition of a step. -/
theorem frontCommandIsTaken : Obligations.FrontCommandIsTaken := by
  unfold Obligations.FrontCommandIsTaken
  intro s c rest front
  unfold Machine.step
  rw [front]

/-! ### The queue of commands -/

theorem State.creditTag_pending (h : HeadId) (n : Nat) (s : State) (tag : Nat) :
    (State.creditTag h n s tag).pending = s.pending := by
  unfold State.creditTag
  repeat' split
  all_goals simp

theorem State.credit_pending (s : State) (h : HeadId) (n : Nat) (tags : List Nat) : (s.credit h n tags).pending = s.pending :=
  foldl_keeps (fun t => t.pending) _ (fun t j => State.creditTag_pending h n t j) tags s

theorem State.drain_pending (s : State) : s.drain.pending = s.pending := by
  simp [State.drain]

theorem State.drainIfDone_pending (s : State) : s.drainIfDone.pending = s.pending := by
  unfold State.drainIfDone
  split
  · exact s.drain_pending
  · rfl

theorem State.modSelected_pending (s : State) (hs : List HeadId) (f : Head → Head) : (s.modSelected hs f).pending = s.pending :=
  foldl_keeps (fun t => t.pending) (fun t h => t.modHead h f) (fun _ _ => rfl) hs s

theorem State.preparedFor_pending (s : State) (h : HeadId) (e : Entry) : (s.preparedFor h e).1.pending = s.pending := by
  unfold State.preparedFor
  split
  · rfl
  · simp [State.prepare]

theorem State.grant_pending (s : State) (h : HeadId) (e : Entry) :
    (s.grant h e).pending = s.pending := by
  simp [State.grant]

theorem RequestWork.pending {s b : State} (work : RequestWork s b) : b.pending = s.pending := by
  cases work with
  | segment h r => simp [State.enqueue]
  | flush h => simp [State.flush, State.drainIfDone_pending]
  | grant h e => rw [State.grant_pending, State.preparedFor_pending]; rfl
  | prepare h e =>
    rw [State.setWatch_pending, State.reevaluate_pending, State.preparedFor_pending]
    rfl
  | done h w => simp [State.complete, State.drainIfDone_pending, State.credit_pending]
  | blockLoad => simp [State.blockLoad]
  | openJob | close | bedSet => rfl
  | drain => exact s.drain_pending
  | abort => simp [State.abort]
  | take id => simp [State.taken]
  | release h p => simp [State.release, State.drainIfDone_pending]
  | cellHold on sel hs => exact s.modSelected_pending hs _
  | serviceOut h => simp [State.serviceOut]
  | serviceIn h => simp [State.serviceIn]
  | faultClear => rfl
  | zoneClear k => simp [State.zoneClear]

theorem TimedWork.pending {s b : State} (work : TimedWork s b) : b.pending = s.pending := by
  have news (h : HeadId) (ready bladeFault : Bool) (t : State) : (State.bladeNews h ready bladeFault t).pending = t.pending := by
    unfold State.bladeNews
    dsimp only
    repeat' split
    all_goals simp
  cases work with
  | suspend | endStopDelay | endRetry | pressureGone => rfl
  | endIdleDelay h => simp [State.endIdleDelay]
  | loseStroke h => exact news _ _ _ _
  | lapse h => simp [State.lapseRequest]
  | endMark h => simp [State.endMark]
  | failZone k => simp [State.failZone]
  | pressureCome k =>
    unfold State.pressureCome
    dsimp only
    split <;> simp [State.zoneBecameHeld]
  | pulse h samples n => exact news _ _ _ _

theorem Tick.pending {s t : State} (tick : Tick s t) : t.pending = s.pending := by
  cases tick with
  | work w => rw [State.closeEvent_pending, w.pending]
  | time | line | samples => rfl

theorem Answered.pending {s t : State} (done : Answered s t) : t.pending = s.pending := by
  cases done with
  | work w => rw [State.closeEvent_pending, w.pending]
  | cutSet sel hs | bladeSet sel hs | guardSet sel hs => exact s.modSelected_pending hs _
  | _ => rfl

theorem Commanded.pending {s t : State} {c : Instr} (done : Commanded s c t) : t.pending = s.pending := by
  cases done with
  | served l r => exact (State.judge_answered (s.toLead l) l r).pending
  | line | power | warm | extend | endHold => rfl
  | ticks _ chain =>
    induction chain with
    | refl => rfl
    | tail _ tick ih => exact tick.pending.trans ih

/-! ### What is due -/

theorem mem_dueIf {timer : Option Nat} {c d : Instr} : c ∈ dueIf timer d ↔ timer = some 0 ∧ c = d := by
  unfold dueIf
  split <;> simp_all

theorem Overdue.left_eq_zero {o : Overdue} : o.left = some 0 ↔ o.st = .counting ∧ o.allowance ≤ o.elapsed := by
  unfold Overdue.left
  cases o.st <;> simp [Nat.sub_eq_zero_iff_le]

theorem State.mem_duePressure {s : State} {k : Fin 16} {c : Instr} : c ∈ s.duePressure k ↔
    s.resetHold = none ∧ s.changeIn k = some 0 ∧
      ((s.zone k).good = true ∧ c = .pressureLoss ⟨k, []⟩ ∨ (s.zone k).good = false ∧ c = .pressureGood ⟨k, []⟩) := by
  unfold State.duePressure
  cases (s.zone k).good <;> simp [and_assoc]

theorem State.mem_due {s : State} {c : Instr} : c ∈ s.due ↔ (∃ h, c ∈ s.dueOf h) ∨
    (s.mark.map Mark.left = some 0 ∧ c = .budgetMarkExpiry) ∨
      ∃ k : Fin 16, (s.zone k).pullLeft = some 0 ∧ c = .pullTimeout k ∨ c ∈ s.duePressure k := by
  have heads : (∃ h, c ∈ s.dueOf h) ↔ c ∈ s.dueOf .a ∨ c ∈ s.dueOf .b :=
    ⟨fun ⟨h, mem⟩ => by cases h <;> tauto, fun mem => mem.elim (⟨_, ·⟩) (⟨_, ·⟩)⟩
  simp [State.due, mem_dueIf, heads, or_assoc]

theorem State.mem_dueOf {s : State} {h : HeadId} {c : Instr} : c ∈ s.dueOf h ↔
    ((s.head h).overdue.left = some 0 ∧ c = .overdueExpiry h) ∨ ((s.head h).blade.idleTimer = some 0 ∧ c = .idleDelayExpiry h) ∨
      ((s.head h).blade.stopTimer = some 0 ∧ c = .stopDelayExpiry h) ∨ ((s.head h).lapse = some 0 ∧ c = .pendingRequestLapse h) ∨
      ((s.head h).blade.retryTimer = some 0 ∧ c = .retryTimeExpiry h) ∨
      ((s.head h).blade.watchLeft = some 0 ∧ c = .strokeWatchExpiry h) := by
  simp [State.dueOf, mem_dueIf]

/-- With no command waiting a microsecond passes, or one of the expiries that are due joins the queue (log 1, log 3). -/
theorem State.idle_cases (s : State) : (s.due = [] → s.idle = s.elapse 1) ∧
    (s.due ≠ [] → ∃ c ∈ s.due, s.idle = { s with pending := [c], free := s.free + 1 }) := by
  unfold State.idle
  cases s.due with
  | nil => simp
  | cons c cs =>
    refine ⟨by simp, fun _ => ⟨_, ?_, rfl⟩⟩
    rw [List.getD_eq_getElem _ _ (Nat.mod_lt _ (by simp))]
    exact List.getElem_mem _

/-- Settles O2, from the parts of a command and the members of the list of what is due. -/
theorem commandsAnswerAndIdlingLetsTimePass : Obligations.CommandsAnswerAndIdlingLetsTimePass := by
  unfold Obligations.CommandsAnswerAndIdlingLetsTimePass
  refine ⟨fun c s => ⟨effect c s, exec_eq_effect c s, (effect_commanded c s).pending⟩, fun s waits => ?_⟩
  have idles : step s = .next s.idle := by
    unfold Machine.step
    rw [waits]
  obtain ⟨quiet, due⟩ := s.idle_cases
  refine ⟨fun none => by rw [idles, quiet none], fun some => ?_, fun h => ?_, ?_, fun k => ?_⟩
  · obtain ⟨c, mem, e⟩ := due some
    exact ⟨c, mem, by rw [idles, e]⟩
  all_goals simp only [State.mem_due, State.mem_dueOf, State.mem_duePressure, Overdue.left_eq_zero]
  · simp
  · simp
  · simp
    tauto

end Sys2Proof.Machine

/-! PROOFS. The resets (R154, R165, R166), and the invariants after reset. -/

namespace Sys2Proof.Machine

/-! ### The state of a reset hold -/

/-- The hold that a command begins: power-on's, or a warm one with its cause (R165). -/
theorem effect_reset {s : State} {c : Instr} {cause : ResetCause} (begins : BeginsReset s c = some cause) :
    (cause = .power ∧ effect c s = s.powerReset) ∨ (cause ≠ .power ∧ effect c s = s.warmReset cause) := by
  unfold BeginsReset at begins
  split at begins
  · cases begins
    exact .inl ⟨rfl, rfl⟩
  · split at begins
    · cases begins
    · next free =>
      cases begins
      refine .inr ⟨nofun, ?_⟩
      show s.nresetTaken = _
      unfold State.nresetTaken
      rw [Option.not_isSome_iff_eq_none.mp free]
  · next l =>
    split at begins
    · next gone =>
      cases begins
      refine .inr ⟨nofun, ?_⟩
      show s.replyComplete l = _
      simp [State.replyComplete, gone, State.replyGone, InFlight.resets, requestCode]
    · cases begins
  · next l =>
    split at begins
    · next gone =>
      cases begins
      refine .inr ⟨nofun, ?_⟩
      show s.lineBreak l = _
      simp [State.lineBreak, gone, State.cancelReply, State.replyGone, InFlight.resets, requestCode, State.raise]
    · cases begins
  · cases begins

theorem Piece.scrap_eq : Piece.scrap = fun p => if p.st = .declared ∨ p.st = .part then { p with st := .scrapped } else p := by
  funext p
  simp [Piece.scrap, Piece.isOpen]

/-- A reset hold of that cause just begun, with what a reset may keep: the trims, the fault records and the pieces (R165). -/
def State.heldReset (s : State) (cause : ResetCause) (trimA trimB : Nat) (recordA recordB : FaultRecord) (pieces : List Piece)
    (retained : Bool) : State :=
  { State.reset with
    pending := s.pending, free := s.free, resetHold := some ⟨cause, 10000⟩, lastCause := s.lastCause, rate := s.rate
    prs := s.prs, links := ⟨Link.reset, Link.reset, Link.reset⟩
    heads := ⟨Head.reset ⟨0, 0⟩ trimA recordA, Head.reset ⟨31999, 0⟩ trimB recordB⟩
    pieces := pieces, retained := retained }

theorem State.powerReset_eq (s : State) :
    s.powerReset = s.heldReset .power 16 16 FaultRecord.clear FaultRecord.clear [] false := rfl

theorem State.warmReset_eq (s : State) (cause : ResetCause) :
    s.warmReset cause = s.heldReset cause s.heads.a.blade.trim s.heads.b.blade.trim s.heads.a.blade.record
      s.heads.b.blade.record (s.pieces.map Piece.scrap) (!s.pieces.isEmpty) := rfl

theorem State.zone_heldReset (s : State) (cause : ResetCause) (trimA trimB : Nat) (recordA recordB : FaultRecord)
    (pieces : List Piece) (retained : Bool) {k : Nat} (lt : k < 16) :
    (s.heldReset cause trimA trimB recordA recordB pieces retained).zone k = Zone.reset := by
  show ((List.replicate 16 Zone.reset).getD k Zone.reset) = Zone.reset
  rw [List.getD_eq_getElem _ _ (by rw [List.length_replicate]; exact lt), List.getElem_replicate]

/-- What a reset leaves, whatever it keeps (R18, R83, R144, R154, R162). -/
theorem State.heldReset_leaves {s t : State} {cause : ResetCause} {trimA trimB : Nat} {recordA recordB : FaultRecord}
    {pieces : List Piece} {retained : Bool} (e : t = s.heldReset cause trimA trimB recordA recordB pieces retained) :
    t.job = ⟨.idle, [], none, List.replicate 16 none⟩ ∧
      (∀ k < 16, (t.zone k).st = .off ∧ t.vac k = false) ∧ t.mark = none ∧
      (∀ h, (t.head h).service = .inService ∧ (t.head h).hold = ⟨true, false, false, false, false, false⟩ ∧
        t.fhold h = true ∧ (t.head h).overdue.st = .stopped ∧ (t.head h).overdue.elapsed = 0 ∧
        (t.head h).standing = (match h with | .a => ⟨0, 0⟩ | .b => ⟨31999, 0⟩) ∧ t.park h = (t.head h).standing ∧
        (t.head h).queue = [] ∧ (t.head h).window = [] ∧ (t.head h).blade.st = .stopped ∧ t.drvEn h = false ∧
        t.drvBrk h = false ∧ t.setpoint h = 0) ∧
      (∀ l, t.atn l = false) ∧
      ∀ r1 r0, ∃ u, exec (.resetHoldEnd r1 r0) t = .next u ∧ u.lastCause = cause ∧
        (∀ h, (u.link (.head h)).attention = AttSet.empty) ∧ (u.link .cell).attention = { AttSet.empty with restarted := true } := by
  subst e
  refine ⟨rfl, fun k lt => ?_, rfl, fun h => ?_, fun l => rfl, fun r1 r0 => ⟨_, rfl, rfl, fun h => ?_, rfl⟩⟩
  · rw [State.vac, State.zone_heldReset _ _ _ _ _ _ _ _ lt]
    exact ⟨rfl, rfl⟩
  · cases h <;> exact ⟨rfl, rfl, rfl, rfl, rfl, rfl, rfl, rfl, rfl, rfl, rfl, rfl, rfl⟩
  · cases h <;> rfl

/-- Settles O3: power-on and a warm reset leave what they leave alike, but for the pieces. -/
theorem everyResetLeaves : Obligations.EveryResetLeaves := by
  unfold Obligations.EveryResetLeaves
  intro s c cause begins
  refine ⟨effect c s, exec_eq_effect c s, ?_⟩
  obtain ⟨rfl, e⟩ | ⟨warm, e⟩ := effect_reset begins
  · rw [e]
    obtain ⟨job, zones, mark, heads, lines, ends⟩ := State.heldReset_leaves s.powerReset_eq
    exact ⟨job, zones, mark, heads, lines, fun _ => rfl, fun warm => absurd rfl warm, ends⟩
  · rw [e]
    obtain ⟨job, zones, mark, heads, lines, ends⟩ := State.heldReset_leaves (s.warmReset_eq cause)
    exact ⟨job, zones, mark, heads, lines, fun power => absurd power warm, fun _ => by rw [← Piece.scrap_eq]; rfl, ends⟩

/-! ### The end of a hold -/

theorem Channel.elapse_stopped {c : Channel} (st : c.st = .stopped) (idle : c.idleTimer = none) (stop : c.stopTimer = none)
    (retry : c.retryTimer = none) (watch : c.watchLeft = none) (d : Nat) : c.elapse d = c := by
  cases c
  simp_all [Channel.elapse, timerAfter, ChState.accepts]

theorem Overdue.elapse_stopped {o : Overdue} (st : o.st = .stopped) (d : Nat) : o.elapse d = o := by
  unfold Overdue.elapse
  rw [st]

/-- Time leaves a head none of whose timers runs. -/
theorem Head.elapse_stopped {hd : Head} {d : Nat} (blade : hd.blade.elapse d = hd.blade) (overdue : hd.overdue.st = .stopped)
    (lapse : hd.lapse = none) : hd.elapse d = hd := by
  cases hd
  simp_all [Head.elapse, timerAfter, Overdue.elapse_stopped]

theorem State.zone_endHold (s : State) (rate : LinkRate) (cause : ResetCause) {k : Nat} (lt : k < s.zones.length) :
    (s.endHold rate cause).zone k = { s.zone k with steady := 0 } := by
  unfold State.endHold State.zone
  simp [lt]

/-- Settles O4: the state of a hold just begun is State.heldReset, and the end of a hold is State.endHold. -/
theorem resetHoldBeginsAndEnds : Obligations.ResetHoldBeginsAndEnds := by
  unfold Obligations.ResetHoldBeginsAndEnds
  refine ⟨fun s c cause begins => ⟨effect c s, exec_eq_effect c s, ?_⟩, fun s r holds => ⟨?_, fun r1 r0 => ?_⟩⟩
  · obtain ⟨rfl, e⟩ | ⟨warm, e⟩ := effect_reset begins
    · rw [e, if_pos rfl]
      exact ⟨rfl, rfl, rfl, rfl, fun h => by cases h <;> exact ⟨rfl, rfl⟩⟩
    · rw [e, if_neg warm, ← Piece.scrap_eq]
      exact ⟨rfl, rfl, rfl, by simp [State.warmReset], fun h => by cases h <;> exact ⟨rfl, rfl⟩⟩
  · show Host.Outcome.next s.nresetTaken = _
    unfold State.nresetTaken
    rw [holds]
    rfl
  · have ends : s.resetHoldEnd ⟨r1, r0⟩ = (s.elapse r.left).endHold ⟨r1, r0⟩ r.cause := by
      unfold State.resetHoldEnd
      rw [holds]
    refine ⟨_, congrArg Host.Outcome.next ends, rfl, rfl, rfl, rfl, rfl, rfl, rfl, rfl, rfl, rfl, rfl, fun none => ?_,
      fun h st overdue lapse idle stop retry watch => ?_, fun k lt none => ?_⟩
    · show (s.elapse r.left).mark = _
      simp [State.elapse, none]
    · show (s.elapse r.left).head h = _
      rw [State.head_elapse, Head.elapse_stopped (Channel.elapse_stopped st idle stop retry watch _) overdue lapse]
    · have len : (s.elapse r.left).zones.length = s.zones.length := by simp [State.elapse]
      rw [State.zone_endHold _ _ _ (len ▸ lt), State.zone_elapse _ _ lt]
      simp [Zone.elapse, timerAfter, none]

/-! ### Deaf links -/

theorem State.onLink_held {s : State} (held : s.resetHold.isSome = true) (l : LinkId) (f : Link → Link) : s.onLink l f = s :=
  if_pos held

theorem State.takeFrame_held {s : State} (held : s.resetHold.isSome = true) (l : LinkId) (type : Byte)
    (act : State → State × Reply) : s.takeFrame l type act = s := by
  have running : s.resetHold.isNone = false := by simpa using held
  simp [State.takeFrame, State.listens, State.receives, running]

/-- Settles O5: a link row needs a part outside its hold, and so does a pressure row. -/
theorem holdDeafensEveryLink : Obligations.HoldDeafensEveryLink := by
  unfold Obligations.HoldDeafensEveryLink
  intro s c held deaf
  have running : s.resetHold.isNone = false := by simpa using held
  rw [exec_eq_effect]
  refine congrArg Host.Outcome.next ?_
  cases row : requestOf c with
  | some p =>
    obtain ⟨l, r⟩ := p
    rw [effect_request row]
    exact State.takeFrame_held held l _ _
  | none =>
    cases c with
    | unknownRequest l type =>
      show (if _ then _ else _) = s
      split
      · rfl
      · exact State.takeFrame_held held l _ _
    | frameCheckFailed l | framingError l | frameGapTimeout l | replyBegin l => exact State.onLink_held held l _
    | lineReturnsHigh l => exact State.onLink_held held l fun k => { k with rx := .hunting }
    | frameDiscardedBusy l =>
      show s.discardedBusy l = s
      unfold State.discardedBusy
      rw [State.onLink_held held, ite_self]
    | breakDetected l => exact if_pos held
    | replyComplete l =>
      show s.replyComplete l = s
      unfold State.replyComplete
      split
      · rfl
      · simp [running]
    | characterReceived l ch =>
      show s.character l ch = s
      simp [State.character, State.receives, running]
    | pressureGood x => exact State.pressure_held _ _ _ held
    | pressureLoss x => exact State.pressure_held _ _ _ held
    | powerOn | nresetTaken | resetHoldEnd | overdueExpiry | idleDelayExpiry | stopDelayExpiry | pullTimeout | pendingRequestLapse
    | budgetMarkExpiry | retryTimeExpiry | strokeWatchExpiry | indexPulse | spinupStepComplete | lockOn | noSettle | trimStepDown
    | trimStepUp | reliefPauseEnd | overload | bladeMissing | cleanRunComplete => simp [linkOf] at deaf
    | _ => cases row

/-! ### The invariants after reset -/

/-- Settles O53: after reset nothing runs, nothing is queued or granted, and every setting has its default. -/
theorem resetMeetsTheInvariants : Obligations.ResetMeetsTheInvariants := by
  unfold Obligations.ResetMeetsTheInvariants
  have follows (h : HeadId) : State.reset.HoldFollows h ∧ (State.reset.head h).OverdueFollows ∧ (State.reset.head h).WatchFollows := by
    cases h
    · exact State.supervised_reset (h := .a) rfl rfl
    · exact State.supervised_reset (h := .b) rfl rfl
  have demand (h : HeadId) : State.reset.DemandFollows h := by cases h <;> exact ⟨rfl, fun _ => rfl, nofun⟩
  have lapse (h : HeadId) : State.reset.LapseRunsWhenHeld h := by cases h <;> rfl
  have workless : NoWorkOutsideJob State.reset := fun _ => ⟨rfl, rfl⟩
  have apart : GantriesApart State.reset := by
    unfold GantriesApart
    decide
  have budget : WithinBudget State.reset := by
    unfold WithinBudget
    decide
  have off : ∀ k < Config.zoneCount, (State.reset.zone k).st.on = true → State.reset.needed k = true := by decide
  have claims (h : HeadId) : (State.reset.head h).ClaimIsHull ∧ (State.reset.head h).EndsInSpan ∧ State.reset.ParkedWhenOut h := by
    cases h <;> exact ⟨rfl, ⟨nofun, nofun⟩, nofun⟩
  have settings : State.reset.SettingsInRange := by
    obtain ⟨zones, least, most, parkA, parkB⟩ := State.sharedInRange_reset (s := State.reset) rfl rfl
    exact ⟨zones, least, most, parkA, parkB, Head.settingsInRange_reset _ _ _, Head.settingsInRange_reset _ _ _⟩
  have attention (l : LinkId) : (State.reset.link l).Keeps l := by
    rcases l with (_ | _) | _
    · exact Link.keeps_reset _
    · exact Link.keeps_reset _
    · exact ⟨rfl, rfl⟩
  have each (h : HeadId) : (State.reset.head h).CommandedWhenOn ∧ (State.reset.head h).RateInRange ∧
      (State.reset.head h).CountsFollow ∧ (State.reset.head h).blade.TrimInRange ∧ (State.reset.head h).RetriesWithinLimit ∧
      (State.reset.head h).WithinCapacity ∧ (State.reset.head h).InOrder := by
    cases h <;> exact ⟨fun _ => rfl, nofun, ⟨fun _ => ⟨rfl, rfl, rfl, rfl⟩, fun _ => rfl, nofun⟩, ⟨by decide, by decide⟩,
      Nat.zero_le _, ⟨by decide, by decide⟩, Head.inOrder_reset _ _ _⟩
  refine ⟨⟨apart, workless, claims⟩, budget, ⟨workless, rfl, off⟩, ⟨workless, follows⟩, ⟨by decide, by decide, nofun⟩, settings,
    (attentionKept_iff _).mpr attention, fun h => ?_⟩
  obtain ⟨commanded, rate, counts, trim, retries, capacity, order⟩ := each h
  obtain ⟨holds, overdue, watch⟩ := follows h
  exact ⟨lapse h, demand h, commanded, rate, counts, trim, retries, capacity, order, holds, overdue, watch, demand h, lapse h⟩

end Sys2Proof.Machine

/-! PROOFS. Requests that only answer, the reads, and what happens on a line (10.2 to 10.6). -/

namespace Sys2Proof.Machine

/-! ### A request and its answer -/

/-- A request that is judged to leave `t` leaves `t` with the answer in the link's buffer (R160). -/
theorem exec_answering {s t : State} {c : Instr} {l : LinkId} {r : Request} {reply : Reply} (row : requestOf c = some (l, r))
    (free : s.listens l = true) (judge : (s.toLead l).judge l r = (t.toLead l, reply)) :
    exec c s = .next (t.answering l (requestCode r) reply) := by
  rw [exec_eq_effect, exec_served row free (exec_eq_effect c s), State.served, judge, State.answering_eq_replyWith_toLead]

/-- A request that is run to leave `t` leaves `t` with the answer in the link's buffer (R160, R161). -/
theorem exec_run {s t : State} {c : Instr} {l : LinkId} {r : Request} {reply : Reply} (row : requestOf c = some (l, r))
    (free : s.listens l = true) (may : permitted l r = true) (run : (s.toLead l).run l r = (t.toLead l, reply)) :
    exec c s = .next (t.answering l (requestCode r) reply) :=
  exec_answering row free ((State.judge_permitted _ l r may).trans run)

theorem permitted_eq_false_iff (l : LinkId) (r : Request) : permitted l r = false ↔ WrongLink l (requestCode r) := by
  cases l <;> cases r <;> simp [permitted, WrongLink, requestCode, everyLink, headOnly]

theorem takeFrame_answers {s : State} {l : LinkId} (free : s.listens l = true) (type : Byte) (reply : Reply) :
    s.takeFrame l type (fun t => (t, reply)) = s.answering l type reply := by
  rw [State.takeFrame_listens s l type _ free, State.answering_eq_replyWith_toLead]

theorem exec_unknownRequest {s : State} {l : LinkId} {type : Byte} (unknown : type ∉ requestCodes) :
    exec (.unknownRequest l type) s = .next (s.serveUnknown l type) := by
  have other : ¬ requestCodes.contains type = true := by simpa using unknown
  show Host.Outcome.next (if _ then _ else _) = _
  rw [if_neg other]

/-- A frame that completes on a busy link is discarded (R160). -/
theorem takeFrame_busy {s : State} {l : LinkId} (held : s.resetHold = none) (hunts : (s.link l).rx = .hunting)
    (busy : (s.link l).inFlight.isSome = true) (type : Byte) (act : State → State × Reply) :
    s.takeFrame l type act = s.setLink l { s.link l with asm := .lead } := by
  obtain ⟨f, taken⟩ := Option.isSome_iff_exists.mp busy
  simp [State.takeFrame, State.listens, State.receives, held, hunts, taken, State.toLead]

/-- Settles O6: requests on a wrong link, of an unknown type, and on a busy link. -/
theorem unfitAndUntimelyRequests : Obligations.UnfitAndUntimelyRequests := by
  unfold Obligations.UnfitAndUntimelyRequests
  refine ⟨fun s l free => ⟨fun c r row wrong => ?_, fun type unknown => ?_⟩, fun s l held hunts busy => ?_⟩
  · exact exec_answering row free (State.judge_refused _ l r ((permitted_eq_false_iff l r).mpr wrong))
  · rw [exec_unknownRequest unknown, State.serveUnknown, takeFrame_answers free]
  · have discarded : exec (.frameDiscardedBusy l) s = .next (s.setLink l { s.link l with asm := .lead }) := by
      show Host.Outcome.next (s.discardedBusy l) = _
      rw [State.discardedBusy, if_pos busy, State.onLink, if_neg (by simp [held])]
      rfl
    refine ⟨discarded, fun c r row => ?_, fun type unknown => ?_⟩
    · rw [discarded, exec_eq_effect, effect_request row, State.serve, takeFrame_busy held hunts busy]
    · rw [discarded, exec_unknownRequest unknown, State.serveUnknown, takeFrame_busy held hunts busy]

/-! ### Times and levels in replies -/

theorem msLeft_msOf (us : Nat) : MsOf us (msLeft us) := by
  unfold MsOf msLeft
  split
  · omega
  · split <;> omega

theorem timerMs_none {timer : Option Nat} (stopped : timer = none) : timerMs timer = 0 := by rw [stopped]; rfl

theorem timerMs_some {timer : Option Nat} {us : Nat} (runs : timer = some us) : MsOf us (timerMs timer) := by
  rw [runs]
  exact msLeft_msOf us

theorem Channel.level_eq (c : Channel) :
    c.level = if c.st = .spinup ∨ c.st = .settling ∨ c.st = .run then some c.target else none := by
  unfold Channel.level
  cases c.st <;> rfl

theorem ZoneState.on_iff (st : ZoneState) : st.on = decide (st = .pulling ∨ st = .held ∨ st = .lost) := by
  cases st <;> rfl

/-! ### The reads -/

theorem State.emptyAttention_toLead (s : State) (l : LinkId) :
    (s.toLead l).emptyAttention l = (s.setLink l { s.link l with attention := AttSet.empty }).toLead l := by
  simp [State.emptyAttention, State.toLead]

theorem State.headStatus_toLead (s : State) (l : LinkId) (h : HeadId) : (s.toLead l).headStatus h = s.headStatus h := by
  unfold State.headStatus
  rw [State.toLead_attention]
  rfl

theorem State.cellStatus_toLead (s : State) (l : LinkId) : (s.toLead l).cellStatus = s.cellStatus := by
  unfold State.cellStatus
  rw [State.toLead_attention]
  rfl

theorem State.activeCount_eq (s : State) :
    s.activeCount = s.zones.countP fun z => decide (z.st = .pulling ∨ z.st = .held ∨ z.st = .lost) := by
  unfold State.activeCount
  congr
  funext z
  exact z.st.on_iff

/-- STATUS leaves its link's set empty and answers (R162, R163). -/
theorem exec_status {s : State} {l : LinkId} (free : s.listens l = true) :
    exec (.status l) s = .next ((s.setLink l { s.link l with attention := AttSet.empty }).answering l 0x01
      (s.statusRequest l).2) := by
  refine exec_run (c := .status l) (r := .status) rfl free (by cases l <;> rfl) ?_
  rw [← State.emptyAttention_toLead]
  refine Prod.ext rfl (congrArg Reply.accepted ?_)
  cases l with
  | head h => exact congrArg Content.headStatus (s.headStatus_toLead _ h)
  | cell => exact congrArg Content.cellStatus (s.cellStatus_toLead _)

/-- Settles O7: STATUS reports and empties the link's set. -/
theorem statusReportsAndEmpties : Obligations.StatusReportsAndEmpties := by
  unfold Obligations.StatusReportsAndEmpties
  dsimp only
  refine ⟨fun o => ⟨fun stopped => ?_, fun runs => ?_⟩, fun s => ⟨fun h free => ?_, fun free => ?_⟩⟩
  · simp [Overdue.remaining, stopped]
  · unfold Overdue.remaining
    cases e : o.st with
    | stopped => exact absurd e runs
    | counting | paused => exact msLeft_msOf _
  · rw [exec_status free, ← Channel.level_eq]
    rfl
  · rw [exec_status free, ← Channel.level_eq, ← Channel.level_eq, ← State.activeCount_eq]
    rfl

theorem headOf_headCode (h : HeadId) : headOf (headCode h) = some h := by cases h <;> rfl

theorem headOf_eq_none {code : Byte} (other : 1 < code.toNat) : headOf code = none := by
  unfold headOf
  rw [if_neg, if_neg]
  · rintro rfl
    exact absurd other (by decide)
  · rintro rfl
    exact absurd other (by decide)

theorem badPieceId_eq_true {id : Nat} (bad : id = 0 ∨ 250 < id) : badPieceId id = true := by
  simpa [badPieceId] using bad

theorem badPieceId_eq_false_of {id : Nat} (least : 1 ≤ id) (most : id ≤ 250) : badPieceId id = false := by
  simp [badPieceId]
  omega

/-- A request that is run on every link and leaves the state as it was. -/
theorem exec_read {s : State} {c : Instr} {l : LinkId} {r : Request} {reply : Reply} (row : requestOf c = some (l, r))
    (free : s.listens l = true) (every : everyLink r = true) (run : (s.toLead l).run l r = (s.toLead l, reply)) :
    exec c s = .next (s.answering l (requestCode r) reply) := by
  refine exec_run row free ?_ run
  cases l with
  | head h => simp [permitted, every]
  | cell => cases r <;> first | rfl | cases every

/-- Zone k lies under an X span where it lies between the zones of its ends. -/
theorem spanZones_has (lo hi k : Nat) : (spanZones lo hi).has k = true ↔ lo / 2000 ≤ k ∧ k ≤ hi / 2000 := by
  unfold ZoneRange.has
  rw [Bool.and_eq_true, decide_eq_true_iff, decide_eq_true_iff]
  rfl

theorem State.severedOver_iff (s : State) (k : Nat) :
    s.severedOver k = true ↔ ∃ p ∈ s.pieces, p.st = .severed ∧ p.lo / 2000 ≤ k ∧ k ≤ p.hi / 2000 := by
  simp [State.severedOver, spanZones_has]

/-- Settles O8: each read answers from the state and leaves it. -/
theorem readsChangeNothing : Obligations.ReadsChangeNothing := by
  unfold Obligations.ReadsChangeNothing
  intro s l free
  refine ⟨exec_read (c := .ident l) rfl free rfl rfl, fun h => ?_, fun code other => ?_, exec_read (c := .pieceRead l none) rfl free rfl rfl,
    fun id p least most found => ?_, fun id least most missing => ?_, fun id bad => ?_, ?_, fun h => ?_, fun k => ?_⟩
  · refine exec_read (c := .headRead l (headCode h)) (r := .headRead (headCode h)) rfl free rfl ?_
    show (_, State.headReadReply _ l (headCode h)) = _
    simp [State.headReadReply, headOf_headCode]
  · refine exec_read (c := .headRead l code) (r := .headRead code) rfl free rfl ?_
    show (_, State.headReadReply _ l code) = _
    simp [State.headReadReply, headOf_eq_none other]
  · refine exec_read (c := .pieceRead l (some id)) (r := .pieceRead (some id)) rfl free rfl ?_
    show (_, State.pieceRead (s.toLead l) (some id)) = _
    have found : (s.toLead l).findPiece id.toNat = some p := found
    simp [State.pieceRead, badPieceId_eq_false_of least most, found]
  · refine exec_read (c := .pieceRead l (some id)) (r := .pieceRead (some id)) rfl free rfl ?_
    show (_, State.pieceRead (s.toLead l) (some id)) = _
    have missing : (s.toLead l).findPiece id.toNat = none := missing
    simp [State.pieceRead, badPieceId_eq_false_of least most, missing]
  · refine exec_read (c := .pieceRead l (some id)) (r := .pieceRead (some id)) rfl free rfl ?_
    show (_, State.pieceRead (s.toLead l) (some id)) = _
    simp [State.pieceRead, badPieceId_eq_true bad]
  · rintro rfl
    exact exec_run (c := .zoneRead .cell) rfl free rfl rfl
  · refine ⟨timerMs_none, fun us => timerMs_some, timerMs_none, fun us => timerMs_some, ?_⟩
    rw [← Channel.level_eq]
    rfl
  · refine ⟨rfl, rfl, rfl, rfl, timerMs_none, ?_⟩
    rw [← State.severedOver_iff]
    simp [State.zoneDetail, State.vac, and_comm]

/-! ### Characters -/

/-- A frame whose check bytes are not those of its counted bytes fails its check (R158). -/
theorem frameChecks_eq_false {len c : Byte} {got : List Byte} (some : 1 ≤ got.length)
    (differs : got.drop (got.length - 1) ++ [c] ≠ halfBytes (crc16 (len :: got.take (got.length - 1)))) :
    frameChecks (len :: (got ++ [c])) = false := by
  obtain ⟨m, size⟩ := Nat.exists_eq_add_of_le' some
  rw [size, Nat.add_sub_cancel] at differs
  have counted : (len :: (got ++ [c])).length - 2 = m + 1 := by simp [size]
  have least : m ≤ got.length := by omega
  unfold frameChecks
  dsimp only
  rw [counted, List.drop_succ_cons, List.take_succ_cons, List.drop_append_of_le_length least, List.take_append_of_le_length least]
  exact decide_eq_false differs

/-- Settles O9: the rows that change the receiver alone, and the moves of the frame assembly. -/
theorem charactersAssemble : Obligations.CharactersAssemble := by
  unfold Obligations.CharactersAssemble
  intro s l held
  have running : ¬ s.resetHold.isSome = true := by simp [held]
  have moves (hunts : (s.link l).rx = .hunting) {c : Byte} {asm : Assembly} {done : Option (List Byte)}
      (received : (s.link l).asm.receive c = (asm, done)) (fails : ∀ bytes ∈ done, frameChecks bytes = false) :
      exec (.characterReceived l c) s = .next (s.setLink l { s.link l with asm := asm }) := by
    have receives : s.receives l = true := by simp [State.receives, held, hunts]
    rw [exec_eq_effect]
    refine congrArg Host.Outcome.next ((?_ : s.character l c = _))
    obtain ⟨-, e⟩ | ⟨bytes, complete, checks, -⟩ := State.character_cases c receives
    · rw [e, received]
    · rw [received] at complete
      rw [fails bytes complete] at checks
      cases checks
  refine ⟨congrArg Host.Outcome.next (if_neg running), congrArg Host.Outcome.next (if_neg running),
    congrArg Host.Outcome.next (if_neg running), congrArg Host.Outcome.next (if_neg running), fun waits c => ?_, fun hunts c =>
      ⟨fun lead => ?_, fun length => ?_, fun len got gather more => ?_, fun len got gather last differs => ?_⟩⟩
  · refine congrArg Host.Outcome.next ((?_ : s.character l c = s))
    simp [State.character, State.receives, waits]
  · refine moves hunts (done := none) ?_ nofun
    rw [lead]
    rfl
  · refine moves hunts (done := none) ?_ nofun
    have zero : c = 0 ↔ c.toNat = 0 := ⟨fun e => by rw [e]; rfl, fun e => BitVec.eq_of_toNat_eq e⟩
    simp only [length, Assembly.receive, zero]
  · refine moves hunts (done := none) ?_ nofun
    rw [gather]
    exact if_pos more
  · refine moves hunts (done := some (len :: (got ++ [c]))) ?_ ?_
    · rw [gather]
      exact if_neg (by omega)
    · rintro _ ⟨⟩
      exact frameChecks_eq_false (by omega) differs

/-! ### Breaks and replies -/

theorem InFlight.resets_of_beginsNot {s : State} {l : LinkId} {f : InFlight} (held : s.resetHold = none)
    (taken : (s.link l).inFlight = some f) (none : BeginsReset s (.breakDetected l) = none) (begun : f.begun = false) :
    f.resets = false := by
  refine Bool.eq_false_iff.mpr fun resets => ?_
  rw [BeginsReset, if_pos ⟨held, by rw [taken, (f.resets_iff begun).mp resets]⟩] at none
  cases none

theorem InFlight.resets_of_completesNot {s : State} {l : LinkId} {f : InFlight} (held : s.resetHold = none)
    (taken : (s.link l).inFlight = some f) (none : BeginsReset s (.replyComplete l) = none) (begun : f.begun = true) :
    f.resets = false := by
  refine Bool.eq_false_iff.mpr fun resets => ?_
  rw [BeginsReset, if_pos ⟨held, by rw [taken, (f.resets_iff begun).mp resets]⟩] at none
  cases none

/-- Settles O12: breaks, the answer to RESET, the resting line, the rate, and the course of a reply. -/
theorem breaksAndReplies : Obligations.BreaksAndReplies := by
  unfold Obligations.BreaksAndReplies
  dsimp only
  refine ⟨fun s l held => ⟨fun idle => ?_, fun f taken => ⟨fun begun => ?_, fun waits none => ?_⟩⟩, fun s => ⟨fun free =>
    exec_run (c := .reset .cell) rfl free rfl rfl, fun l rests => ?_, ?_, fun l f held taken => ⟨?_, fun waits => ?_,
      fun begun none => ?_, ?_⟩⟩⟩
  all_goals try have running : ¬ s.resetHold.isSome = true := by simp [held]
  · refine congrArg Host.Outcome.next (?_ : s.lineBreak l = _)
    simp [State.lineBreak, held, idle, Link.awaitHigh]
  · refine congrArg Host.Outcome.next (?_ : s.lineBreak l = _)
    simp [State.lineBreak, held, taken, begun, Link.awaitHigh]
  · refine congrArg Host.Outcome.next (?_ : s.lineBreak l = _)
    simp [State.lineBreak, held, taken, waits, Link.awaitHigh, State.cancelReply, State.replyGone,
      InFlight.resets_of_beginsNot held taken none waits, State.raise, Link.carried]
  · unfold State.txHigh
    obtain held | idle := rests
    · rw [held]
      rfl
    · rw [idle]
      simp
  · obtain ⟨_ | _, _ | _⟩ := s.rate <;> rfl
  · refine congrArg Host.Outcome.next ((if_neg running).trans ?_)
    unfold Link.beginReply
    rw [taken]
    rfl
  · refine congrArg Host.Outcome.next (?_ : s.replyComplete l = _)
    simp [State.replyComplete, taken, waits]
  · refine congrArg Host.Outcome.next (?_ : s.replyComplete l = _)
    simp [State.replyComplete, taken, begun, held, State.replyGone, InFlight.resets_of_completesNot held taken none begun]
  · simp [State.txHigh, held, taken]

/-! ### The governor -/

theorem pivotTime_eq (p : CutParams) (e : Entry) :
    pivotTime p e = if e.joint = .pivot ∧ e.seg.kind ≠ .air then (e.turn * p.pivot + 9) / 10 else 0 := by
  unfold pivotTime
  cases e.joint with
  | smooth | free => rfl
  | pivot => by_cases air : e.seg.kind = .air <;> simp [air, ceilDiv]

/-- The results of a cutting segment by its trimmed pitch (R50 to R55). -/
theorem govern_of_cutting {e : Entry} (cuts : e.seg.kind ≠ .air) (j : Job) (p : CutParams) (fCut trim : Nat) {p3 : Nat}
    (pitch : trimmedPitch trim (curvedPitch p e.seg (stackPitch p j.index)) = p3) :
    govern j p fCut trim e =
      { feed := max 1 (min p.fMax (max p3 p.pMin * fCut / 1000)), heavy := decide (p3 < p.pMin)
        ceiling := decide (p.fMax < max p3 p.pMin * fCut / 1000)
        expected := expectedTime e.seg.length (max 1 (min p.fMax (max p3 p.pMin * fCut / 1000)))
        allowance := allowanceOf p (expectedTime e.seg.length (max 1 (min p.fMax (max p3 p.pMin * fCut / 1000))))
          (pivotTime p e) } := by
  have floor : (if p3 < p.pMin then p.pMin else p3) = max p3 p.pMin := by split <;> omega
  have ceiling (f : Nat) : (if p.fMax < f then p.fMax else f) = min p.fMax f := by split <;> omega
  have least (f : Nat) : (if f = 0 then 1 else f) = max 1 f := by split <;> omega
  rw [govern, if_neg cuts]
  simp only [pitch, rawFeed, decide_eq_true_eq, floor, ceiling, least]

/-- The manual's pitch stages for each kind of cutting segment (R46 to R49). -/
theorem trimmedPitch_eq (j : Job) (p : CutParams) (trim : Nat) (g : Segment) :
    let p1 := p.pMax * 256 / (256 + ((j.stack.map fun y => y.thickness * (j.classes.getD y.cls none).getD 0).sum + 63) / 64)
    trimmedPitch trim (curvedPitch p g (stackPitch p j.index)) =
      (match g.kind with
        | .line => p1
        | .air => p1
        | .arcCw => p1 * g.radius.getD 0 / (g.radius.getD 0 + 4 * p.w)
        | .arcCcw => p1 * g.radius.getD 0 / (g.radius.getD 0 + 4 * p.w)) * trim / 16 := by
  unfold curvedPitch
  cases g.kind <;> rfl

/-- Settles O30: an AIR segment skips to its own feed, and the stages of a cutting one are those of the manual. -/
theorem governorStages : Obligations.GovernorStages := by
  unfold Obligations.GovernorStages
  intro j p fCut trim e
  dsimp only
  by_cases air : e.seg.kind = .air
  · rw [govern, if_pos air]
    simp [air, expectedTime, ceilDiv, allowanceOf]
  · rw [govern_of_cutting air j p fCut trim (trimmedPitch_eq j p trim e.seg), pivotTime_eq, if_neg air]
    simp only [expectedTime, ceilDiv, allowanceOf, ne_eq, air, not_false_eq_true, true_and] <;> rfl

end Sys2Proof.Machine

/-! PROOFS. The bytes of requests and replies (11.1 to 11.7). -/

namespace Sys2Proof.Machine

/-! ### Bytes of numbers and sets -/

theorem longBytes_eq (v : Long) : longBytes v = fourBytes v.toNat := by
  have byte (place : Nat) : v.extractLsb' place 8 = BitVec.ofNat 8 (v.toNat / 2 ^ place) := by
    refine BitVec.eq_of_toNat_eq ?_
    rw [BitVec.extractLsb'_toNat, Nat.shiftRight_eq_div_pow, BitVec.toNat_ofNat]
  unfold longBytes fourBytes
  rw [byte, byte, byte, byte]
  simp

theorem halfBytes_eq (v : Half) : halfBytes v = twoBytes v.toNat := by
  have byte (place : Nat) : v.extractLsb' place 8 = BitVec.ofNat 8 (v.toNat / 2 ^ place) := by
    refine BitVec.eq_of_toNat_eq ?_
    rw [BitVec.extractLsb'_toNat, Nat.shiftRight_eq_div_pow, BitVec.toNat_ofNat]
  unfold halfBytes twoBytes
  rw [byte, byte]
  simp

theorem le16_eq (n : Nat) : le16 n = twoBytes n := by
  unfold le16
  rw [halfBytes_eq, BitVec.toNat_ofNat]
  unfold twoBytes
  refine congrArg₂ _ ?_ (congrArg₂ _ ?_ rfl)
  all_goals
    refine BitVec.eq_of_toNat_eq ?_
    simp only [BitVec.toNat_ofNat]
    omega

theorem le32_eq (n : Nat) : le32 n = fourBytes n := by
  unfold le32
  rw [longBytes_eq, BitVec.toNat_ofNat]
  unfold fourBytes
  refine congrArg₂ _ ?_ (congrArg₂ _ ?_ (congrArg₂ _ ?_ (congrArg₂ _ ?_ rfl)))
  all_goals
    refine BitVec.eq_of_toNat_eq ?_
    simp only [BitVec.toNat_ofNat]
    omega

/-! ### Reading a request back -/

theorem getPoint_end (p : PointReq) : getPoint (pointBytes p) = some (p, []) := by
  simpa using getPoint_pointBytes p []

theorem getBytes_end (bs : List Byte) : getBytes bs.length bs = some (bs, []) := by
  simpa using getBytes_append bs []

theorem getBytes_of_length {n : Nat} {bs : List Byte} (size : bs.length = n) (rest : List Byte) :
    getBytes n (bs ++ rest) = some (bs, rest) := size ▸ getBytes_append bs rest

theorem getPresence_presence {α : Type} (v : Option α) (rest : List Byte) :
    getPresence (presence v :: rest) = some (v.isSome, rest) := by
  cases v <;> rfl

/-- A field behind its presence reads back, with what follows it. -/
theorem getIf_optBytes {α : Type} {get : List Byte → Option (α × List Byte)} {bytes : α → List Byte} {rest : List Byte}
    (reads : ∀ v, get (bytes v ++ rest) = some (v, rest)) (v : Option α) :
    getIf v.isSome get (optBytes bytes v ++ rest) = some (v, rest) := by
  cases v with
  | none => rfl
  | some v => simp [getIf, optBytes, reads]

/-- The flag byte of SEGMENT says whether a radius follows, and how many tags (11.3). -/
theorem segmentFlags_eq {r : SegmentReq} (wf : r.wf = true) :
    (segmentFlags r).toNat = (if r.radius.isSome then 1 else 0) + 2 * r.tags.length ∧
      (segmentFlags r).getLsbD 0 = r.radius.isSome := by
  have few : r.tags.length ≤ 2 := by simpa [SegmentReq.wf] using wf
  have value : (segmentFlags r).toNat = (if r.radius.isSome then 1 else 0) + 2 * r.tags.length := by
    unfold segmentFlags
    rw [BitVec.toNat_ofNat]
    split <;> omega
  refine ⟨value, ?_⟩
  rw [BitVec.getLsbD, value]
  cases r.radius.isSome <;> simp [Nat.testBit_zero]

theorem getSegmentEnd_payload {r : SegmentReq} (wf : r.wf = true) (make : Option Half → List Byte → SegmentReq) :
    getSegmentEnd make (segmentFlags r :: (optBytes halfBytes r.radius ++ r.tags)) = some (.segment (make r.radius r.tags)) := by
  obtain ⟨flags, radius⟩ := segmentFlags_eq wf
  have few : r.tags.length ≤ 2 := by simpa [SegmentReq.wf] using wf
  have known : ¬ 6 ≤ (segmentFlags r).toNat := by
    rw [flags]
    split <;> omega
  have count : (segmentFlags r).toNat / 2 = r.tags.length := by
    rw [flags]
    split <;> omega
  have radiusReads := getIf_optBytes (get := getHalf) (rest := r.tags) (fun v => getHalf_halfBytes v r.tags) r.radius
  unfold getSegmentEnd
  rw [getByte_cons]
  simp only [Option.bind_eq_bind, Option.bind_some, known, if_false, radius, radiusReads, count, getBytes_end, atEnd,
    List.isEmpty_nil, if_true]

theorem getSegment_payload {r : SegmentReq} (wf : r.wf = true) : getSegment (segmentPayload r) = some (.segment r) := by
  simp only [getSegment, segmentPayload, getHalf_halfBytes, getByte_cons, getPoint_pointBytes, Option.bind_eq_bind,
    Option.bind_some, getSegmentEnd_payload wf]

theorem getBlockLoad_payload {layers : List LayerReq} {label : Option Long} (fits : blockLoadFits layers label = true) :
    getBlockLoad (blockLoadPayload layers label) = some (.blockLoad layers label) := by
  have few : layers.length < 256 := by
    have fits : 3 + 3 * layers.length + (if label.isSome then 4 else 0) ≤ 250 := by simpa [blockLoadFits] using fits
    omega
  have labelReads := getIf_optBytes (get := getLong) (rest := []) (fun v => getLong_longBytes v []) label
  rw [List.append_nil] at labelReads
  simp [getBlockLoad, blockLoadPayload, Nat.mod_eq_of_lt few, getPresence_presence, labelReads, atEnd]

theorem getCutSet_payload (sel : Byte) (p : CutReq) : getCutSet (cutSetPayload sel p) = some (.cutSet sel p) := by
  simp [getCutSet, cutSetPayload, atEnd]

theorem getBladeSet_payload {p : BladeReq} (sel : Byte) (wf : p.wf = true) :
    getBladeSet (bladeSetPayload sel p) = some (.bladeSet sel p) := by
  have size : p.ramp.length = 8 := by simpa [BladeReq.wf] using wf
  simp [getBladeSet, bladeSetPayload, atEnd, getBytes_of_length size]

theorem getPieceDeclare_payload (p : PieceReq) : getPieceDeclare (pieceDeclarePayload p) = some (.pieceDeclare p) := by
  have label := getIf_optBytes (get := getHalf) (rest := []) (fun v => getHalf_halfBytes v []) p.label
  rw [List.append_nil] at label
  simp [getPieceDeclare, pieceDeclarePayload, getPresence_presence, label, atEnd]

/-- The payload of a well-formed request reads back as the request (11.2, 11.3). -/
theorem getRequest_payload {r : Request} (wf : r.wf = true) {payload : List Byte} (bytes : requestPayload r = some payload) :
    getRequest (requestCode r) payload = some r := by
  cases r with
  | zoneSet | guardSet => cases bytes
  | pieceRead id => cases bytes; cases id <;> rfl
  | segment r => cases bytes; exact getSegment_payload wf
  | blockLoad layers label => cases bytes; exact getBlockLoad_payload wf
  | cutSet sel p => cases bytes; exact getCutSet_payload sel p
  | bladeSet sel p => cases bytes; exact getBladeSet_payload sel wf
  | pieceDeclare p => cases bytes; exact getPieceDeclare_payload p
  | done n => cases bytes; exact (getRequest_done _).trans (by simp [getDone, atEnd])
  | openJob a b => cases bytes; exact (getRequest_open _).trans (by simp [getOpen, atEnd, getPoint_end])
  | bedSet n a b => cases bytes; exact (getRequest_bedSet _).trans (by simp [getBedSet, atEnd, getPoint_end])
  | release head p => cases bytes; exact (getRequest_release _).trans (by simp [getRelease, atEnd, getPoint_end])
  | _ => cases bytes; rfl

/-- The body of a well-formed request parses as the request (R161). -/
theorem parse_body {r : Request} (wf : r.wf = true) {body : List Byte} (bytes : requestBody r = some body) :
    parse body = .request r := by
  unfold requestBody at bytes
  obtain ⟨payload, e, rfl⟩ := Option.map_eq_some_iff.mp bytes
  exact parse_of_getRequest (requestCode_known r) (getRequest_payload wf e)

theorem requestBody_eq_none_iff (r : Request) : requestBody r = none ↔ requestCode r ∈ [0x2A, 0x2C] := by
  cases r <;> simp [requestBody, requestPayload, requestCode]

/-! ### The bytes of replies -/

theorem foldr_bits (b : Bool) (n : Nat) : ((if b = true then 1 else 0) + 2 * n : Nat) = bitValue b 0 + 2 * n := by
  cases b <;> rfl

theorem bitValue_eq (b : Bool) (place : Nat) : bitValue b place = 2 ^ place * bitValue b 0 := by
  cases b <;> simp [bitValue]

theorem HoldSet.byte_eq (v : HoldSet) :
    v.byte = BitVec.ofNat 8 (bitValue v.noJob 0 + bitValue v.outOfService 1 + bitValue v.cellHold 2 + bitValue v.blade 3 +
      bitValue v.zone 4 + bitValue v.overdue 5) := by
  unfold HoldSet.byte bitsToByte
  refine congrArg (BitVec.ofNat 8) ?_
  simp only [List.foldr, foldr_bits, bitValue_eq _ 1, bitValue_eq _ 2, bitValue_eq _ 3, bitValue_eq _ 4, bitValue_eq _ 5]
  omega

theorem AttSet.byte_eq (a : AttSet) :
    a.byte = BitVec.ofNat 8 (bitValue a.waitCleared 0 + bitValue a.holdChanged 1 + bitValue a.bladeFault 2 +
      bitValue a.headSuspended 3 + bitValue a.zoneFault 4 + bitValue a.pieceSevered 5 + bitValue a.restarted 6) := by
  unfold AttSet.byte bitsToByte
  refine congrArg (BitVec.ofNat 8) ?_
  simp only [List.foldr, foldr_bits, bitValue_eq _ 1, bitValue_eq _ 2, bitValue_eq _ 3, bitValue_eq _ 4, bitValue_eq _ 5,
    bitValue_eq _ 6]
  omega

theorem WaitSet.byte_eq (w : WaitSet) :
    w.byte = BitVec.ofNat 8 (bitValue w.queueEmpty 0 + bitValue w.windowFull 1 + bitValue w.headHeld 2 +
      bitValue w.clearance 3 + bitValue w.bladeNotReady 4 + bitValue w.zonesSettling 5 + bitValue w.zoneBudget 6 +
      bitValue w.zoneFaulted 7) := by
  unfold WaitSet.byte bitsToByte
  refine congrArg (BitVec.ofNat 8) ?_
  simp only [List.foldr, foldr_bits, bitValue_eq _ 1, bitValue_eq _ 2, bitValue_eq _ 3, bitValue_eq _ 4, bitValue_eq _ 5,
    bitValue_eq _ 6, bitValue_eq _ 7]
  omega

theorem grantFlags_eq (heavy ceiling : Bool) :
    grantFlags heavy ceiling = BitVec.ofNat 8 (bitValue heavy 0 + bitValue ceiling 1) := by
  cases heavy <;> cases ceiling <;> rfl

theorem WinEntry.bytes_eq (w : WinEntry) : w.bytes =
    twoBytes w.entry.seg.number ++ [w.entry.seg.kind.code] ++ twoBytes w.result.feed ++
      [BitVec.ofNat 8 (bitValue w.result.heavy 0 + bitValue w.result.ceiling 1)] ++ fourBytes w.result.expected ++
      fourBytes w.result.allowance := by
  unfold WinEntry.bytes
  rw [le16_eq, le16_eq, le32_eq, le32_eq, grantFlags_eq]

theorem Detail.bytes_eq (d : Detail) : d.bytes = match d with
    | .none => []
    | .next n => twoBytes n
    | .reference p => twoBytes p.x ++ twoBytes p.y
    | .turn delta => twoBytes delta
    | .tag id => [BitVec.ofNat 8 id]
    | .number n => [n.code]
    | .piece q => [q.code] := by
  cases d <;> simp [Detail.bytes, Point.bytes, le16_eq, byteOf]

theorem labelBytes_long_some (x : Long) : labelBytes longBytes (some x) = 1 :: fourBytes x.toNat :=
  congrArg (1 :: ·) (longBytes_eq x)

theorem labelBytes_half_some (x : Half) : labelBytes halfBytes (some x) = 1 :: twoBytes x.toNat :=
  congrArg (1 :: ·) (halfBytes_eq x)

/-- Settles O11: the codes and the sets byte by byte, the round trip of requests, and the drawn replies field by field. -/
theorem requestBytesReadBack : Obligations.RequestBytesReadBack := by
  unfold Obligations.RequestBytesReadBack
  refine ⟨by decide, by decide, fun v a => ⟨v.byte_eq, a.byte_eq⟩,
    fun r wf => ⟨fun body bytes => parse_body wf bytes, requestBody_eq_none_iff r⟩, fun type reply begun => ⟨?_, fun body => ?_⟩,
    fun w number next st r d c => ⟨?_, ?_, ?_, rfl⟩, fun number turn entries joint r => ⟨?_, ?_⟩, fun v => ?_, fun v => ?_,
    fun cause retained p rows => ⟨?_, ?_, ?_⟩⟩
  · simp [InFlight.frame, replyType]
  · rfl
  · rw [← w.byte_eq, ← le16_eq]
    rfl
  · rw [← le16_eq, ← le16_eq]
    rfl
  · exact congrArg (0x02 :: r.code :: ·) d.bytes_eq
  · rw [← le16_eq, ← le16_eq]
    rfl
  · simp only [← le16_eq, ← le32_eq, ← grantFlags_eq]
    rfl
  · have entries : v.window.flatMap WinEntry.bytes = _ := congrArg v.window.flatMap (funext WinEntry.bytes_eq)
    rw [← entries]
    simp only [← le16_eq, ← le32_eq]
    show 0x00 :: v.bytes = _
    simp [HeadStatus.bytes, Point.bytes, byteOf]
  · show 0x00 :: v.bytes = _
    unfold CellStatus.bytes HeadSummary.bytes
    cases v.label with
    | none => simp [le16_eq, byteOf, labelBytes, longBytes, presence]
    | some x => simp [le16_eq, byteOf, labelBytes_long_some]
  · rfl
  · show 0x00 :: p.bytes = _
    unfold Piece.bytes
    cases p.label with
    | none => simp [le16_eq, byteOf, labelBytes, halfBytes, presence]
    | some x => simp [le16_eq, byteOf, labelBytes_half_some]
  · rfl

end Sys2Proof.Machine

/-! PROOFS. The characters of a frame: what the payload of a frame reads as, and what the frame does (R158, R160, R161). -/

namespace Sys2Proof.Machine

/-! ### What a payload that reads holds -/

theorem getByte_eq_some {p : List Byte} {b : Byte} {rest : List Byte} : getByte p = some (b, rest) ↔ p = b :: rest := by
  cases p <;> simp [getByte]

/-- Bits cut from the lower of two strings joined are cut from it. -/
theorem extract_append_below {m n i k : Nat} (x : BitVec m) (y : BitVec n) (fits : i + k ≤ n) :
    (x ++ y).extractLsb' i k = y.extractLsb' i k := by
  ext j lt
  have below : i + j < n := by omega
  simp [BitVec.getLsbD_append, below]

/-- Bits cut from above the lower of two strings joined are cut from the upper. -/
theorem extract_append_above {m n : Nat} (i k : Nat) (x : BitVec m) (y : BitVec n) :
    (x ++ y).extractLsb' (n + i) k = x.extractLsb' i k := by
  ext j lt
  have above : ¬ n + i + j < n := by omega
  have place : n + i + j - n = i + j := by omega
  simp [BitVec.getLsbD_append, above, place]

theorem extract_all {n : Nat} (x : BitVec n) : x.extractLsb' 0 n = x := by
  ext j lt
  simp

theorem extract_low {m n : Nat} (x : BitVec m) (y : BitVec n) : (x ++ y).extractLsb' 0 n = y :=
  (extract_append_below x y (Nat.le_of_eq (Nat.zero_add n))).trans (extract_all y)

theorem extract_high {m n : Nat} (x : BitVec m) (y : BitVec n) : (x ++ y).extractLsb' n m = x :=
  (extract_append_above 0 m x y).trans (extract_all x)

theorem halfBytes_halfOf (lo hi : Byte) : halfBytes (halfOf lo hi) = [lo, hi] :=
  congrArg₂ (fun x y => [x, y]) (extract_low hi lo) (extract_high hi lo)

theorem longBytes_longOf (b0 b1 b2 b3 : Byte) : longBytes (longOf b0 b1 b2 b3) = [b0, b1, b2, b3] := by
  have byte0 : (longOf b0 b1 b2 b3).extractLsb' 0 8 = b0 :=
    (extract_append_below (b3 ++ b2) (b1 ++ b0) (by decide)).trans (extract_low b1 b0)
  have byte1 : (longOf b0 b1 b2 b3).extractLsb' 8 8 = b1 :=
    (extract_append_below (b3 ++ b2) (b1 ++ b0) (by decide)).trans (extract_high b1 b0)
  have byte2 : (longOf b0 b1 b2 b3).extractLsb' 16 8 = b2 :=
    (extract_append_above 0 8 (b3 ++ b2) (b1 ++ b0)).trans (extract_low b3 b2)
  have byte3 : (longOf b0 b1 b2 b3).extractLsb' 24 8 = b3 :=
    (extract_append_above 8 8 (b3 ++ b2) (b1 ++ b0)).trans (extract_high b3 b2)
  unfold longBytes
  rw [byte0, byte1, byte2, byte3]

theorem getHalf_eq_some {p : List Byte} {v : Half} {rest : List Byte} :
    getHalf p = some (v, rest) ↔ p = halfBytes v ++ rest := by
  refine ⟨fun reads => ?_, fun e => by rw [e, getHalf_halfBytes]⟩
  match p, reads with
  | lo :: hi :: tail, reads =>
    cases reads
    rw [halfBytes_halfOf]
    rfl

theorem getLong_eq_some {p : List Byte} {v : Long} {rest : List Byte} :
    getLong p = some (v, rest) ↔ p = longBytes v ++ rest := by
  refine ⟨fun reads => ?_, fun e => by rw [e, getLong_longBytes]⟩
  match p, reads with
  | b0 :: b1 :: b2 :: b3 :: tail, reads =>
    cases reads
    rw [longBytes_longOf]
    rfl

theorem getPoint_eq_some {p : List Byte} {v : PointReq} {rest : List Byte} :
    getPoint p = some (v, rest) ↔ p = pointBytes v ++ rest := by
  refine ⟨fun reads => ?_, fun e => by rw [e, getPoint_pointBytes]⟩
  simp only [getPoint, Option.bind_eq_bind, Option.bind_eq_some_iff, Prod.exists, getHalf_eq_some] at reads
  obtain ⟨x, _, rfl, y, _, rfl, e⟩ := reads
  cases e
  simp [pointBytes]

theorem getBytes_eq_some {n : Nat} {p bs rest : List Byte} (reads : getBytes n p = some (bs, rest)) :
    p = bs ++ rest ∧ bs.length = n := by
  induction n generalizing p bs with
  | zero => cases reads; exact ⟨rfl, rfl⟩
  | succ n ih =>
    simp only [getBytes, Option.bind_eq_bind, Option.bind_eq_some_iff, Prod.exists, getByte_eq_some] at reads
    obtain ⟨b, _, rfl, bs, q, more, e⟩ := reads
    cases e
    obtain ⟨rfl, rfl⟩ := ih more
    exact ⟨rfl, rfl⟩

theorem getLayers_eq_some {n : Nat} {p rest : List Byte} {ls : List LayerReq} (reads : getLayers n p = some (ls, rest)) :
    p = ls.flatMap layerBytes ++ rest ∧ ls.length = n := by
  induction n generalizing p ls with
  | zero => cases reads; exact ⟨rfl, rfl⟩
  | succ n ih =>
    simp only [getLayers, Option.bind_eq_bind, Option.bind_eq_some_iff, Prod.exists, getByte_eq_some, getHalf_eq_some] at reads
    obtain ⟨t, _, rfl, c, _, rfl, ls, q, more, e⟩ := reads
    cases e
    obtain ⟨rfl, rfl⟩ := ih more
    exact ⟨by simp [layerBytes], rfl⟩

/-- A field behind its presence: the presence byte of the value read, and its bytes. -/
theorem getPresence_getIf {α : Type} {get : List Byte → Option (α × List Byte)} {bytes : α → List Byte}
    (inverse : ∀ {p v rest}, get p = some (v, rest) → p = bytes v ++ rest) {p q rest : List Byte} {present : Bool} {v : Option α}
    (presence' : getPresence p = some (present, q)) (value : getIf present get q = some (v, rest)) :
    p = presence v :: (optBytes bytes v ++ rest) := by
  simp only [getPresence, Option.bind_eq_bind, Option.bind_eq_some_iff, Prod.exists, getByte_eq_some] at presence'
  obtain ⟨b, q', rfl, word⟩ := presence'
  split at word
  · next zero =>
    cases word
    cases value
    rw [zero]
    rfl
  · split at word
    · next one =>
      cases word
      obtain ⟨⟨x, q''⟩, reads, e⟩ := Option.map_eq_some_iff.mp value
      cases e
      rw [one, inverse reads]
      rfl
    · cases word

theorem atEnd_eq_some {p : List Byte} {r r' : Request} : atEnd p r = some r' ↔ p = [] ∧ r = r' := by
  cases p <;> simp [atEnd]

theorem requestBody_of_payload {r : Request} {payload : List Byte} (bytes : requestPayload r = some payload) :
    requestBody r = some (requestCode r :: payload) := by
  simp [requestBody, bytes]

/-- A body with its length in the table is no misfit. -/
theorem not_misfit_of_length {type : Byte} {payload : List Byte} {n : Nat} (table : tableLength type = some (n + 1))
    (size : payload.length = n) : ¬ Misfit type payload := by
  unfold Misfit
  rw [table, size]
  exact fun differs => differs rfl

/-- The body of a well-formed request is no misfit. -/
theorem not_misfit_of_request {r : Request} {payload : List Byte} (table : tableLength (requestCode r) = none)
    (wf : r.wf = true) (bytes : requestPayload r = some payload) : ¬ Misfit (requestCode r) payload := by
  unfold Misfit
  rw [table]
  exact fun none => none r wf (requestBody_of_payload bytes)

theorem getPieceRead_fits {payload : List Byte} {r : Request} (reads : getPieceRead payload = some r) :
    ¬ Misfit 0x04 payload := by
  match payload, reads with
  | [], _ => exact not_misfit_of_request (r := .pieceRead none) rfl rfl rfl
  | [id], _ => exact not_misfit_of_request (r := .pieceRead (some id)) rfl rfl rfl

/-- What follows the fields of SEGMENT that are always there (11.3). -/
theorem getSegmentEnd_eq_some {make : Option Half → List Byte → SegmentReq} {p : List Byte} {r : Request}
    (keeps : ∀ radius tags, (make radius tags).radius = radius ∧ (make radius tags).tags = tags)
    (reads : getSegmentEnd make p = some r) :
    ∃ radius tags, (make radius tags).wf = true ∧
      p = segmentFlags (make radius tags) :: (optBytes halfBytes radius ++ tags) := by
  obtain ⟨⟨flags, q⟩, byte, fields⟩ := Option.bind_eq_some_iff.mp reads
  obtain rfl := getByte_eq_some.mp byte
  dsimp only at fields
  split at fields
  · cases fields
  · next few =>
    obtain ⟨⟨radius, tail⟩, value, last⟩ := Option.bind_eq_some_iff.mp fields
    obtain ⟨⟨tags, rest⟩, taken, done⟩ := Option.bind_eq_some_iff.mp last
    obtain ⟨rfl, -⟩ := atEnd_eq_some.mp done
    obtain ⟨rfl, size⟩ := getBytes_eq_some taken
    obtain ⟨hasRadius, hasTags⟩ := keeps radius tags
    have odd : flags.getLsbD 0 = decide (flags.toNat % 2 = 1) := Nat.testBit_zero _
    have tail : q = optBytes halfBytes radius ++ (tags ++ []) ∧ radius.isSome = flags.getLsbD 0 := by
      unfold getIf at value
      split at value
      · next set =>
        obtain ⟨⟨x, q'⟩, half, e⟩ := Option.map_eq_some_iff.mp value
        cases e
        exact ⟨getHalf_eq_some.mp half, set.symm⟩
      · next clear =>
        cases value
        exact ⟨rfl, (Bool.eq_false_iff.mpr clear).symm⟩
    obtain ⟨rfl, present⟩ := tail
    refine ⟨radius, tags, ?_, ?_⟩
    · unfold SegmentReq.wf
      rw [hasTags]
      exact decide_eq_true (by omega)
    · rw [List.append_nil]
      refine congrArg (· :: _) (BitVec.eq_of_toNat_eq ?_)
      unfold segmentFlags
      rw [hasRadius, hasTags, present, odd, size, BitVec.toNat_ofNat]
      simp only [decide_eq_true_eq]
      split <;> omega

theorem getSegment_fits {payload : List Byte} {r : Request} (reads : getSegment payload = some r) :
    ¬ Misfit 0x10 payload := by
  obtain ⟨⟨number, _⟩, h, reads⟩ := Option.bind_eq_some_iff.mp reads
  obtain rfl := getHalf_eq_some.mp h
  obtain ⟨⟨kind, _⟩, h, reads⟩ := Option.bind_eq_some_iff.mp reads
  obtain rfl := getByte_eq_some.mp h
  obtain ⟨⟨first, _⟩, h, reads⟩ := Option.bind_eq_some_iff.mp reads
  obtain rfl := getPoint_eq_some.mp h
  obtain ⟨⟨last, _⟩, h, reads⟩ := Option.bind_eq_some_iff.mp reads
  obtain rfl := getPoint_eq_some.mp h
  obtain ⟨⟨xlo, _⟩, h, reads⟩ := Option.bind_eq_some_iff.mp reads
  obtain rfl := getHalf_eq_some.mp h
  obtain ⟨⟨xhi, _⟩, h, reads⟩ := Option.bind_eq_some_iff.mp reads
  obtain rfl := getHalf_eq_some.mp h
  obtain ⟨⟨entry, _⟩, h, reads⟩ := Option.bind_eq_some_iff.mp reads
  obtain rfl := getHalf_eq_some.mp h
  obtain ⟨⟨exit, _⟩, h, reads⟩ := Option.bind_eq_some_iff.mp reads
  obtain rfl := getHalf_eq_some.mp h
  obtain ⟨⟨length, _⟩, h, reads⟩ := Option.bind_eq_some_iff.mp reads
  obtain rfl := getHalf_eq_some.mp h
  obtain ⟨radius, tags, wf, rfl⟩ := getSegmentEnd_eq_some (fun _ _ => ⟨rfl, rfl⟩) reads
  exact not_misfit_of_request (r := .segment ⟨number, kind, first, last, xlo, xhi, entry, exit, length, radius, tags⟩) rfl wf rfl

theorem blockLoadPayload_length (layers : List LayerReq) (label : Option Long) :
    (blockLoadPayload layers label).length = 2 + 3 * layers.length + if label.isSome then 4 else 0 := by
  have each : (fun l => (layerBytes l).length) = fun _ => 3 := rfl
  have bytes : (layers.flatMap layerBytes).length = 3 * layers.length := by
    rw [List.length_flatMap, each]
    simp [Nat.mul_comm]
  have tail : (optBytes longBytes label).length = if label.isSome then 4 else 0 := by cases label <;> rfl
  simp only [blockLoadPayload, List.length_cons, List.length_append, bytes, tail]
  omega

theorem getBlockLoad_fits {payload : List Byte} {r : Request} (small : payload.length + 1 ≤ 250)
    (reads : getBlockLoad payload = some r) : ¬ Misfit 0x20 payload := by
  obtain ⟨⟨n, _⟩, byte, fields⟩ := Option.bind_eq_some_iff.mp reads
  obtain ⟨⟨layers, _⟩, taken, more⟩ := Option.bind_eq_some_iff.mp fields
  obtain ⟨⟨present, _⟩, word, last⟩ := Option.bind_eq_some_iff.mp more
  obtain ⟨⟨label, _⟩, value, done⟩ := Option.bind_eq_some_iff.mp last
  obtain ⟨rfl, -⟩ := atEnd_eq_some.mp done
  obtain rfl := getPresence_getIf (bytes := longBytes) getLong_eq_some.mp word value
  obtain ⟨rfl, size⟩ := getLayers_eq_some taken
  obtain rfl := getByte_eq_some.mp byte
  have count : n = BitVec.ofNat 8 layers.length := by
    rw [size]
    simp
  have payload : blockLoadPayload layers label = n :: (layers.flatMap layerBytes ++ (presence label :: (optBytes longBytes label ++ []))) := by
    rw [blockLoadPayload, ← count, List.append_nil]
  rw [← payload] at small ⊢
  rw [blockLoadPayload_length] at small
  exact not_misfit_of_request (r := .blockLoad layers label) rfl (decide_eq_true (by omega)) rfl

theorem getPieceDeclare_fits {payload : List Byte} {r : Request} (reads : getPieceDeclare payload = some r) :
    ¬ Misfit 0x30 payload := by
  simp only [getPieceDeclare, Option.bind_eq_bind, Option.bind_eq_some_iff, Prod.exists, getByte_eq_some, getHalf_eq_some,
    atEnd_eq_some] at reads
  obtain ⟨id, _, rfl, edges, _, rfl, lo, _, rfl, hi, _, rfl, present, _, word, label, _, value, rfl, rfl⟩ := reads
  have tail := getPresence_getIf (bytes := halfBytes) getHalf_eq_some.mp word value
  refine not_misfit_of_request (r := .pieceDeclare ⟨id, edges, lo, hi, label⟩) rfl rfl ?_
  simp [requestPayload, pieceDeclarePayload, tail]

/-- A field of so many bytes. -/
def Takes {α : Type} (n : Nat) (get : List Byte → Option (α × List Byte)) : Prop :=
  ∀ p v q, get p = some (v, q) → p.length = q.length + n

/-- A payload of so many bytes. -/
def Spans (n : Nat) (get : List Byte → Option Request) : Prop := ∀ p r, get p = some r → p.length = n

theorem takes_byte : Takes 1 getByte := fun p v q e => by rw [getByte_eq_some.mp e]; rfl

theorem takes_half : Takes 2 getHalf := fun p v q e => by rw [getHalf_eq_some.mp e]; rfl

theorem takes_point : Takes 4 getPoint := fun p v q e => by rw [getPoint_eq_some.mp e]; rfl

theorem takes_bytes (n : Nat) : Takes n (getBytes n) := fun p v q e => by
  obtain ⟨rfl, rfl⟩ := getBytes_eq_some e
  rw [List.length_append, Nat.add_comm]

theorem spans_atEnd (r : Request) : Spans 0 fun p => atEnd p r := fun p r' e => by
  rw [(atEnd_eq_some.mp e).1]
  rfl

/-- A field, and what follows it. -/
theorem Takes.spans {α : Type} {n m : Nat} {get : List Byte → Option (α × List Byte)} (takes : Takes n get)
    {rest : α × List Byte → Option Request} (more : ∀ v, Spans m fun q => rest (v, q)) :
    Spans (m + n) fun p => get p >>= rest := fun p r e => by
  obtain ⟨⟨v, q⟩, field, e⟩ := Option.bind_eq_some_iff.mp e
  rw [takes p v q field, more v q r e]

theorem spans_getOne (make : Byte → Request) : Spans 1 (getOne make) := takes_byte.spans fun _ => spans_atEnd _

theorem spans_getTwo (make : Byte → Byte → Request) : Spans 2 (getTwo make) :=
  takes_byte.spans fun _ => takes_byte.spans fun _ => spans_atEnd _

theorem spans_getDone : Spans 2 getDone := takes_half.spans fun _ => spans_atEnd _

theorem spans_getOpen : Spans 8 getOpen := takes_point.spans fun _ => takes_point.spans fun _ => spans_atEnd _

theorem spans_getRelease : Spans 5 getRelease := takes_byte.spans fun _ => takes_point.spans fun _ => spans_atEnd _

theorem spans_getBedSet : Spans 10 getBedSet :=
  takes_half.spans fun _ => takes_point.spans fun _ => takes_point.spans fun _ => spans_atEnd _

theorem spans_getZoneSet : Spans 6 getZoneSet := by
  unfold getZoneSet
  refine takes_byte.spans fun _ => ?_
  refine takes_half.spans fun _ => ?_
  refine takes_byte.spans fun _ => ?_
  refine takes_half.spans fun _ => ?_
  exact spans_atEnd _

theorem spans_getCutSet : Spans 18 getCutSet := by
  unfold getCutSet
  refine takes_byte.spans fun _ => ?_
  refine takes_half.spans fun _ => ?_
  refine takes_half.spans fun _ => ?_
  refine takes_half.spans fun _ => ?_
  refine takes_half.spans fun _ => ?_
  refine takes_half.spans fun _ => ?_
  refine takes_half.spans fun _ => ?_
  refine takes_half.spans fun _ => ?_
  refine takes_byte.spans fun _ => ?_
  refine takes_half.spans fun _ => ?_
  exact spans_atEnd _

theorem spans_getBladeSet : Spans 23 getBladeSet := by
  unfold getBladeSet
  refine takes_byte.spans fun _ => ?_
  refine takes_half.spans fun _ => ?_
  refine takes_half.spans fun _ => ?_
  refine (takes_bytes 8).spans fun _ => ?_
  refine takes_byte.spans fun _ => ?_
  refine takes_byte.spans fun _ => ?_
  refine takes_half.spans fun _ => ?_
  refine takes_half.spans fun _ => ?_
  refine takes_half.spans fun _ => ?_
  refine takes_half.spans fun _ => ?_
  exact spans_atEnd _

theorem spans_getGuardSet : Spans 21 getGuardSet := by
  unfold getGuardSet
  refine takes_byte.spans fun _ => ?_
  refine takes_byte.spans fun _ => ?_
  refine takes_byte.spans fun _ => ?_
  refine takes_byte.spans fun _ => ?_
  refine takes_byte.spans fun _ => ?_
  refine takes_byte.spans fun _ => ?_
  refine takes_byte.spans fun _ => ?_
  refine takes_half.spans fun _ => ?_
  refine takes_byte.spans fun _ => ?_
  refine takes_half.spans fun _ => ?_
  refine takes_half.spans fun _ => ?_
  refine takes_byte.spans fun _ => ?_
  refine takes_byte.spans fun _ => ?_
  refine takes_byte.spans fun _ => ?_
  refine takes_half.spans fun _ => ?_
  refine takes_byte.spans fun _ => ?_
  refine takes_byte.spans fun _ => ?_
  exact spans_atEnd _

/-- A payload that reads as a request of a known type is no misfit (R161). -/
theorem getRequest_fits {type : Byte} {payload : List Byte} {r : Request} (known : type ∈ requestCodes)
    (small : payload.length + 1 ≤ 250) (reads : getRequest type payload = some r) : ¬ Misfit type payload := by
  have fixed {n : Nat} {get : List Byte → Option Request} (spans : Spans n get) (table : tableLength type = some (n + 1))
      (same : getRequest type = get) : ¬ Misfit type payload :=
    not_misfit_of_length table (spans payload r (same ▸ reads))
  unfold requestCodes at known
  simp only [List.mem_cons, List.not_mem_nil, or_false] at known
  rcases known with rfl | rfl | rfl | rfl | rfl | rfl | rfl | rfl | rfl | rfl | rfl | rfl | rfl | rfl | rfl | rfl | rfl | rfl |
    rfl | rfl | rfl | rfl | rfl | rfl | rfl | rfl | rfl | rfl
  · exact fixed (spans_atEnd .status) rfl rfl
  · exact fixed (spans_atEnd .ident) rfl rfl
  · exact fixed (spans_getOne .headRead) rfl rfl
  · exact getPieceRead_fits reads
  · exact getSegment_fits reads
  · exact fixed (spans_atEnd .flush) rfl rfl
  · exact fixed (spans_atEnd .grant) rfl rfl
  · exact fixed spans_getDone rfl rfl
  · exact getBlockLoad_fits small reads
  · exact fixed spans_getOpen rfl rfl
  · exact fixed (spans_atEnd .close) rfl rfl
  · exact fixed (spans_atEnd .abort) rfl rfl
  · exact fixed (spans_getTwo .classSet) rfl rfl
  · exact fixed spans_getCutSet rfl rfl
  · exact fixed spans_getBedSet rfl rfl
  · exact fixed spans_getZoneSet rfl rfl
  · exact fixed spans_getBladeSet rfl rfl
  · exact fixed spans_getGuardSet rfl rfl
  · exact getPieceDeclare_fits reads
  · exact fixed (spans_getOne .take) rfl rfl
  · exact fixed spans_getRelease rfl rfl
  · exact fixed (spans_getOne .hold) rfl rfl
  · exact fixed (spans_getOne .resume) rfl rfl
  · exact fixed (spans_getTwo .service) rfl rfl
  · exact fixed (spans_getOne .faultClear) rfl rfl
  · exact fixed (spans_getOne .zoneClear) rfl rfl
  · exact fixed (spans_atEnd .zoneRead) rfl rfl
  · exact fixed (spans_atEnd .reset) rfl rfl


/-! ### The characters of a frame, one after the other -/

/-- State s while characters arrive on link l: its assembly, and the characters to come. -/
def State.fed (s : State) (l : LinkId) (asm : Assembly) (rest : List Byte) : State :=
  { s.setLink l { s.link l with asm := asm } with pending := rest.map (Instr.characterReceived l) }

theorem State.fed_done {s : State} {l : LinkId} (empty : s.pending = []) (asm : Assembly) :
    s.fed l asm [] = s.setLink l { s.link l with asm := asm } := by
  have same : (s.setLink l { s.link l with asm := asm }).pending = [] := by simp [empty]
  unfold State.fed
  rw [List.map_nil, ← same]

theorem State.fed_link (s : State) (l : LinkId) (asm : Assembly) (rest : List Byte) :
    (s.fed l asm rest).link l = { s.link l with asm := asm } :=
  s.link_setLink_self l _

theorem State.fed_receives {s : State} {l : LinkId} (receives : s.receives l = true) (asm : Assembly) (rest : List Byte) :
    (s.fed l asm rest).receives l = true := by
  rw [← receives]
  unfold State.receives
  rw [State.fed_link]
  rfl

theorem State.fed_setLink (s : State) (l : LinkId) (asm : Assembly) (rest : List Byte) (k : Link) :
    (s.fed l asm rest).setLink l k = { s.setLink l k with pending := rest.map (Instr.characterReceived l) } :=
  congrArg (fun t : State => { t with pending := rest.map (Instr.characterReceived l) }) (s.setLink_setLink l _ k)

theorem State.step_fed (s : State) (l : LinkId) (asm : Assembly) (c : Byte) (rest : List Byte) :
    step (s.fed l asm (c :: rest)) = .next ((s.fed l asm rest).character l c) := rfl

/-- A character that completes no frame moves the assembly on. -/
theorem runFor_fed {s : State} {l : LinkId} (receives : s.receives l = true) {asm next : Assembly} {c : Byte}
    (moves : asm.receive c = (next, none)) (n : Nat) (rest : List Byte) :
    runFor (n + 1) (s.fed l asm (c :: rest)) = runFor n (s.fed l next rest) := by
  have character : (s.fed l asm rest).character l c = s.fed l next rest := by
    unfold State.character
    rw [if_pos (s.fed_receives receives asm rest), State.fed_link]
    dsimp only
    rw [moves, State.fed_setLink]
    rfl
  rw [runFor, State.step_fed, character]

/-- The last character of a frame whose check passes brings it before the tests of R161. -/
theorem runFor_fed_last {s : State} {l : LinkId} (empty : s.pending = []) (receives : s.receives l = true)
    {asm : Assembly} {c : Byte} {bytes : List Byte} (completes : (asm.receive c).2 = some bytes)
    (checks : frameChecks bytes = true) :
    runFor 1 (s.fed l asm [c]) = .next (s.dispatch l (frameBody bytes)) := by
  have character : (s.fed l asm []).character l c = s.dispatch l (frameBody bytes) := by
    unfold State.character
    rw [if_pos (s.fed_receives receives asm []), State.fed_link]
    dsimp only
    rw [Assembly.receive_complete completes, completes, s.fed_done empty, State.setLink_setLink]
    exact (if_pos checks).trans (State.dispatch_toLead receives _)
  rw [runFor, State.step_fed, character]
  rfl

/-- The characters counted by a length byte are gathered. -/
theorem runFor_gather {s : State} {l : LinkId} (receives : s.receives l = true) {len : Byte} (n : Nat) (rest : List Byte) :
    ∀ bytes got : List Byte, got.length + bytes.length < len.toNat + 2 →
      runFor (bytes.length + n) (s.fed l (.gather len got) (bytes ++ rest)) = runFor n (s.fed l (.gather len (got ++ bytes)) rest)
  | [], got, _ => by simp
  | c :: bytes, got, room => by
    rw [List.length_cons] at room
    have moves : (Assembly.gather len got).receive c = (.gather len (got ++ [c]), none) := if_pos (by omega)
    have more : (got ++ [c]).length + bytes.length < len.toNat + 2 := by
      simp only [List.length_append, List.length_cons, List.length_nil]
      omega
    rw [List.length_cons, Nat.add_right_comm, List.cons_append, runFor_fed receives moves, runFor_gather receives n rest bytes _ more,
      List.append_assoc, List.singleton_append]

/-- A frame's check passes over its own length, type and payload bytes. -/
theorem frameChecks_of (counted : List Byte) : frameChecks (counted ++ halfBytes (crc16 counted)) = true := by
  simp [frameChecks]

theorem frameBody_of (len : Byte) (body : List Byte) (v : Half) : frameBody (len :: body ++ halfBytes v) = body := by
  simp [frameBody]

/-- The characters of a frame bring its type and payload before the tests of R161 (R158). -/
theorem afterFrame_eq {s : State} {l : LinkId} (empty : s.pending = []) (receives : s.receives l = true)
    (looks : (s.link l).asm = .lead) {body : List Byte} (holds : body ≠ []) (small : body.length ≤ 250) :
    s.afterFrame l body = .next (s.dispatch l body) := by
  generalize lenIs : byteOf body.length = len
  have count : len.toNat = body.length := by
    rw [← lenIs]
    simp only [byteOf, BitVec.toNat_ofNat]
    omega
  have positive : 0 < body.length := List.length_pos_iff.mpr holds
  have start : { s with pending := (frameOf body).map (Instr.characterReceived l) } = s.fed l .lead (frameOf body) := by
    have same : s.setLink l { s.link l with asm := .lead } = s := by
      rw [← looks]
      obtain (_ | _) | _ := l <;> rfl
    unfold State.fed
    rw [same]
  have lead : Assembly.lead.receive Config.leadByte = (.length, none) := rfl
  have length : Assembly.length.receive len = (.gather len [], none) := by
    have fits : ¬ (len = 0 ∨ 250 < len.toNat) := by
      rintro (none | long)
      · rw [none] at count
        simp at count
        omega
      · omega
    unfold Assembly.receive
    rw [if_neg fits]
  generalize crcIs : crc16 (len :: body) = crc
  have frame : frameOf body = Config.leadByte :: len :: ((body ++ [crc.extractLsb' 0 8]) ++ [crc.extractLsb' 8 8]) := by
    rw [frameOf, lenIs, crcIs, List.append_assoc]
    rfl
  have size : (frameOf body).length = (body ++ [crc.extractLsb' 0 8]).length + 1 + 1 + 1 := by
    rw [frame]
    simp
  have last : (len :: (([] ++ (body ++ [crc.extractLsb' 0 8])) ++ [crc.extractLsb' 8 8])) = len :: body ++ halfBytes crc := by
    simp [halfBytes]
  have completes : ((Assembly.gather len ([] ++ (body ++ [crc.extractLsb' 0 8]))).receive (crc.extractLsb' 8 8)).2 =
      some (len :: body ++ halfBytes crc) := by
    have full : ¬ ([] ++ (body ++ [crc.extractLsb' 0 8])).length + 1 < len.toNat + 2 := by
      simp only [List.nil_append, List.length_append, List.length_cons, List.length_nil]
      omega
    rw [← last]
    exact congrArg Prod.snd (if_neg full)
  unfold State.afterFrame
  rw [start, size, frame, runFor_fed receives lead, runFor_fed receives length,
    runFor_gather receives 1 _ _ _ (by simp; omega),
    runFor_fed_last empty receives completes (crcIs ▸ frameChecks_of (len :: body)), frameBody_of]

/-- A well-formed request fits in a frame. -/
theorem requestPayload_small {r : Request} (wf : r.wf = true) {payload : List Byte} (bytes : requestPayload r = some payload) :
    payload.length + 1 ≤ 250 := by
  cases r with
  | zoneSet | guardSet => cases bytes
  | segment r =>
    cases bytes
    have tags := of_decide_eq_true wf
    have radius : (optBytes halfBytes r.radius).length ≤ 2 := by cases r.radius <;> simp [optBytes]
    simp only [segmentPayload, pointBytes, List.length_append, List.length_cons, halfBytes_length]
    omega
  | blockLoad layers label =>
    cases bytes
    have fits := of_decide_eq_true wf
    rw [blockLoadPayload_length]
    omega
  | cutSet sel p =>
    rw [spans_getCutSet payload _ (getRequest_payload wf bytes)]
    decide
  | bladeSet sel p =>
    rw [spans_getBladeSet payload _ (getRequest_payload wf bytes)]
    decide
  | pieceRead id => cases bytes; cases id <;> simp
  | pieceDeclare r =>
    cases bytes
    have label : (optBytes halfBytes r.label).length ≤ 2 := by cases r.label <;> simp [optBytes]
    simp only [pieceDeclarePayload, List.length_append, List.length_cons, halfBytes_length]
    omega
  | _ => cases bytes; simp

theorem requestBody_small {r : Request} (wf : r.wf = true) {body : List Byte} (bytes : requestBody r = some body) :
    body ≠ [] ∧ body.length ≤ 250 := by
  obtain ⟨payload, e, rfl⟩ := Option.map_eq_some_iff.mp bytes
  exact ⟨List.cons_ne_nil _ _, requestPayload_small wf e⟩

theorem parse_unknown {type : Byte} (unknown : type ∉ requestCodes) (payload : List Byte) :
    parse (type :: payload) = .unknown := by
  have other : ¬ requestCodes.contains type = true := by simpa using unknown
  exact if_neg other

theorem parse_misfit {type : Byte} {payload : List Byte} (known : type ∈ requestCodes) (small : payload.length + 1 ≤ 250)
    (misfit : Misfit type payload) : parse (type :: payload) = .malformed type := by
  have none : getRequest type payload = none :=
    Option.eq_none_iff_forall_ne_some.mpr fun r reads => getRequest_fits known small reads misfit
  simp [parse, known, none]

theorem State.receives_of_listens {s : State} {l : LinkId} (free : s.listens l = true) : s.receives l = true := by
  unfold State.listens at free
  exact (Bool.and_eq_true_iff.mp free).1

/-- Settles O10: the frame is assembled and checked, then judged by the tests of R161. -/
theorem frameBytesTakeTheRequest : Obligations.FrameBytesTakeTheRequest := by
  intro s l empty free looks
  have receives := State.receives_of_listens free
  refine ⟨fun c r body row wf bytes => ?_, fun type payload small => ⟨fun unknown => ?_, fun known misfit => ?_⟩⟩
  · obtain ⟨holds, short⟩ := requestBody_small wf bytes
    rw [afterFrame_eq empty receives looks holds short, exec_eq_effect, effect_request row, State.dispatch, parse_body wf bytes]
  · rw [afterFrame_eq empty receives looks (List.cons_ne_nil _ _) small, exec_unknownRequest unknown, State.dispatch,
      parse_unknown unknown]
    rfl
  · rw [afterFrame_eq empty receives looks (List.cons_ne_nil _ _) small, State.dispatch, parse_misfit known small misfit]
    exact congrArg _ (takeFrame_answers free _ _)

end Sys2Proof.Machine

/-! PROOFS. The settings requests: what they set and what refuses them (Chapters 1, 3, 4, 6 and 7). -/

namespace Sys2Proof.Machine

/-! ### The tables -/

theorem CutParams.inRange_iff (p : CutParams) : p.inRange = true ↔
    100 ≤ p.pMax ∧ p.pMax ≤ 4000 ∧ 20 ≤ p.pMin ∧ p.pMin ≤ 500 ∧ p.pMin ≤ p.pMax ∧ 20 ≤ p.w ∧ p.w ≤ 300 ∧ 100 ≤ p.fMax ∧
      p.fMax ≤ 12000 ∧ 100 ≤ p.fAir ∧ p.fAir ≤ 30000 ∧ p.soft ≤ 300 ∧ 300 ≤ p.maxTurn ∧ p.maxTurn ≤ 1700 ∧ 2 ≤ p.pivot ∧
      p.pivot ≤ 100 ∧ 200 ≤ p.grace ∧ p.grace ≤ 10000 := by
  simp only [CutParams.inRange, Bool.and_eq_true, within_iff, decide_eq_true_eq, Nat.zero_le, true_and, and_assoc]

theorem cutParamsOf_inRange (p : CutReq) : (cutParamsOf p).inRange = true ↔ cutInTable p := CutParams.inRange_iff _

theorem ZoneSettings.inRange_iff (z : ZoneSettings) : z.inRange = true ↔
    1 ≤ z.budget ∧ z.budget ≤ 16 ∧ 100 ≤ z.pullTimeout ∧ z.pullTimeout ≤ 5000 ∧ 5 ≤ z.deglitch ∧ z.deglitch ≤ 200 := by
  simp only [ZoneSettings.inRange, Bool.and_eq_true, within_iff, and_assoc]

theorem zoneSettingsOf_inRange (p : ZoneSetReq) : (zoneSettingsOf p).inRange = true ↔ zoneInTable p :=
  ZoneSettings.inRange_iff _

theorem BladeParams.inRange_iff (p : BladeParams) : p.inRange = true ↔
    600 ≤ p.fCut ∧ p.fCut ≤ 3000 ∧ 300 ≤ p.fIdle ∧ p.fIdle ≤ p.fCut ∧ p.ramp.length = 8 ∧ (∀ c ∈ p.ramp, c ≤ 7) ∧
      1 ≤ p.stepStrokes ∧ p.stepStrokes ≤ 64 ∧ p.settle ∈ [4, 8, 16, 32] ∧ 500 ≤ p.idleDelay ∧ p.idleDelay ≤ 30000 ∧
      5 ≤ p.stopDelay ∧ p.stopDelay ≤ 600 ∧ p.trimHigh ≤ 4095 ∧ p.trimLow < p.trimHigh := by
  simp only [BladeParams.inRange, Bool.and_eq_true, within_iff, decide_eq_true_eq, Nat.zero_le, true_and, and_assoc,
    List.all_eq_true, List.contains_iff_mem]
  have low : (p.trimLow ≤ 4095 ∧ p.trimHigh ≤ 4095 ∧ p.trimLow < p.trimHigh) ↔ (p.trimHigh ≤ 4095 ∧ p.trimLow < p.trimHigh) := by
    omega
  rw [low]

theorem bladeParamsOf_inRange (p : BladeReq) : (bladeParamsOf p).inRange = true ↔ bladeInTable p := by
  rw [BladeParams.inRange_iff, bladeInTable]
  simp only [bladeParamsOf, List.length_map, List.forall_mem_map]

theorem guard_inRange_iff (g : GuardSettings) : g.inRange = true ↔ guardInTable g := by
  have listed : retryListed g.retryLimit = true ↔ ∀ n, g.retryLimit = .upTo n → n ∈ [1, 2, 3, 5, 7, 10] := by
    cases e : g.retryLimit with
    | upTo n => simp [retryListed]
    | unlimited => simp [retryListed]
  simp only [GuardSettings.inRange, guardInTable, Bool.and_eq_true, within_iff, decide_eq_true_eq, List.contains_iff_mem, listed,
    Nat.zero_le, true_and]
  refine ⟨?_, ?_⟩
  · rintro ⟨⟨⟨⟨⟨⟨⟨⟨⟨rough, lock⟩, strokes⟩, few⟩, low⟩, time⟩, limit⟩, peak⟩, n⟩, escalation⟩
    exact ⟨rough, lock.1, lock.2, strokes.1, strokes.2, low, time.1, time.2, limit, peak.1, peak.2, n.1, n.2, escalation⟩
  · rintro ⟨rough, lock, lock', strokes, strokes', low, time, time', limit, peak, peak', n, n', escalation⟩
    exact ⟨⟨⟨⟨⟨⟨⟨⟨⟨rough, lock, lock'⟩, strokes, strokes'⟩, by omega⟩, low⟩, time, time'⟩, limit⟩, peak, peak'⟩, n, n'⟩, escalation⟩

/-! ### The selectors -/

theorem selectorOf_eq_none {sel : Byte} (other : 2 < sel.toNat) : selectorOf sel = none := by
  unfold selectorOf
  have ne (n : Byte) (small : n.toNat ≤ 2) : sel ≠ n := by
    rintro rfl
    omega
  rw [if_neg (ne 0 (by decide)), if_neg (ne 1 (by decide)), if_neg (ne 2 (by decide))]

theorem sel_cases {sel : Byte} (few : sel.toNat ≤ 2) : sel = 0 ∨ sel = 1 ∨ sel = 2 := by
  have small : sel.toNat = 0 ∨ sel.toNat = 1 ∨ sel.toNat = 2 := by omega
  exact small.imp BitVec.eq_of_toNat_eq (Or.imp BitVec.eq_of_toNat_eq BitVec.eq_of_toNat_eq)

/-- The heads that a selector of the table names change, and no other does (11.1). -/
theorem State.modSelected_eq {sel : Byte} (few : sel.toNat ≤ 2) (f : Head → Head) :
    ∃ hs, selectorOf sel = some hs ∧ (∀ h, h ∈ hs ↔ Named sel h) ∧ ∀ s : State, s.modSelected hs f =
      { s with heads := ⟨if sel = 1 then s.heads.a else f s.heads.a, if sel = 0 then s.heads.b else f s.heads.b⟩ } := by
  obtain rfl | rfl | rfl := sel_cases few
  · exact ⟨_, rfl, fun h => by cases h <;> simp [Named], fun _ => rfl⟩
  · exact ⟨_, rfl, fun h => by cases h <;> simp [Named], fun _ => rfl⟩
  · exact ⟨_, rfl, fun h => by cases h <;> simp [Named], fun _ => rfl⟩

/-! ### The settings requests -/

theorem State.classSetRequest_taken {s : State} (idle : s.job.state = .idle) {cls coef : Byte} (few : cls.toNat ≤ 15)
    (some : coef.toNat ≠ 0) : s.classSetRequest cls coef =
      ({ s with job := { s.job with classes := s.job.classes.set cls.toNat (Option.some coef.toNat) } }, .accepted .none) := by
  rw [State.classSetRequest, if_neg (not_not_intro idle), if_neg (by omega)]

theorem State.cutSetRequest_taken {s : State} (idle : s.job.state = .idle) {sel : Byte} {hs : List HeadId}
    (named : selectorOf sel = some hs) {p : CutReq} (fits : cutInTable p) {t : State}
    (sets : s.modSelected hs (fun hd => { hd with cut := cutParamsOf p }) = t) :
    s.cutSetRequest sel p = (t, .accepted (.cutSets t.heads.a.cut t.heads.b.cut)) := by
  have fits := (cutParamsOf_inRange p).mpr fits
  rw [State.cutSetRequest, if_neg (not_not_intro idle), named]
  dsimp only
  rw [if_neg (by rw [fits]; decide), sets]

theorem State.bladeSetRequest_taken {s : State} (idle : s.job.state = .idle) {sel : Byte} {hs : List HeadId}
    (named : selectorOf sel = some hs) {p : BladeReq} (fits : bladeInTable p) {t : State}
    (sets : s.modSelected hs (fun hd => { hd with bladeParams := bladeParamsOf p }) = t) :
    s.bladeSetRequest sel p = (t, .accepted (.bladeSets t.heads.a.bladeParams t.heads.b.bladeParams)) := by
  have fits := (bladeParamsOf_inRange p).mpr fits
  rw [State.bladeSetRequest, if_neg (not_not_intro idle), named]
  dsimp only
  rw [if_neg (by rw [fits]; decide), sets]

theorem State.guardSetRequest_taken {s : State} (idle : s.job.state = .idle) {sel : Byte} {hs : List HeadId}
    (named : selectorOf sel = some hs) {p : GuardReq} {g : GuardSettings} (settings : guardSettingsOf p = some g)
    (fits : guardInTable g) : s.guardSetRequest sel p = (s.modSelected hs (Head.guardSet g),
      .accepted (.guardSets (s.modSelected hs (Head.guardSet g)).heads.a.guard
        (s.modSelected hs (Head.guardSet g)).heads.b.guard)) := by
  have values : guardSetValues p = some g := by
    rw [guardSetValues, settings, Option.filter_some, if_pos ((guard_inRange_iff g).mpr fits)]
  rw [State.guardSetRequest, if_neg (not_not_intro idle), named, values]

theorem exec_cutSet {s : State} (free : s.listens .cell = true) (idle : s.job.state = .idle) {sel : Byte} (few : sel.toNat ≤ 2)
    {p : CutReq} (fits : cutInTable p) {a b : CutParams} (ea : a = if sel = 1 then s.heads.a.cut else cutParamsOf p)
    (eb : b = if sel = 0 then s.heads.b.cut else cutParamsOf p) :
    exec (.cutSet .cell sel p) s =
      .next (({ s with heads := ⟨{ s.heads.a with cut := a }, { s.heads.b with cut := b }⟩ }).answering .cell 0x28
        (.accepted (.cutSets a b))) := by
  obtain ⟨hs, named, -, sets⟩ := State.modSelected_eq few fun hd => { hd with cut := cutParamsOf p }
  refine exec_run (r := .cutSet sel p) rfl free rfl
    (State.cutSetRequest_taken (s := s.toLead .cell) idle named fits ((sets _).trans ?_))
  subst ea eb
  obtain rfl | rfl | rfl := sel_cases few <;> rfl

theorem exec_bladeSet {s : State} (free : s.listens .cell = true) (idle : s.job.state = .idle) {sel : Byte} (few : sel.toNat ≤ 2)
    {p : BladeReq} (fits : bladeInTable p) {a b : BladeParams}
    (ea : a = if sel = 1 then s.heads.a.bladeParams else bladeParamsOf p)
    (eb : b = if sel = 0 then s.heads.b.bladeParams else bladeParamsOf p) :
    exec (.bladeSet .cell sel p) s =
      .next (({ s with heads := ⟨{ s.heads.a with bladeParams := a }, { s.heads.b with bladeParams := b }⟩ }).answering
        .cell 0x2B (.accepted (.bladeSets a b))) := by
  obtain ⟨hs, named, -, sets⟩ := State.modSelected_eq few fun hd => { hd with bladeParams := bladeParamsOf p }
  refine exec_run (r := .bladeSet sel p) rfl free rfl
    (State.bladeSetRequest_taken (s := s.toLead .cell) idle named fits ((sets _).trans ?_))
  subst ea eb
  obtain rfl | rfl | rfl := sel_cases few <;> rfl

theorem exec_guardSet {s : State} (free : s.listens .cell = true) (idle : s.job.state = .idle) {sel : Byte} {hs : List HeadId}
    (named : selectorOf sel = some hs) {p : GuardReq} {g : GuardSettings} (settings : guardSettingsOf p = some g)
    (fits : guardInTable g) :
    exec (.guardSet .cell sel p) s = .next ((s.modSelected hs (Head.guardSet g)).answering .cell 0x2C
      (.accepted (.guardSets (s.modSelected hs (Head.guardSet g)).heads.a.guard
        (s.modSelected hs (Head.guardSet g)).heads.b.guard))) := by
  refine exec_run (r := .guardSet sel p) rfl free rfl
    ((State.guardSetRequest_taken (s := s.toLead .cell) idle named settings fits).trans ?_)
  obtain rfl | rfl | rfl := selectorOf_cases named <;> rfl

/-- Settles O18: each parameter request sets what it names. -/
theorem parametersAreSetInIdle : Obligations.ParametersAreSetInIdle := by
  refine fun s free idle => ⟨fun cls coef few some => exec_run (r := .classSet cls coef) rfl free rfl
      (State.classSetRequest_taken (s := s.toLead .cell) idle few some), fun sel few =>
    ⟨fun p fits a b => exec_cutSet free idle few fits, fun p fits a b => exec_bladeSet free idle few fits,
      fun p g settings fits => ?_⟩⟩
  obtain ⟨hs, named, names, sets⟩ := State.modSelected_eq few (Head.guardSet g)
  refine ⟨s.modSelected hs (Head.guardSet g), exec_guardSet free idle named settings fits, by rw [sets], fun h => ?_⟩
  rw [State.modSelected_head named, ← names h]
  exact ⟨fun isNamed => if_pos isNamed, fun other => if_neg other⟩

/-! ### Refusals -/

theorem State.bedSetRequest_refused {s : State} {separation : Half} {pa pb : PointReq} {reason : Reason}
    (refuses : s.bedSetRefusal separation.toNat (pointOf pa) (pointOf pb) = some reason) :
    s.bedSetRequest separation pa pb = (s, .refused reason .none) := by
  rw [State.bedSetRequest, refuses]

theorem State.zoneSetRequest_refused {s : State} {p : ZoneSetReq} {reason : Reason}
    (refuses : s.zoneSetRefusal (zoneSettingsOf p) = some reason) : s.zoneSetRequest p = (s, .refused reason .none) := by
  rw [State.zoneSetRequest, refuses]

theorem State.blockLoadRequest_refused {s : State} {layers : List LayerReq} {label : Option Long} {reason : Reason}
    (refuses : s.blockLoadRefusal (layersOf layers) = some reason) :
    s.blockLoadRequest layers label = (s, .refused reason .none) := by
  rw [State.blockLoadRequest, refuses]

/-- Outside IDLE no settings request and no BLOCK-LOAD is taken (R3). -/
theorem State.run_outsideIdle {s : State} (busy : s.job.state ≠ .idle) {r : Request}
    (settings : requestCode r ∈ [0x20, 0x24, 0x28, 0x29, 0x2A, 0x2B, 0x2C]) :
    s.run .cell r = (s, .refused .wrongJobState .none) := by
  cases r with
  | blockLoad layers label => exact State.blockLoadRequest_refused (if_pos busy)
  | bedSet separation pa pb => exact State.bedSetRequest_refused (if_pos busy)
  | zoneSet p => exact State.zoneSetRequest_refused (if_pos busy)
  | classSet cls coef => exact if_pos busy
  | cutSet sel p => exact if_pos busy
  | bladeSet sel p => exact if_pos busy
  | guardSet sel p => exact if_pos busy
  | _ => simp [requestCode] at settings

theorem permitted_settings {r : Request} (settings : requestCode r ∈ [0x20, 0x24, 0x28, 0x29, 0x2A, 0x2B, 0x2C]) :
    permitted .cell r = true := by
  cases r <;> first | rfl | simp [requestCode] at settings

theorem inBed_iff (p : Point) : inBed p = true ↔ p.x ≤ 31999 ∧ p.y ≤ 20999 := by
  unfold inBed
  rw [Bool.and_eq_true_iff, decide_eq_true_iff, decide_eq_true_iff]
  rfl

theorem inBed_pointOf (p : PointReq) : inBed (pointOf p) = true ↔ p.x.toNat ≤ 31999 ∧ p.y.toNat ≤ 20999 := inBed_iff _

theorem bedTest_iff (separation : Half) (pa pb : PointReq) :
    (decide (separation.toNat < 2000) || decide (20000 < separation.toNat) || !inBed (pointOf pa) || !inBed (pointOf pb)) = true ↔
      ¬ bedInTable separation pa pb := by
  unfold bedInTable
  rw [← not_iff_not, not_not, ← and_assoc (a := pa.x.toNat ≤ 31999), ← inBed_pointOf pa, ← inBed_pointOf pb]
  simp only [Bool.not_eq_true, Bool.or_eq_false_iff, decide_eq_false_iff_not, Nat.not_lt, Bool.not_eq_false', and_assoc]

theorem State.bedSetRefusal_badValue {s : State} (idle : s.job.state = .idle) {separation : Half} {pa pb : PointReq}
    (off : ¬ bedInTable separation pa pb) :
    s.bedSetRefusal separation.toNat (pointOf pa) (pointOf pb) = some .badValue := by
  unfold State.bedSetRefusal
  dsimp only
  rw [if_neg (not_not_intro idle), if_pos ((bedTest_iff separation pa pb).mpr off)]

theorem State.zoneSetRefusal_badValue {s : State} (idle : s.job.state = .idle) {p : ZoneSetReq} (off : ¬ zoneInTable p) :
    s.zoneSetRefusal (zoneSettingsOf p) = some .badValue := by
  rw [State.zoneSetRefusal, if_neg (not_not_intro idle), if_pos (Bool.eq_false_iff.mpr (off ∘ (zoneSettingsOf_inRange p).mp))]

theorem State.cutSetRequest_badValue {s : State} (idle : s.job.state = .idle) {sel : Byte} {p : CutReq}
    (bad : 2 < sel.toNat ∨ ¬ cutInTable p) : s.cutSetRequest sel p = (s, .refused .badValue .none) := by
  rw [State.cutSetRequest, if_neg (not_not_intro idle)]
  cases named : selectorOf sel with
  | none => rfl
  | some hs =>
    obtain other | off := bad
    · rw [selectorOf_eq_none other] at named
      cases named
    · exact if_pos (Bool.eq_false_iff.mpr (off ∘ (cutParamsOf_inRange p).mp))

theorem State.bladeSetRequest_badValue {s : State} (idle : s.job.state = .idle) {sel : Byte} {p : BladeReq}
    (bad : 2 < sel.toNat ∨ ¬ bladeInTable p) : s.bladeSetRequest sel p = (s, .refused .badValue .none) := by
  rw [State.bladeSetRequest, if_neg (not_not_intro idle)]
  cases named : selectorOf sel with
  | none => rfl
  | some hs =>
    obtain other | off := bad
    · rw [selectorOf_eq_none other] at named
      cases named
    · exact if_pos (Bool.eq_false_iff.mpr (off ∘ (bladeParamsOf_inRange p).mp))

theorem State.guardSetRequest_badValue {s : State} (idle : s.job.state = .idle) {sel : Byte} {p : GuardReq}
    (bad : 2 < sel.toNat ∨ ∀ g, guardSettingsOf p = some g → ¬ guardInTable g) :
    s.guardSetRequest sel p = (s, .refused .badValue .none) := by
  rw [State.guardSetRequest, if_neg (not_not_intro idle)]
  cases named : selectorOf sel with
  | none => rfl
  | some hs =>
    obtain other | off := bad
    · rw [selectorOf_eq_none other] at named
      cases named
    · have none : guardSetValues p = none := by
        refine Option.eq_none_iff_forall_ne_some.mpr fun g values => ?_
        obtain ⟨settings, fits⟩ := Option.filter_eq_some_iff.mp values
        exact off g settings ((guard_inRange_iff g).mp fits)
      rw [none]

/-- Settles O19: the job state is tested first, then the values. -/
theorem settingsAreRefused : Obligations.SettingsAreRefused := by
  refine fun s c r free row => ⟨fun busy settings =>
    exec_run row free (permitted_settings settings) (State.run_outsideIdle (s := s.toLead .cell) busy settings), fun idle bad => ?_⟩
  obtain ⟨cls, coef, rfl, off⟩ | ⟨sel, p, rfl, off⟩ | ⟨separation, pa, pb, rfl, off⟩ | ⟨p, rfl, off⟩ | ⟨sel, p, rfl, off⟩ |
    ⟨sel, p, rfl, off⟩ := bad
  · refine exec_run row free rfl ?_
    show State.classSetRequest _ _ _ = _
    exact (if_neg (not_not_intro idle)).trans (if_pos off)
  · exact exec_run row free rfl (State.cutSetRequest_badValue (s := s.toLead .cell) idle off)
  · exact exec_run row free rfl (State.bedSetRequest_refused (State.bedSetRefusal_badValue (s := s.toLead .cell) idle off))
  · exact exec_run row free rfl (State.zoneSetRequest_refused (State.zoneSetRefusal_badValue (s := s.toLead .cell) idle off))
  · exact exec_run row free rfl (State.bladeSetRequest_badValue (s := s.toLead .cell) idle off)
  · exact exec_run row free rfl (State.guardSetRequest_badValue (s := s.toLead .cell) idle off)

end Sys2Proof.Machine

/-! PROOFS. What closing an event makes of each part of a head, and that it leaves what already follows its rules (Chapters 5, 6
and 8). -/

namespace Sys2Proof.Machine

/-! ### The parts of a closed head -/

theorem State.lapseNow_of {s t : State} {h : HeadId} (request : (t.head h).pendingReq = (s.head h).pendingReq)
    (lapse : (t.head h).lapse = (s.head h).lapse) (states : t.zoneStates = s.zoneStates) : t.lapseNow h = s.lapseNow h := by
  unfold State.lapseNow
  rw [request, lapse, funext (State.allHeld_of_states states)]

theorem State.closeHead_lapse (b s : State) (h : HeadId) : ((State.closeHead b h s).head h).lapse = s.lapseNow h := by
  have e : ((State.closeHead b h s).head h).lapse = (State.closeHold b h (State.closeBlade b h s)).lapseNow h := by
    simp [State.closeHead]
  rw [e]
  exact State.lapseNow_of (by simp) (by simp) (State.zoneStates_of_zones (by simp))

theorem State.closeEvent_lapse (b s : State) (h : HeadId) : ((State.closeEvent b s).head h).lapse = s.lapseNow h := by
  cases h with
  | a => rw [State.closeEvent_head_a, State.closeHead_lapse]
  | b =>
    have same : (State.closeHead b .a s).head .b = s.head .b := State.closeHead_head_other b s .a
    rw [State.closeEvent_head_b, State.closeHead_lapse]
    exact State.lapseNow_of (by rw [same]) (by rw [same]) (State.zoneStates_of_zones (by simp))

/-! The watch of a closed head: HEAD-HELD ceases where no reason but BLADE holds it any more, and CLEARANCE where the other claim
has changed (R60, R75, R134). -/

theorem State.closeHead_watch (b s : State) (h : HeadId) : ((State.closeHead b h s).head h).watch =
    if ((s.head h).watch.reasons.headHeld && !((State.closeHead b h s).head h).hold.beyondBlade ||
      (s.head h).watch.reasons.clearance && decide ((s.head h.other).claim ≠ (b.head h.other).claim)) = true
    then Watch.empty else (s.head h).watch := by
  have other : ((State.closeLapse h (State.closeHold b h (State.closeBlade b h s))).head h.other).claim = (s.head h.other).claim := by
    cases h <;> simp
  have own : ((State.closeLapse h (State.closeHold b h (State.closeBlade b h s))).head h).watch = (s.head h).watch := by simp
  conv_lhs => rw [State.closeHead, State.closeWatch, State.tell_watch]
  rw [other, own]
  simp only [State.closeHead, State.closeWatch, State.tell_head_hold]

theorem State.closeEvent_watch (b s : State) (h : HeadId) : ((State.closeEvent b s).head h).watch =
    if ((s.head h).watch.reasons.headHeld && !((State.closeEvent b s).head h).hold.beyondBlade ||
      (s.head h).watch.reasons.clearance && decide ((s.head h.other).claim ≠ (b.head h.other).claim)) = true
    then Watch.empty else (s.head h).watch := by
  cases h with
  | a => rw [State.closeEvent_head_a, State.closeHead_watch]
  | b =>
    have same : (State.closeHead b .a s).head .b = s.head .b := State.closeHead_head_other b s .a
    have claim : ((State.closeHead b .a s).head .a).claim = (s.head .a).claim := by simp
    rw [State.closeEvent_head_b, State.closeHead_watch, same]
    simp only [HeadId.other, claim]
    rfl

/-- Every part of a closed head. -/
theorem State.closeEvent_head_eq (b s : State) (h : HeadId) : (State.closeEvent b s).head h =
    { s.head h with
      blade := ((s.head h).reworkBlade ((b.head h).standsBy b.job.state.isOpen) s.job.state.isOpen).blade
      hold := ((State.closeEvent b s).head h).hold
      overdue := (s.head h).overdue.follow ((State.closeEvent b s).head h).hold.held
      lapse := s.lapseNow h
      watch := ((State.closeEvent b s).head h).watch } := by
  obtain ⟨stood, hold, line, lapse, w, e⟩ := State.closeEvent_head b s h
  rw [← State.closeEvent_blade, ← State.closeEvent_overdue, ← State.closeEvent_lapse b s h, e]
  rfl

/-- The reason set of a closed head (Table 8-1). -/
theorem State.closeEvent_hold (b s : State) (h : HeadId) : ((State.closeEvent b s).head h).hold =
    { noJob := !s.job.state.isOpen
      outOfService := !(s.head h).inService
      cellHold := (s.head h).hold.cellHold
      blade := ((s.head h).reworkBlade ((b.head h).standsBy b.job.state.isOpen) s.job.state.isOpen).bladeHolds
      zone := s.zoneHolds h
      overdue := (s.head h).hold.overdue } := by
  have zone : (State.closeEvent b s).zoneHolds h = s.zoneHolds h :=
    State.zoneHolds_of (State.zoneStates_of_zones (State.closeEvent_zones b s)) (State.closeEvent_head_window b s h)
  have blade : ((State.closeEvent b s).head h).bladeHolds =
      ((s.head h).reworkBlade ((b.head h).standsBy b.job.state.isOpen) s.job.state.isOpen).bladeHolds := by
    unfold Head.bladeHolds Head.holdsCut
    rw [State.closeEvent_blade, State.closeEvent_head_window]
    rfl
  rw [State.closeEvent_holds, State.holdNow, zone, blade, State.closeEvent_job, State.closeEvent_cellHold,
    State.closeEvent_overdueReason]
  simp [Head.inService]

/-! ### A head that follows its rules -/

theorem Head.reworkBlade_eq {hd : Head} {stood jobOpen : Bool} (stands : stood = hd.standsBy jobOpen)
    (demand : hd.blade.demand = hd.demandOf jobOpen) (timer : hd.blade.stopTimer.isSome = true → hd.standsBy jobOpen = true) :
    hd.reworkBlade stood jobOpen = hd := by
  have blade := Head.reworkBlade_same demand timer
  subst stands
  calc hd.reworkBlade (hd.standsBy jobOpen) jobOpen
      = { hd with blade := (hd.reworkBlade (hd.standsBy jobOpen) jobOpen).blade } := rfl
    _ = hd := by rw [blade]

/-- An overdue timer that follows its rule is at the level of its line (R136). -/
theorem Head.OverdueFollows.line {hd : Head} (follows : hd.OverdueFollows) : hd.overdue.follow hd.hold.held = hd.overdue := by
  have stopped (st : hd.overdue.st = .stopped) : hd.overdue.follow hd.hold.held = hd.overdue := by
    unfold Overdue.follow
    rw [st]
  cases window : hd.window with
  | nil => exact stopped ((Head.overdueFollows_empty window).mp follows).1
  | cons w rest =>
    rw [Head.overdueFollows_cons window] at follows
    split at follows
    · exact stopped follows
    · obtain ⟨st, -, -⟩ := follows
      generalize hd.overdue = o at st ⊢
      obtain ⟨st', allowance, elapsed⟩ := o
      dsimp only at st
      subst st
      cases hd.hold.held <;> rfl

/-- A lapse timer that runs as it should is left (R88). -/
theorem State.LapseRunsWhenHeld.now {s : State} {h : HeadId} (runs : s.LapseRunsWhenHeld h) :
    s.lapseNow h = (s.head h).lapse := by
  unfold State.LapseRunsWhenHeld at runs
  unfold State.lapseNow
  cases request : (s.head h).pendingReq with
  | none =>
    rw [request] at runs
    exact (Option.not_isSome_iff_eq_none.mp (by rw [runs]; exact Bool.false_ne_true)).symm
  | some r =>
    rw [request] at runs
    dsimp only at runs ⊢
    cases lapse : (s.head h).lapse with
    | none =>
      rw [lapse] at runs
      rw [← runs]
      rfl
    | some left =>
      rw [lapse] at runs
      rw [← runs]
      rfl

/-- Closing an event keeps a head that follows its rules, whose stop-delay timer stood under the condition as it is now, and all of
it but the watch. -/
theorem State.closeEvent_keeps {b s : State} {h : HeadId} (holds : s.HoldFollows h) (line : (s.head h).overdue.follow (s.head h).hold.held = (s.head h).overdue)
    (demand : s.DemandNow h) (lapse : s.LapseRunsWhenHeld h)
    (stood : (b.head h).standsBy b.job.state.isOpen = (s.head h).standsBy s.job.state.isOpen) :
    (State.closeEvent b s).head h = { s.head h with watch := ((State.closeEvent b s).head h).watch } := by
  have blade := Head.reworkBlade_eq stood demand.1 demand.2
  have hold : ((State.closeEvent b s).head h).hold = (s.head h).hold := by
    rw [State.closeEvent_hold, blade]
    exact holds.symm
  conv_lhs => rw [State.closeEvent_head_eq, blade, hold, line, lapse.now]

/-- The watch of a head that HEAD-HELD and CLEARANCE do not end. -/
theorem State.closeEvent_watch_keeps {b s : State} {h : HeadId} (hold : ((State.closeEvent b s).head h).hold = (s.head h).hold)
    (follows : (s.head h).WatchFollows)
    (claim : (s.head h).watch.reasons.clearance = true → (s.head h.other).claim = (b.head h.other).claim) :
    ((State.closeEvent b s).head h).watch = (s.head h).watch := by
  rw [State.closeEvent_watch, hold]
  refine if_neg fun ceases => ?_
  rw [Bool.or_eq_true, Bool.and_eq_true, Bool.and_eq_true, decide_eq_true_iff] at ceases
  obtain ⟨watched, gone⟩ | ⟨watched, moved⟩ := ceases
  · rw [follows watched] at gone
    cases gone
  · exact moved (claim watched)

theorem State.Steady.demandNow {s : State} {h : HeadId} (steady : s.Steady h) : s.DemandNow h :=
  ((s.demandFollows_iff h).mp steady.2.2.2.1).1

/-- Closing an event leaves a head that follows its rules, where the stop-delay timer stood under the condition as it is now and
the other claim has not moved. -/
theorem State.closeEvent_steady {b s : State} {h : HeadId} (steady : s.Steady h)
    (stood : (b.head h).standsBy b.job.state.isOpen = (s.head h).standsBy s.job.state.isOpen)
    (claim : (s.head h).watch.reasons.clearance = true → (s.head h.other).claim = (b.head h.other).claim) :
    (State.closeEvent b s).head h = s.head h := by
  have demand := steady.demandNow
  obtain ⟨holds, overdue, watch, -, lapse⟩ := steady
  have kept := State.closeEvent_keeps (b := b) holds overdue.line demand lapse stood
  rw [kept, State.closeEvent_watch_keeps (by rw [kept]) watch claim]

/-! ### What following the rules depends on -/

/-- Two heads agree in what their rules look at: service state, window, set, channel, overdue timer, request and lapse timer. -/
structure Head.Alike (x y : Head) : Prop where
  service : y.service = x.service
  window : y.window = x.window
  hold : y.hold = x.hold
  blade : y.blade = x.blade
  overdue : y.overdue = x.overdue
  request : y.pendingReq = x.pendingReq
  lapse : y.lapse = x.lapse

theorem Head.Alike.refl (x : Head) : Head.Alike x x := ⟨rfl, rfl, rfl, rfl, rfl, rfl, rfl⟩

theorem Head.alike_watch (x : Head) (w : Watch) : Head.Alike x { x with watch := w } := ⟨rfl, rfl, rfl, rfl, rfl, rfl, rfl⟩

/-- Of the zones that the rules of a head look at, those under its cuts and of its request, the same ones are HELD. -/
def Head.SameHeld (hd : Head) (s t : State) : Prop :=
  ∀ k < Config.zoneCount, hd.cutsOver k = true ∨ rangeHas hd.pendingReq k = true →
    ((t.zone k).st = .held ↔ (s.zone k).st = .held)

theorem Head.sameHeld_of_states {s t : State} (hd : Head) (states : t.zoneStates = s.zoneStates) : hd.SameHeld s t :=
  fun k _ _ => by rw [State.zone_st_of_states states k]

theorem State.standsBy_of_alike {x y : Head} (alike : Head.Alike x y) (jobOpen : Bool) : y.standsBy jobOpen = x.standsBy jobOpen := by
  simp only [Head.standsBy, Head.cutCondition, Head.holdsCut, Head.inService, alike.service, alike.window, alike.blade]

theorem anyOf_congr {α : Type} {xs : List α} {p q : α → Bool} (same : ∀ x ∈ xs, p x = q x) : xs.any p = xs.any q := by
  rw [Bool.eq_iff_iff, List.any_eq_true, List.any_eq_true]
  exact exists_congr fun x => and_congr_right fun member => by rw [same x member]

theorem allOf_congr {α : Type} {xs : List α} {p q : α → Bool} (same : ∀ x ∈ xs, p x = q x) : xs.all p = xs.all q := by
  rw [Bool.eq_iff_iff, List.all_eq_true, List.all_eq_true]
  exact forall_congr' fun x => forall_congr' fun member => by rw [same x member]

/-- A head that agrees with one that follows its rules follows them where the job is open as it was and the same zones it looks
at are HELD. -/
theorem State.Steady.of_alike {s t : State} {h : HeadId} (steady : s.Steady h) (alike : Head.Alike (s.head h) (t.head h))
    (watch : (t.head h).watch = (s.head h).watch ∨ (t.head h).watch = Watch.empty)
    (job : t.job.state.isOpen = s.job.state.isOpen) (zones : (s.head h).SameHeld s t) : t.Steady h := by
  have cuts : (t.head h).cutsOver = (s.head h).cutsOver := by
    unfold Head.cutsOver
    rw [alike.window]
  have holds' : t.zoneHolds h = s.zoneHolds h := by
    unfold State.zoneHolds
    rw [cuts]
    refine anyOf_congr fun k member => ?_
    cases e : (s.head h).cutsOver k with
    | false => rfl
    | true => rw [Bool.true_and, Bool.true_and, decide_eq_decide, not_iff_not, zones k (List.mem_range.mp member) (.inl e)]
  have request : (t.head h).pendingReq.any t.allHeld = (s.head h).pendingReq.any s.allHeld := by
    rw [alike.request]
    cases e : (s.head h).pendingReq with
    | none => rfl
    | some r =>
      refine allOf_congr fun k member => ?_
      obtain ⟨small, has⟩ := List.mem_filter.mp member
      rw [decide_eq_decide, zones k (List.mem_range.mp small) (.inr (by rw [e]; exact has))]
  obtain ⟨holds, overdue, watches, ⟨demand, off, timer⟩, lapse⟩ := steady
  refine ⟨?_, ?_, ?_, ⟨?_, ?_, ?_⟩, ?_⟩
  · rw [State.HoldFollows] at holds ⊢
    rw [alike.hold, holds]
    simp only [State.holdNow, holds', job, Head.inService, Head.bladeHolds, Head.holdsCut, alike.service, alike.window, alike.blade,
      alike.hold]
  · rw [Head.OverdueFollows, alike.window, alike.hold, alike.overdue]
    exact overdue
  · intro held
    obtain e | e := watch
    · rw [alike.hold]
      exact watches (e ▸ held)
    · rw [e] at held
      cases held
  · rw [job, Head.demandOf_congr _ alike.service alike.window (congrArg HoldSet.overdue alike.hold) alike.blade, alike.blade, demand]
  · rw [alike.blade]
    exact off
  · rw [State.standsBy_of_alike alike, alike.blade, job]
    exact timer
  · rw [State.lapseRunsWhenHeld_iff] at lapse ⊢
    rw [request, alike.lapse, lapse]

/-- What closing an event raises: HOLD-CHANGED and WAIT-CLEARED (R75, R134). -/
theorem closes_below (b t : State) (l : LinkId) : (closes b t l).Below (AttSet.ofHoldChanged.union AttSet.ofWaitCleared) := by
  cases l <;> simp [AttSet.below_iff, closes, AttSet.union, AttSet.ofHoldChanged, AttSet.ofWaitCleared, AttSet.empty]

/-! ### A closing that changes nothing -/

theorem State.modHead_eq {s : State} {h : HeadId} {f : Head → Head} (same : f (s.head h) = s.head h) : s.modHead h f = s := by
  have put : s.setHead h (s.head h) = s := by cases h <;> rfl
  rw [State.modHead, same, put]

/-- Closing one head of an event leaves a state in which it follows its rules with its set as before (R134). -/
theorem State.closeHead_same {b s : State} {h : HeadId} (steady : s.Steady h) (hold : (s.head h).hold = (b.head h).hold)
    (stood : (b.head h).standsBy b.job.state.isOpen = (s.head h).standsBy s.job.state.isOpen)
    (claim : (s.head h).watch.reasons.clearance = true → (s.head h.other).claim = (b.head h.other).claim) :
    State.closeHead b h s = s := by
  have demand := steady.demandNow
  obtain ⟨holds, overdue, watch, -, lapse⟩ := steady
  have blade : State.closeBlade b h s = s := State.modHead_eq (Head.reworkBlade_eq stood demand.1 demand.2)
  have held : State.closeHold b h s = s := by
    unfold State.closeHold
    dsimp only
    rw [State.HoldFollows] at holds
    rw [← holds, if_pos hold]
    refine State.modHead_eq ?_
    rw [overdue.line]
  have lapsed : State.closeLapse h s = s := State.modHead_eq (by rw [lapse.now])
  have watched : State.closeWatch b h s = s := by
    unfold State.closeWatch State.tell
    refine if_neg fun ceases => ?_
    rw [Bool.or_eq_true, Bool.and_eq_true, Bool.and_eq_true, decide_eq_true_iff] at ceases
    obtain ⟨there, gone⟩ | ⟨there, moved⟩ := ceases
    · rw [watch there] at gone
      cases gone
    · exact moved (claim there)
  rw [State.closeHead, blade, held, lapsed, watched]

/-- Closing an event leaves a state in which both heads follow their rules with their sets as before. -/
theorem State.closeEvent_same {b s : State} (steady : ∀ h, s.Steady h) (hold : ∀ h, (s.head h).hold = (b.head h).hold)
    (stood : ∀ h, (b.head h).standsBy b.job.state.isOpen = (s.head h).standsBy s.job.state.isOpen)
    (claim : ∀ h, (s.head h).watch.reasons.clearance = true → (s.head h.other).claim = (b.head h.other).claim) :
    State.closeEvent b s = s := by
  rw [State.closeEvent, State.closeHead_same (steady .a) (hold .a) (stood .a) (claim .a),
    State.closeHead_same (steady .b) (hold .b) (stood .b) (claim .b)]

/-! ### The links of a closing -/

theorem State.tell_link_ne (s : State) (h : HeadId) (p : Watch → Bool) {l : LinkId} (ne : l ≠ .head h) :
    (s.tell h p).link l = s.link l := by
  unfold State.tell
  split
  · exact State.link_raise_ne s _ ne
  · rfl

/-- Closing a head touches no link but its own. -/
theorem State.closeHead_link_ne (b s : State) (h : HeadId) {l : LinkId} (ne : l ≠ .head h) :
    (State.closeHead b h s).link l = s.link l := by
  have held (r : State) : (State.closeHold b h r).link l = r.link l := by
    unfold State.closeHold
    dsimp only
    split
    · rfl
    · exact State.link_raise_ne _ _ ne
  rw [State.closeHead, State.closeWatch, State.tell_link_ne _ _ _ ne]
  exact held _

theorem State.closeEvent_link (b s : State) (h : HeadId) :
    (State.closeEvent b s).link (.head h) = (State.closeHead b h (if h = .a then s else State.closeHead b .a s)).link (.head h) := by
  cases h with
  | a => exact State.closeHead_link_ne b _ .b (by decide)
  | b => rfl

end Sys2Proof.Machine

/-! PROOFS. What a re-evaluation of the zones and a telling of the watches leave, and the form of an answered request (R75, R86,
R160). -/

namespace Sys2Proof.Machine

/-! ### Tellings -/

/-- The watches are as they were, or empty; of the heads nothing else has changed (R75). -/
def State.Told (s t : State) : Prop :=
  ∀ h, ∃ w, t.head h = { s.head h with watch := w } ∧ (w = (s.head h).watch ∨ w = Watch.empty)

theorem State.Told.refl (s : State) : s.Told s := fun _ => ⟨_, rfl, .inl rfl⟩

theorem State.Told.of_heads {s t : State} (heads : t.heads = s.heads) : s.Told t := fun h =>
  ⟨_, by rw [State.head, heads]; rfl, .inl rfl⟩

theorem State.Told.trans {s t r : State} (one : s.Told t) (two : t.Told r) : s.Told r := by
  intro h
  obtain ⟨w, e, from'⟩ := one h
  obtain ⟨v, e', from''⟩ := two h
  refine ⟨v, by rw [e', e], ?_⟩
  rw [e] at from''
  obtain rfl | rfl := from''
  · exact from'
  · exact .inr rfl

theorem State.Told.alike {s t : State} (told : s.Told t) (h : HeadId) : Head.Alike (s.head h) (t.head h) := by
  obtain ⟨w, e, -⟩ := told h
  rw [e]
  exact Head.alike_watch _ w

theorem State.Told.watch {s t : State} (told : s.Told t) (h : HeadId) :
    (t.head h).watch = (s.head h).watch ∨ (t.head h).watch = Watch.empty := by
  obtain ⟨w, e, from'⟩ := told h
  rw [e]
  exact from'

theorem State.Told.window {s t : State} (told : s.Told t) (h : HeadId) : (t.head h).window = (s.head h).window :=
  (told.alike h).window

/-- A head with an empty watch is not touched by a telling. -/
theorem State.Told.head {s t : State} (told : s.Told t) {h : HeadId} (empty : (s.head h).watch = Watch.empty) :
    t.head h = s.head h := by
  obtain ⟨w, e, from'⟩ := told h
  have same : w = (s.head h).watch := by
    obtain same | none := from'
    · exact same
    · rw [none, empty]
  rw [e, same]

theorem State.wake_told (s : State) (h : HeadId) : s.Told (s.wake h) := by
  intro k
  obtain rfl | rfl := HeadId.eq_or_other h k
  · exact ⟨_, s.head_wake_self _, .inr rfl⟩
  · exact ⟨_, s.head_wake_other _, .inl rfl⟩

theorem State.tell_told (s : State) (h : HeadId) (p : Watch → Bool) : s.Told (s.tell h p) := by
  unfold State.tell
  split
  · exact s.wake_told h
  · exact .refl s

theorem State.tellBoth_told (s : State) (p : Watch → Bool) : s.Told (s.tellBoth p) :=
  (s.tell_told .a p).trans (State.tell_told _ .b p)

theorem State.dropMark_told (s : State) (h : HeadId) : s.Told (s.dropMark h) := by
  unfold State.dropMark
  split
  · exact .refl s
  · split
    · split
      · exact State.wake_told { s with mark := some ⟨h.other, Config.twoSeconds⟩ } h.other
      · exact .of_heads rfl
    · exact .refl s

theorem State.ventIfUnneeded_told (s : State) (k : Nat) : s.Told (s.ventIfUnneeded k) := by
  unfold State.ventIfUnneeded
  split
  · exact State.tellBoth_told (s.setZone k (s.zone k).vent) _
  · exact .refl s

theorem State.vents_told (ks : List Nat) (s : State) : s.Told (ks.foldl State.ventIfUnneeded s) := by
  induction ks generalizing s with
  | nil => exact .refl s
  | cons k ks ih => exact (s.ventIfUnneeded_told k).trans (ih _)

theorem State.reevaluate_told (s : State) : s.Told s.reevaluate := by
  unfold State.reevaluate
  dsimp only
  split
  · exact (s.vents_told _).trans (.of_heads (State.orphanRestart_heads _))
  · exact s.vents_told _

/-! ### The zones after a re-evaluation -/

/-- A zone that is on is one of the table. -/
theorem State.lt_of_on {s : State} {k : Nat} (on : (s.zone k).st.on = true) : k < s.zones.length := by
  by_contra beyond
  rw [State.zone, List.getD_eq_default _ _ (Nat.le_of_not_lt beyond)] at on
  cases on

theorem State.ventIfUnneeded_zone (s : State) (k j : Nat) :
    (s.ventIfUnneeded k).zone j =
      if j = k ∧ (s.zone j).st.on = true ∧ s.needed j = false then (s.zone j).vent else s.zone j := by
  unfold State.ventIfUnneeded
  split
  · next vents =>
    rw [Bool.and_eq_true, Bool.not_eq_true'] at vents
    rw [State.ventZone_zone]
    by_cases e : j = k
    · subst e
      rw [State.zone_setZone_self s _ (State.lt_of_on vents.1), if_pos ⟨rfl, vents⟩]
    · rw [State.zone_setZone_ne s _ e, if_neg (fun both => e both.1)]
  · next stays =>
    rw [if_neg]
    rintro ⟨rfl, on, unneeded⟩
    exact stays (by rw [on, unneeded]; rfl)

/-- The zones looked at that are on and not needed have gone OFF, and the others are as they were (R86). -/
theorem State.vents_zone (ks : List Nat) (s : State) (j : Nat) :
    (ks.foldl State.ventIfUnneeded s).zone j =
      if j ∈ ks ∧ (s.zone j).st.on = true ∧ s.needed j = false then (s.zone j).vent else s.zone j := by
  induction ks generalizing s with
  | nil => simp
  | cons k ks ih =>
    rw [List.foldl_cons, ih, State.ventIfUnneeded_needed, State.ventIfUnneeded_zone]
    by_cases e : j = k
    · subst e
      by_cases unneeded : (s.zone j).st.on = true ∧ s.needed j = false
      · have off : (s.zone j).vent.st.on = false := rfl
        simp only [unneeded, and_self, if_true, off, Bool.false_eq_true, false_and, and_false, if_false, List.mem_cons, true_or]
      · simp only [unneeded, and_false, if_false]
    · simp [e]

theorem State.restarts_none {s : State} (orphans : NoOrphans s) (ks : List Nat) (small : ∀ k ∈ ks, k < Config.zoneCount) :
    ks.foldl State.restartZone s = s := by
  induction ks with
  | nil => rfl
  | cons k ks ih =>
    have stays : s.restartZone k = s := by
      unfold State.restartZone
      refine if_neg fun starts => ?_
      obtain ⟨off, cuts, -⟩ := starts
      exact orphans k (small k (List.mem_cons_self ..)) (Bool.or_eq_true _ _ ▸ cuts) off
    rw [List.foldl_cons, stays, ih fun i member => small i (List.mem_cons_of_mem _ member)]

theorem State.orphanRestart_none {s : State} (orphans : NoOrphans s) : s.orphanRestart = s :=
  State.restarts_none orphans _ fun _ member => List.mem_range.mp member

theorem State.cutsOver_needed {s : State} {k : Nat} (cuts : s.heads.a.cutsOver k = true ∨ s.heads.b.cutsOver k = true) :
    s.needed k = true := State.needed_of_cutsOver (by rw [Bool.or_eq_true]; exact cuts)

theorem noOrphans_iff (s : State) :
    NoOrphans s ↔ ∀ k < Config.zoneCount, ∀ h, (s.head h).cutsOver k = true → (s.zone k).st ≠ .off := by
  refine forall_congr' fun k => forall_congr' fun _ => ⟨fun none h cuts => none ?_, fun none cuts => ?_⟩
  · cases h
    · exact .inl cuts
    · exact .inr cuts
  · exact cuts.elim (none .a) (none .b)

/-- No orphan comes where none was: the windows have no further cuts, and no zone under one has gone OFF. -/
theorem NoOrphans.of_windows {s t : State} (orphans : NoOrphans s)
    (windows : ∀ h k, (t.head h).cutsOver k = true → (s.head h).cutsOver k = true)
    (zones : ∀ k < Config.zoneCount, s.needed k = true → (t.zone k).st = .off → (s.zone k).st = .off) : NoOrphans t := by
  rw [noOrphans_iff] at orphans ⊢
  intro k lt h cuts off
  have cuts := windows h k cuts
  refine orphans k lt h cuts (zones k lt (State.cutsOver_needed ?_) off)
  cases h
  · exact .inl cuts
  · exact .inr cuts

theorem Head.cutsOver_of_window {x y : Head} (window : y.window = x.window) (k : Nat) : y.cutsOver k = x.cutsOver k := by
  unfold Head.cutsOver
  rw [window]

/-- Venting leaves no orphan where there was none: a zone under a cut is needed. -/
theorem NoOrphans.vents {s : State} (orphans : NoOrphans s) :
    NoOrphans ((List.range Config.zoneCount).foldl State.ventIfUnneeded s) := by
  refine orphans.of_windows (fun h k cuts => ?_) fun k lt need off => ?_
  · rwa [Head.cutsOver_of_window ((State.vents_told _ s).window h)] at cuts
  · rwa [State.vents_zone,
      if_neg (by simp [need])] at off

/-- Without an orphan a re-evaluation vents, and starts none (R86, R95). -/
theorem State.reevaluate_eq {s : State} (orphans : NoOrphans s) :
    s.reevaluate = (List.range Config.zoneCount).foldl State.ventIfUnneeded s := by
  unfold State.reevaluate
  dsimp only
  rw [State.orphanRestart_none (orphans.vents), ite_self]

theorem State.reevaluate_zone {s : State} (orphans : NoOrphans s) {j : Nat} (lt : j < 16) :
    s.reevaluate.zone j = if (s.zone j).st.on = true ∧ s.needed j = false then (s.zone j).vent else s.zone j := by
  rw [State.reevaluate_eq orphans, State.vents_zone]
  have member : j ∈ List.range Config.zoneCount := List.mem_range.mpr lt
  simp only [member, true_and]

theorem State.reevaluate_length (s : State) : s.reevaluate.zones.length = s.zones.length := by
  unfold State.reevaluate
  dsimp only
  split
  · exact (foldl_keeps (·.zones.length) State.restartZone (fun s k => s.restartZone_length k) _ _).trans (s.vents_length _)
  · exact s.vents_length _

theorem State.restartZone_held (s : State) (k j : Nat) : ((s.restartZone k).zone j).st = .held ↔ (s.zone j).st = .held := by
  unfold State.restartZone
  split
  · next starts =>
    obtain ⟨off, -, -⟩ := starts
    obtain e | ⟨rfl, e⟩ := s.zone_setZone_cases k j ((s.zone k).start s.zoneSettings)
    · rw [State.startZone, e]
    · rw [State.startZone, e, off]
      exact iff_of_false (by simp [Zone.start]) (by simp)
  · rfl

theorem State.restarts_held (ks : List Nat) (s : State) (j : Nat) :
    ((ks.foldl State.restartZone s).zone j).st = .held ↔ (s.zone j).st = .held := by
  induction ks generalizing s with
  | nil => rfl
  | cons k ks ih => rw [List.foldl_cons, ih, State.restartZone_held]

/-- A re-evaluation leaves the needed zones HELD that were (R86, R95). -/
theorem State.reevaluate_held {s : State} {j : Nat} (need : s.needed j = true) :
    (s.reevaluate.zone j).st = .held ↔ (s.zone j).st = .held := by
  have vented : ((List.range Config.zoneCount).foldl State.ventIfUnneeded s).zone j = s.zone j := by
    rw [State.vents_zone, if_neg (by simp [need])]
  unfold State.reevaluate
  dsimp only
  split
  · rw [State.orphanRestart, State.restarts_held, vented]
  · rw [vented]

theorem State.needed_of_head {s : State} {h : HeadId} {k : Nat}
    (looks : (s.head h).cutsOver k = true ∨ rangeHas (s.head h).pendingReq k = true) : s.needed k = true := by
  obtain cuts | asked := looks <;> cases h <;> simp only [State.head, Pair.get_a, Pair.get_b] at * <;>
    simp [State.needed, *]

theorem State.reevaluate_sameHeld (s : State) (h : HeadId) :
    (s.head h).SameHeld s s.reevaluate := fun _ _ looks => State.reevaluate_held (State.needed_of_head looks)

end Sys2Proof.Machine

/-! PROOFS. The settings that move zones or heads, and the job requests (Chapters 1, 4 and 5). -/

namespace Sys2Proof.Machine

/-! ### A request that is taken -/

/-- State t is what a request on link l leaves of state s where its body leaves u: the reply is in the buffer, and nothing else is
touched (R160). -/
structure Took (s u t : State) (l : LinkId) (type : Byte) (reply : Reply) : Prop where
  answers : Answers s t l type reply
  rest : t = { u with links := t.links }
  attention : ∀ m, (t.link m).attention = (u.link m).attention

/-- A request whose body leaves the lines alone leaves what the body leaves, with the reply in the link's buffer (R160). -/
theorem exec_taken {s u : State} {c : Instr} {l : LinkId} {r : Request} {reply : Reply} {v : LinkId → AttSet}
    (row : requestOf c = some (l, r)) (free : s.listens l = true) (may : permitted l r = true)
    (run : (s.toLead l).run l r = (u, reply)) (hears : State.Hears v (s.toLead l) u) :
    ∃ t, exec c s = .next t ∧ Took s u t l (requestCode r) reply := by
  have own : (u.replyWith l (requestCode r) reply).link l = { u.link l with inFlight := some ⟨requestCode r, reply, false⟩ } :=
    State.link_replyWith_self u l _ _
  have lead : (s.toLead l).link l = { s.link l with asm := .lead } := s.link_setLink_self l _
  obtain ⟨rx, asm, -⟩ := hears.sameLine l
  rw [lead] at rx asm
  refine ⟨u.replyWith l (requestCode r) reply, ?_, ⟨?_, ?_, ?_, fun m ne => ?_⟩, rfl, fun m => State.replyWith_attention ..⟩
  · rw [exec_eq_effect, exec_served row free (exec_eq_effect c s), State.served, State.judge_permitted _ l r may, run]
  · rw [own, ← rx]
  · rw [own]
    exact asm
  · rw [own]
  · have same : (u.replyWith l (requestCode r) reply).link m = u.link m := State.link_setLink_ne u _ ne
    have toLead : (s.toLead l).link m = s.link m := State.link_setLink_ne s _ ne
    have line := hears.sameLine m
    unfold SameLine at line ⊢
    rwa [same, ← toLead]

theorem Took.head {s u t : State} {l : LinkId} {type : Byte} {reply : Reply} (took : Took s u t l type reply) (h : HeadId) :
    t.head h = u.head h := by
  rw [took.rest]
  rfl

theorem Took.raisesOnly {s u t : State} {l : LinkId} {type : Byte} {reply : Reply} (took : Took s u t l type reply) {c : AttSet}
    (raises : RaisesOnly (s.toLead l) u c) : RaisesOnly s t c := by
  intro m
  rw [took.attention, ← State.toLead_attention s l m]
  exact raises m

/-- What a request that a request body leaves alone but for its links. -/
theorem State.Hears.taken {v : LinkId → AttSet} {s b : State} (body : State.Hears v s b) {u : LinkId → AttSet}
    (more : ∀ l, (v l).Below (u l)) (closing : ∀ l, (closes s (State.closeEvent s b) l).Below (u l)) :
    State.Hears u s (State.closeEvent s b) := (body.mono more).trans ((State.closeEvent_hears s b).mono closing)

/-! ### ZONE SET -/

theorem State.activeCount_eq_zero {s : State} (sixteen : s.zones.length = 16) :
    s.activeCount = 0 ↔ ∀ k < 16, s.vac k = false := by
  unfold State.activeCount State.vac State.zone
  rw [List.countP_eq_zero]
  refine ⟨fun none k lt => ?_, fun none z member => ?_⟩
  · have lt : k < s.zones.length := by omega
    rw [List.getD_eq_getElem _ _ lt]
    exact Bool.eq_false_iff.mpr (none _ (List.getElem_mem lt))
  · obtain ⟨k, lt, rfl⟩ := List.getElem_of_mem member
    have off := none k (by omega)
    rw [List.getD_eq_getElem _ _ lt] at off
    exact Bool.eq_false_iff.mp off

theorem State.zoneSet_zone (s : State) (cfg : ZoneSettings) {k : Nat} (lt : k < 16) (sixteen : s.zones.length = 16) :
    (s.zoneSet cfg).zone k = if s.zoneSettings.activeHigh.getLsbD k = cfg.activeHigh.getLsbD k then s.zone k
      else (s.zone k).rejudge := by
  have lt : k < s.zones.length := by omega
  unfold State.zone State.zoneSet
  dsimp only
  rw [List.getD_eq_getElem _ _ (by rwa [List.length_mapIdx]), List.getElem_mapIdx, List.getD_eq_getElem _ _ lt, BitVec.getLsbD_xor]
  cases s.zoneSettings.activeHigh.getLsbD k <;> cases cfg.activeHigh.getLsbD k <;> rfl

theorem State.zoneSetRefusal_idle {s : State} (idle : s.job.state = .idle) {p : ZoneSetReq} (fits : zoneInTable p) :
    s.zoneSetRefusal (zoneSettingsOf p) = if s.activeCount ≠ 0 then some .budgetInUse else none := by
  have fits := (zoneSettingsOf_inRange p).mpr fits
  rw [State.zoneSetRefusal, if_neg (not_not_intro idle), if_neg (by rw [fits]; decide)]

/-! ### BED SET -/

theorem State.bedSetRefusal_idle {s : State} (idle : s.job.state = .idle) {separation : Half} {pa pb : PointReq}
    (fits : bedInTable separation pa pb) :
    s.bedSetRefusal separation.toNat (pointOf pa) (pointOf pb) =
      if ¬ pa.x.toNat + separation.toNat ≤ pb.x.toNat then some .parksTooClose
      else if ¬ (if (s.head .a).service = .inService then (s.head .a).standing.x else pa.x.toNat) + separation.toNat ≤
        (if (s.head .b).service = .inService then (s.head .b).standing.x else pb.x.toNat) then some .clearance
      else none := by
  have test : ¬ (decide (separation.toNat < 2000) || decide (20000 < separation.toNat) || !inBed (pointOf pa) ||
      !inBed (pointOf pb)) = true := fun bad => (bedTest_iff separation pa pb).mp bad fits
  unfold State.bedSetRefusal
  dsimp only
  rw [if_neg (not_not_intro idle), if_neg test]
  simp only [Head.inService, decide_eq_true_eq]
  rfl

theorem Head.newPark_eq {hd : Head} (empty : hd.window = []) (p : Point) : hd.newPark p =
    if hd.service = .inService then hd else { hd with standing := p, claim := ⟨p.x, p.x⟩ } := by
  unfold Head.newPark Head.inService
  simp only [decide_eq_true_eq]
  refine if_congr Iff.rfl rfl ?_
  simp [Head.standAt, Head.reclaim, Head.windowSegs, empty, hull]

theorem State.bedSet_alike (s : State) (n : Nat) (a b : Point) (h : HeadId) : Head.Alike (s.head h) ((s.bedSet n a b).head h) ∧
    ((s.bedSet n a b).head h).watch = (s.head h).watch := by
  have each (hd : Head) (p : Point) : Head.Alike hd (hd.newPark p) ∧ (hd.newPark p).watch = hd.watch := by
    unfold Head.newPark
    split
    · exact ⟨.refl hd, rfl⟩
    · exact ⟨⟨rfl, rfl, rfl, rfl, rfl, rfl, rfl⟩, rfl⟩
  cases h
  · exact each s.heads.a a
  · exact each s.heads.b b

theorem State.bedSet_closed {s : State} (steady : ∀ h, s.Steady h) (unwatched : ∀ h, (s.head h).watch = Watch.empty) (n : Nat) (a b : Point) :
    State.closeEvent s (s.bedSet n a b) = s.bedSet n a b := by
  have alike (h : HeadId) := (s.bedSet_alike n a b h).1
  have watch (h : HeadId) := (s.bedSet_alike n a b h).2
  refine State.closeEvent_same (fun h => (steady h).of_alike (alike h) (.inl (watch h)) rfl ((s.head h).sameHeld_of_states rfl))
    (fun h => (alike h).hold) (fun h => (State.standsBy_of_alike (alike h) _).symm) fun h watched => ?_
  rw [watch h, unwatched h] at watched
  cases watched

/-- Settles O20: ZONE SET and BED SET take their settings, or are refused by the first test that fails. -/
theorem zoneSetAndBedSetAreTaken : Obligations.ZoneSetAndBedSetAreTaken := by
  unfold Obligations.ZoneSetAndBedSetAreTaken
  dsimp only
  refine ⟨fun s p free idle fits sixteen => ⟨fun inUse => ?_, fun none => ?_⟩, fun s separation pa pb free idle fits =>
    ⟨fun near => ?_, fun parks near => ?_, fun parks clear steady quiet => ?_⟩⟩
  · refine exec_run (r := .zoneSet p) rfl free rfl (State.zoneSetRequest_refused ?_)
    rw [State.zoneSetRefusal_idle (s := s.toLead .cell) idle fits]
    refine if_pos fun zero => ?_
    obtain ⟨k, lt, on⟩ := inUse
    rw [(State.activeCount_eq_zero sixteen).mp zero k lt] at on
    cases on
  · refine ⟨s.zoneSet (zoneSettingsOf p), exec_run (r := .zoneSet p) rfl free rfl ?_, rfl, ?_, fun k lt => ?_⟩
    · have taken : (s.toLead .cell).zoneSetRefusal (zoneSettingsOf p) = Option.none := by
        rw [State.zoneSetRefusal_idle (s := s.toLead .cell) idle fits]
        exact if_neg (not_not_intro ((State.activeCount_eq_zero sixteen).mpr none))
      show State.zoneSetRequest _ _ = _
      rw [State.zoneSetRequest, taken]
      rfl
    · exact (List.length_mapIdx ..).trans sixteen
    · exact s.zoneSet_zone _ lt sixteen
  · refine exec_run (r := .bedSet separation pa pb) rfl free rfl (State.bedSetRequest_refused ?_)
    rw [State.bedSetRefusal_idle (s := s.toLead .cell) idle fits]
    exact if_pos (Nat.not_le.mpr near)
  · refine exec_run (r := .bedSet separation pa pb) rfl free rfl (State.bedSetRequest_refused ?_)
    rw [State.bedSetRefusal_idle (s := s.toLead .cell) idle fits, if_neg (not_not_intro parks)]
    exact if_pos (Nat.not_le.mpr near)
  · refine exec_run (r := .bedSet separation pa pb) rfl free rfl ?_
    have taken : (s.toLead .cell).bedSetRefusal separation.toNat (pointOf pa) (pointOf pb) = Option.none := by
      rw [State.bedSetRefusal_idle (s := s.toLead .cell) idle fits, if_neg (not_not_intro parks)]
      exact if_neg (not_not_intro clear)
    show State.bedSetRequest _ _ _ _ = _
    rw [State.bedSetRequest, taken]
    dsimp only
    rw [State.bedSet_closed (s := s.toLead .cell) steady fun h => (quiet h).2]
    have moved := (Head.newPark_eq (quiet .a).1 (pointOf pa))
    have moved' := (Head.newPark_eq (quiet .b).1 (pointOf pb))
    refine Prod.ext ?_ rfl
    show ({ s with bed := _, heads := ⟨s.heads.a.newPark _, s.heads.b.newPark _⟩ } : State).toLead .cell = _
    exact congrArg₂ (fun a b : Head => ({ s with bed := _, heads := ⟨a, b⟩ } : State).toLead .cell) moved moved'

/-! ### BLOCK-LOAD -/

theorem State.tell_unwatched {s : State} {h : HeadId} {p : Watch → Bool} (empty : (s.head h).watch = Watch.empty)
    (deaf : p Watch.empty = false) : s.tell h p = s := by
  unfold State.tell
  rw [empty, deaf]
  rfl

theorem State.tellBoth_unwatched {s : State} {p : Watch → Bool} (empty : ∀ h, (s.head h).watch = Watch.empty)
    (deaf : p Watch.empty = false) : s.tellBoth p = s := by
  rw [State.tellBoth, State.tell_unwatched (empty .a) deaf, State.tell_unwatched (empty .b) deaf]

/-- Where no head watches, a vent changes the zones alone. -/
theorem State.ventIfUnneeded_unwatched {s : State} (unwatched : ∀ h, (s.head h).watch = Watch.empty) (k : Nat) :
    ∃ zones, s.ventIfUnneeded k = { s with zones := zones } := by
  unfold State.ventIfUnneeded
  split
  · refine ⟨(s.setZone k (s.zone k).vent).zones, ?_⟩
    rw [State.ventZone, State.zoneGone, State.tellBoth_unwatched (s := s.setZone k (s.zone k).vent) unwatched]
    · rfl
    · rfl
  · exact ⟨s.zones, rfl⟩

theorem State.vents_unwatched (ks : List Nat) {s : State} (unwatched : ∀ h, (s.head h).watch = Watch.empty) :
    ∃ zones, ks.foldl State.ventIfUnneeded s = { s with zones := zones } := by
  induction ks generalizing s with
  | nil => exact ⟨s.zones, rfl⟩
  | cons k ks ih =>
    obtain ⟨zones, e⟩ := State.ventIfUnneeded_unwatched unwatched k
    rw [List.foldl_cons, e]
    exact ih (s := { s with zones := zones }) unwatched

/-- A table of zones is known by its zones. -/
theorem State.zones_ext {s : State} {zones : List Zone} (length : s.zones.length = zones.length)
    (each : ∀ k, (lt : k < zones.length) → s.zone k = zones[k]) : s.zones = zones := by
  refine List.ext_getElem length fun k lt lt' => ?_
  rw [← each k lt', State.zone, List.getD_eq_getElem _ _ lt]

theorem State.zone_getElem {s : State} {k : Nat} (lt : k < s.zones.length) : s.zone k = s.zones[k] := by
  rw [State.zone, List.getD_eq_getElem _ _ lt]

theorem NoOrphans.of_no_cuts {s : State} (empty : ∀ h, (s.head h).window = []) : NoOrphans s := by
  rw [noOrphans_iff]
  intro k _ h cuts
  rw [Head.cutsOver, empty h] at cuts
  cases cuts

theorem State.not_needed {s : State} (empty : ∀ h, (s.head h).window = []) (idle : ∀ h, (s.head h).pendingReq = none)
    (pieces : ∀ p ∈ s.pieces, p.st ≠ .severed) (k : Nat) : s.needed k = false := by
  have cuts (h : HeadId) : (s.head h).cutsOver k = false := by rw [Head.cutsOver, empty h]; rfl
  have asked (h : HeadId) : rangeHas (s.head h).pendingReq k = false := by rw [idle h]; rfl
  have severed : s.severedOver k = false := by
    unfold State.severedOver
    rw [List.any_eq_false]
    intro p member
    simp [pieces p member]
  have cutsA := cuts .a
  have cutsB := cuts .b
  have askedA := asked .a
  have askedB := asked .b
  simp only [State.head, Pair.get_a, Pair.get_b] at cutsA cutsB askedA askedB
  simp only [State.needed, cutsA, cutsB, askedA, askedB, severed, Bool.or_false]

/-- Where nothing is needed and no head watches, a re-evaluation takes every zone that is on OFF, and changes nothing else. -/
theorem State.reevaluate_all {s : State} (unwatched : ∀ h, (s.head h).watch = Watch.empty)
    (empty : ∀ h, (s.head h).window = []) (unneeded : ∀ k, s.needed k = false) (sixteen : s.zones.length = 16) :
    s.reevaluate = { s with zones := s.zones.map fun z => if z.st.on = true then z.vent else z } := by
  obtain ⟨zones, e⟩ := State.vents_unwatched (List.range Config.zoneCount) unwatched
  have orphans := NoOrphans.of_no_cuts empty
  have same : s.reevaluate.zones = s.zones.map fun z => if z.st.on = true then z.vent else z := by
    refine State.zones_ext (by rw [State.reevaluate_length, List.length_map]) fun k lt => ?_
    rw [List.length_map] at lt
    rw [State.reevaluate_zone orphans (by omega), List.getElem_map, ← State.zone_getElem lt]
    simp only [unneeded k, and_true]
  rw [← same, State.reevaluate_eq orphans, e]

theorem State.blockLoad_closed {s : State} (idle : s.job.state = .idle) (steady : ∀ h, s.Steady h)
    (quiet : ∀ h, (s.head h).window = [] ∧ (s.head h).pendingReq = none ∧ (s.head h).watch = Watch.empty)
    (sixteen : s.zones.length = 16) (layers : List Layer) (label : Option Long) :
    State.closeEvent s (s.blockLoad layers label) =
      { s with
        job := ⟨.staged, layers, label, s.job.classes⟩, pieces := [], retained := false
        zones := s.zones.map fun z => if z.st.on = true then z.vent else z } := by
  have body : s.blockLoad layers label =
      { s with
        job := ⟨.staged, layers, label, s.job.classes⟩, pieces := [], retained := false
        zones := s.zones.map fun z => if z.st.on = true then z.vent else z } :=
    State.reevaluate_all (s := { s with job := ⟨.staged, layers, label, s.job.classes⟩, pieces := [], retained := false })
      (fun h => (quiet h).2.2) (fun h => (quiet h).1)
      (State.not_needed (fun h => (quiet h).1) (fun h => (quiet h).2.1) fun p member => by cases member) sixteen
  rw [body]
  have closed : s.job.state.isOpen = false := by rw [idle]; rfl
  refine State.closeEvent_same (fun h => (steady h).of_alike (.refl _) (.inl rfl) closed.symm fun k _ looks => ?_) (fun _ => rfl)
    (fun h => by rw [closed]; rfl) fun h watched => ?_
  · obtain ⟨empty, none, -⟩ := quiet h
    rw [Head.cutsOver, empty, none] at looks
    obtain cuts | asked := looks
    · cases cuts
    · cases asked
  · have watched : (s.head h).watch.reasons.clearance = true := watched
    rw [(quiet h).2.2] at watched
    cases watched

theorem State.blockLoadRefusal_idle {s : State} (idle : s.job.state = .idle) (layers : List LayerReq) :
    s.blockLoadRefusal (layersOf layers) =
      if ¬ (1 ≤ layers.length ∧ layers.length ≤ 6 ∧
        ∀ y ∈ layers, 1 ≤ y.thickness.toNat ∧ y.thickness.toNat ≤ 400 ∧ y.cls.toNat ≤ 15) then some .badValue
      else if 400 < (layers.map fun y => y.thickness.toNat).sum then some .stackTooTall
      else if ¬ ∀ y ∈ layers, (s.job.classes.getD y.cls.toNat none).isSome = true then some .classUndefined
      else none := by
  have test : (decide ((layersOf layers).length = 0) || decide (6 < (layersOf layers).length) ||
      !(layersOf layers).all Layer.inRange) = true ↔ ¬ (1 ≤ layers.length ∧ layers.length ≤ 6 ∧
        ∀ y ∈ layers, 1 ≤ y.thickness.toNat ∧ y.thickness.toNat ≤ 400 ∧ y.cls.toNat ≤ 15) := by
    have range : (layersOf layers).all Layer.inRange = true ↔
        ∀ y ∈ layers, 1 ≤ y.thickness.toNat ∧ y.thickness.toNat ≤ 400 ∧ y.cls.toNat ≤ 15 := by
      simp only [layersOf, List.all_map, List.all_eq_true, Function.comp, Layer.inRange, Bool.and_eq_true, decide_eq_true_eq, and_assoc]
    rw [← range, layersOf, List.length_map]
    simp only [Bool.or_eq_true, decide_eq_true_eq, Bool.not_eq_true', not_and_or, Nat.not_le, Bool.not_eq_true, or_assoc,
      Nat.lt_one_iff]
  have height : stackHeight (layersOf layers) = (layers.map fun y => y.thickness.toNat).sum := by
    rw [stackHeight, layersOf, List.map_map]
    rfl
  have known : ((layersOf layers).all fun l => (s.job.classes.getD l.cls none).isSome) = false ↔
      ¬ ∀ y ∈ layers, (s.job.classes.getD y.cls.toNat none).isSome = true := by
    rw [← Bool.not_eq_true, List.all_eq_true, layersOf, List.forall_mem_map]
  unfold State.blockLoadRefusal
  rw [if_neg (not_not_intro idle), height]
  refine if_congr test rfl (if_congr Iff.rfl rfl (if_congr known rfl rfl))

/-- Settles O21: BLOCK-LOAD is tested and stages the job. -/
theorem blockLoadStages : Obligations.BlockLoadStages := by
  unfold Obligations.BlockLoadStages
  intro s layers label free idle
  dsimp only
  have refusal := State.blockLoadRefusal_idle (s := s.toLead .cell) idle layers
  refine ⟨fun bad => ?_, fun fits tall => ?_, fun fits low unknown => ?_, fun fits low known sixteen steady quiet => ?_⟩
  · refine exec_run (r := .blockLoad layers label) rfl free rfl (State.blockLoadRequest_refused ?_)
    exact refusal.trans (if_pos bad)
  · refine exec_run (r := .blockLoad layers label) rfl free rfl (State.blockLoadRequest_refused ?_)
    exact refusal.trans ((if_neg (not_not_intro fits)).trans (if_pos tall))
  · refine exec_run (r := .blockLoad layers label) rfl free rfl (State.blockLoadRequest_refused ?_)
    exact refusal.trans ((if_neg (not_not_intro fits)).trans ((if_neg (Nat.not_lt.mpr low)).trans (if_pos unknown)))
  · have taken : (s.toLead .cell).blockLoadRefusal (layersOf layers) = none :=
      refusal.trans ((if_neg (not_not_intro fits)).trans ((if_neg (Nat.not_lt.mpr low)).trans (if_neg (not_not_intro known))))
    refine ⟨{ s with
      job := ⟨.staged, layersOf layers, label, s.job.classes⟩, pieces := [], retained := false
      zones := s.zones.map fun z => if z.st.on = true then z.vent else z },
      exec_run (r := .blockLoad layers label) rfl free rfl ?_, rfl, rfl⟩
    show State.blockLoadRequest _ _ _ = _
    rw [State.blockLoadRequest, taken]
    dsimp only
    rw [State.blockLoad_closed (s := s.toLead .cell) idle steady quiet sixteen]
    rfl

end Sys2Proof.Machine

/-! PROOFS. Retired runs, the drain, and the requests that end a job's work: CLOSE and ABORT (Chapters 1 and 2). -/

namespace Sys2Proof.Machine

/-! ### Retired runs -/

theorem Head.mem_addRun_self (hd : Head) (r : Run) : r ∈ (hd.addRun r).runs :=
  List.mem_append_right _ (List.mem_cons_self ..)

/-- While the list has room a run joins the others (R23). -/
theorem Head.mem_addRun {hd : Head} (room : hd.runs.length ≤ 15) (r x : Run) : x ∈ (hd.addRun r).runs ↔ x = r ∨ x ∈ hd.runs := by
  have none : hd.runs.length - 15 = 0 := by omega
  unfold Head.addRun
  dsimp only
  rw [none, List.drop_zero, List.mem_append, List.mem_cons, or_left_comm, ← List.mem_append, List.takeWhile_append_dropWhile]

theorem Head.addRun_length {hd : Head} (room : hd.runs.length ≤ 15) (r : Run) : (hd.addRun r).runs.length = hd.runs.length + 1 := by
  have none : hd.runs.length - 15 = 0 := by omega
  have parts := congrArg List.length (List.takeWhile_append_dropWhile (p := fun q : Run => decide (q.first < r.first)) (l := hd.runs))
  rw [List.length_append] at parts
  unfold Head.addRun
  dsimp only
  rw [none, List.drop_zero, List.length_append, List.length_cons]
  omega

/-- Runs added to a list with room for them all are all in it (R23). -/
theorem Head.mem_addRuns (rs : List (Nat × Nat)) {hd : Head} (room : hd.runs.length + rs.length ≤ 16) (x : Run)
    (added : x ∈ hd.runs ∨ ∃ r ∈ rs, x = ⟨r.1, r.2, .withdrawn⟩) :
    x ∈ (rs.foldl (fun hd r => hd.addRun ⟨r.1, r.2, .withdrawn⟩) hd).runs := by
  induction rs generalizing hd with
  | nil =>
    obtain there | ⟨r, member, -⟩ := added
    · exact there
    · cases member
  | cons r rs ih =>
    rw [List.length_cons] at room
    have space : hd.runs.length ≤ 15 := by omega
    refine ih (by rw [Head.addRun_length space]; omega) ?_
    rw [Head.mem_addRun space]
    obtain there | ⟨y, member, e⟩ := added
    · exact .inl (.inr there)
    · obtain rfl | member := List.mem_cons.mp member
      · exact .inl (.inl e)
      · exact .inr ⟨y, member, e⟩

theorem stretches_length (ns : List Nat) : (stretches ns).length ≤ ns.length := by
  induction ns with
  | nil => exact Nat.le_refl _
  | cons n ns ih =>
    rw [stretches]
    split
    · next none => simp
    · next a b more some =>
      rw [some] at ih
      split <;> simp only [List.length_cons] at ih ⊢ <;> omega

theorem stretches_le (ns : List Nat) : ∀ r ∈ stretches ns, r.1 ≤ r.2 := by
  induction ns with
  | nil => exact fun r member => by cases member
  | cons n ns ih =>
    rw [stretches]
    split
    · simp
    · next a b more some =>
      rw [some, List.forall_mem_cons] at ih
      obtain ⟨le, rest⟩ := ih
      dsimp only at le
      split
      · exact List.forall_mem_cons.mpr ⟨by dsimp only; omega, rest⟩
      · exact List.forall_mem_cons.mpr ⟨Nat.le_refl n, List.forall_mem_cons.mpr ⟨le, rest⟩⟩

/-- Every number lies in one of the stretches (R23). -/
theorem mem_stretches {ns : List Nat} {m : Nat} (member : m ∈ ns) : ∃ r ∈ stretches ns, r.1 ≤ m ∧ m ≤ r.2 := by
  induction ns with
  | nil => cases member
  | cons n ns ih =>
    have later (member : m ∈ ns) := ih member
    have le := stretches_le ns
    rw [stretches]
    split
    · next none =>
      obtain rfl | member := List.mem_cons.mp member
      · exact ⟨(m, m), List.mem_cons_self .., Nat.le_refl m, Nat.le_refl m⟩
      · rw [none] at later
        obtain ⟨r, absent, -⟩ := later member
        cases absent
    · next a b more some =>
      rw [some] at later le
      have ab := le _ (List.mem_cons_self ..)
      dsimp only at ab
      split
      · next joins =>
        refine (List.mem_cons.mp member).elim (fun e => ⟨(n, b), List.mem_cons_self .., by dsimp only; omega, by dsimp only; omega⟩) fun member => ?_
        obtain ⟨r, among, low, high⟩ := later member
        obtain rfl | among := List.mem_cons.mp among
        · exact ⟨(n, b), List.mem_cons_self .., by dsimp only at low ⊢; omega, high⟩
        · exact ⟨r, List.mem_cons_of_mem _ among, low, high⟩
      · refine (List.mem_cons.mp member).elim (fun e => ⟨(n, n), List.mem_cons_self .., by dsimp only; omega, by dsimp only; omega⟩) fun member => ?_
        obtain ⟨r, among, bounds⟩ := later member
        exact ⟨r, List.mem_cons_of_mem _ among, bounds⟩

/-- Where the list of runs has room, every number withdrawn lies in a WITHDRAWN run (R23). -/
theorem Head.withdraw_withdrew {hd : Head} (room : hd.runs.length + hd.numbers.length ≤ 16) {n : Nat} (member : n ∈ hd.numbers) :
    hd.withdraw.Withdrew n := by
  obtain ⟨r, among, low, high⟩ := mem_stretches member
  refine ⟨⟨r.1, r.2, .withdrawn⟩, ?_, rfl, low, high⟩
  exact Head.mem_addRuns _ (hd := { hd with queue := [], window := [] })
    (by have few := stretches_length hd.numbers; dsimp only; omega) _ (.inr ⟨r, among, rfl⟩)

/-! ### A blade without demand -/

theorem Channel.act_off_eq (p : BladeParams) (c : Channel) : c.act p .off = if c.st.accepts = true then c.stop false else c := by
  unfold Channel.act
  cases c.st <;> rfl

theorem Head.demandOf_closed {hd : Head} {jobOpen : Bool} (closed : jobOpen = false ∨ hd.inService = false) :
    hd.demandOf jobOpen = .off := by
  unfold Head.demandOf
  refine if_pos ?_
  obtain closed | out := closed
  · rw [closed]; rfl
  · rw [out, Bool.not_false, Bool.or_true]

theorem Head.stopTimerAfter_closed {hd : Head} (stood : Bool) {jobOpen : Bool} (closed : jobOpen = false ∨ hd.inService = false) :
    hd.stopTimerAfter stood jobOpen = none := by
  unfold Head.stopTimerAfter Head.standsBy
  refine if_neg ?_
  obtain closed | out := closed
  · simp [closed]
  · simp [out]

/-- The channel of a head without an open job, or out of service, at the end of an event: its demand is OFF; it stops if it ran
(R103, R105, R109). -/
theorem Head.reworkBlade_closed {hd : Head} (stood : Bool) {jobOpen : Bool} (closed : jobOpen = false ∨ hd.inService = false)
    (rests : hd.blade.OffRests) :
    (hd.reworkBlade stood jobOpen).blade =
      { (if hd.blade.st.accepts = true then hd.blade.stop false else hd.blade) with demand := .off, stopTimer := none } := by
  show ({ hd.blade with stopTimer := hd.stopTimerAfter stood jobOpen } : Channel).setDemand hd.bladeParams
    (({ hd with blade := { hd.blade with stopTimer := hd.stopTimerAfter stood jobOpen } } : Head).demandOf jobOpen) = _
  rw [Head.demandOf_closed (hd := { hd with blade := { hd.blade with stopTimer := hd.stopTimerAfter stood jobOpen } }) closed,
    Head.stopTimerAfter_closed stood closed, Channel.setDemand]
  split
  · next same =>
    have same : hd.blade.demand = .off := same.symm
    rw [if_neg (Bool.eq_false_iff.mp (rests same)), ← same]
  · rw [Channel.act_off_eq]
    dsimp only
    cases hd.blade.st.accepts <;> rfl

/-! ### A re-evaluation that no head watches -/

theorem State.restarts_zones (ks : List Nat) (s : State) : ∃ zones, ks.foldl State.restartZone s = { s with zones := zones } := by
  induction ks generalizing s with
  | nil => exact ⟨s.zones, rfl⟩
  | cons k ks ih =>
    have first : ∃ zones, s.restartZone k = { s with zones := zones } := by
      unfold State.restartZone
      split
      · exact ⟨_, rfl⟩
      · exact ⟨s.zones, rfl⟩
    obtain ⟨zones, e⟩ := first
    rw [List.foldl_cons, e]
    exact ih { s with zones := zones }

/-- Where no head watches, a re-evaluation changes the zones alone. -/
theorem State.reevaluate_unwatched {s : State} (unwatched : ∀ h, (s.head h).watch = Watch.empty) :
    ∃ zones, s.reevaluate = { s with zones := zones } := by
  obtain ⟨vented, e⟩ := State.vents_unwatched (List.range Config.zoneCount) unwatched
  unfold State.reevaluate
  dsimp only
  rw [e]
  split
  · exact State.restarts_zones _ { s with zones := vented }
  · exact ⟨vented, rfl⟩

/-- HOLD-CHANGED on the head links. -/
def holdsChange : LinkId → AttSet
  | .head _ => AttSet.ofHoldChanged
  | .cell => AttSet.empty

theorem State.closeHead_hears_unwatched (b : State) {s : State} {h : HeadId} (unwatched : (s.head h).watch = Watch.empty) :
    State.Hears holdsChange s (State.closeHead b h s) := by
  have held : State.Hears holdsChange s (State.closeHold b h (State.closeBlade b h s)) :=
    (State.Hears.of_links rfl).trans (State.closeHold_hears b (State.closeBlade b h s) h fun _ => AttSet.below_refl _)
  have empty : ((State.closeLapse h (State.closeHold b h (State.closeBlade b h s))).head h).watch = Watch.empty := by
    simp [unwatched]
  rw [State.closeHead, State.closeWatch, State.tell_unwatched empty (by simp [Watch.empty, WaitSet.empty])]
  exact held.trans (.of_links rfl)

/-- Closing an event that no head watches raises no cause but HOLD-CHANGED (R134). -/
theorem State.closeEvent_hears_unwatched (b : State) {s : State} (unwatched : ∀ h, (s.head h).watch = Watch.empty) :
    State.Hears holdsChange s (State.closeEvent b s) := by
  have same : (State.closeHead b .a s).head .b = s.head .b := State.closeHead_head_other b s .a
  exact (State.closeHead_hears_unwatched b (unwatched .a)).trans
    (State.closeHead_hears_unwatched b (by rw [same]; exact unwatched .b))

theorem holdsChange_below (l : LinkId) : (holdsChange l).Below AttSet.ofHoldChanged := by
  cases l
  · exact AttSet.below_refl _
  · exact AttSet.empty_below _

theorem State.closeEvent_watch_empty {b s : State} {h : HeadId} (unwatched : (s.head h).watch = Watch.empty) :
    ((State.closeEvent b s).head h).watch = Watch.empty := by
  rw [State.closeEvent_watch, unwatched, ite_self]

/-! ### The drain -/

theorem State.drain_eq (s : State) : ∃ zones, s.drain = { s with
    heads := ⟨s.heads.a.drained, s.heads.b.drained⟩, job := { s.job with state := .idle }, pieces := s.pieces.map Piece.scrap
    mark := none, zones := zones } :=
  State.reevaluate_unwatched (s := { ((s.modBoth Head.drained).setJobState .idle).scrapPieces with mark := none })
    fun h => by cases h <;> rfl

theorem State.drain_head_eq (s : State) (h : HeadId) : s.drain.head h = (s.head h).drained := by
  obtain ⟨zones, e⟩ := s.drain_eq
  rw [e]
  cases h <;> rfl

theorem State.drain_zone {s : State} (empty : ∀ h, (s.head h).window = []) {j : Nat} (lt : j < 16) :
    s.drain.zone j = if (s.zone j).st.on = true ∧ s.drain.needed j = false then (s.zone j).vent else s.zone j := by
  have needed : s.drain.needed j =
      ({ ((s.modBoth Head.drained).setJobState .idle).scrapPieces with mark := none } : State).needed j :=
    State.needed_congr (by simp [State.drain]) (by simp [State.drain]) (by simp [State.drain]) j
  rw [needed]
  exact State.reevaluate_zone (s := { ((s.modBoth Head.drained).setJobState .idle).scrapPieces with mark := none })
    (NoOrphans.of_no_cuts fun h => by cases h; exact empty .a; exact empty .b) lt

theorem Piece.scrap_closed (p : Piece) : p.scrap.st ≠ .declared ∧ p.scrap.st ≠ .part := by
  rw [Piece.scrap_eq]
  dsimp only
  split
  · exact ⟨by simp, by simp⟩
  · next closed => exact not_or.mp closed

/-- A drain, closed, leaves the job drained (R12). -/
theorem State.closeEvent_drained (b : State) {s : State} (rests : ∀ h, (s.head h).blade.OffRests) :
    Drained (State.closeEvent b s.drain) := by
  obtain ⟨zones, e⟩ := s.drain_eq
  have job : s.drain.job.state = .idle := by rw [e]
  have pieces : s.drain.pieces = s.pieces.map Piece.scrap := by rw [e]
  refine ⟨by rw [State.closeEvent_job, job], by rw [State.closeEvent_mark, e], fun p member => ?_, fun h => ?_⟩
  · rw [State.closeEvent_pieces, pieces] at member
    obtain ⟨q, -, rfl⟩ := List.mem_map.mp member
    exact q.scrap_closed
  · have blade : ((State.closeEvent b s.drain).head h).blade = _ :=
      (State.closeEvent_blade b s.drain h).trans
        (Head.reworkBlade_closed _ (.inl (by rw [job]; rfl)) (by rw [State.drain_head_eq]; exact rests h))
    refine ⟨by rw [State.closeEvent_hold, job]; rfl, by rw [blade], ?_, ?_, ?_⟩
    · rw [blade]
      dsimp only
      split
      · rfl
      · next off => exact Bool.eq_false_iff.mpr off
    · exact State.closeEvent_watch_empty (by rw [State.drain_head_eq]; rfl)
    · rw [State.closeEvent_head_pendingReq, State.drain_head_eq]
      rfl

theorem State.closeEvent_drain_blade (b : State) {s : State} (rests : ∀ h, (s.head h).blade.OffRests) (h : HeadId) :
    ((State.closeEvent b s.drain).head h).blade =
      { (if (s.head h).blade.st.accepts = true then ({ (s.head h).blade with idleTimer := none } : Channel).stop false
          else { (s.head h).blade with idleTimer := none }) with demand := .off, stopTimer := none } := by
  obtain ⟨zones, e⟩ := s.drain_eq
  have job : s.drain.job.state = .idle := by rw [e]
  rw [State.closeEvent_blade, Head.reworkBlade_closed _ (.inl (by rw [job]; rfl)) (by rw [State.drain_head_eq]; exact rests h),
    State.drain_head_eq]
  rfl

theorem SameSettings.closeEvent {s x : State} (same : SameSettings s x) (b : State) : SameSettings s (State.closeEvent b x) := by
  simpa [SameSettings] using same

/-! ### CLOSE -/

theorem State.workless_iff (s : State) : s.workless = true ↔ ∀ h, (s.head h).queue = [] ∧ (s.head h).window = [] := by
  have each (hd : Head) : hd.workless = true ↔ hd.queue = [] ∧ hd.window = [] := by simp [Head.workless]
  rw [State.workless, Bool.and_eq_true, each, each]
  exact ⟨fun ⟨a, b⟩ h => by cases h; exact a; exact b, fun all => ⟨all .a, all .b⟩⟩

theorem State.closeEvent_closing {s : State} (cutting : s.job.state = .cutting) (steady : ∀ h, s.Steady h) :
    State.closeEvent s (s.setJobState .closing) = s.setJobState .closing := by
  have opens : (s.setJobState .closing).job.state.isOpen = s.job.state.isOpen := by rw [cutting]; rfl
  exact State.closeEvent_same (fun h => (steady h).of_alike (.refl _) (.inl rfl) opens ((s.head h).sameHeld_of_states rfl))
    (fun _ => rfl) (fun h => by rw [opens]; rfl) fun _ _ => rfl

theorem State.closeRequest_closes {s : State} (cutting : s.job.state = .cutting) (busy : ¬ s.workless = true)
    (steady : ∀ h, s.Steady h) : s.closeRequest = (s.setJobState .closing, .accepted (.job .closing)) := by
  rw [State.closeRequest, if_neg (not_not_intro cutting), if_neg busy, State.closeEvent_closing cutting steady]
  rfl

theorem State.closeRequest_drains {s : State} (cutting : s.job.state = .cutting) (workless : s.workless = true) :
    s.closeRequest = (State.closeEvent s s.drain, .accepted (.job .idle)) := by
  obtain ⟨zones, e⟩ := s.drain_eq
  have job : (State.closeEvent s s.drain).job.state = .idle := by rw [State.closeEvent_job, e]
  rw [State.closeRequest, if_neg (not_not_intro cutting), if_pos workless]
  dsimp only
  rw [job]

/-- What a drain with nothing queued or granted leaves (R12). -/
structure DrainsQuietly (s t : State) : Prop where
  settings : SameSettings s t
  drained : Drained t
  path : ∀ h, SamePath s t h
  vents : VentsUnneeded s t
  hears : State.Hears holdsChange s t
  pieces : t.pieces = s.pieces.map Piece.scrap

theorem State.closeEvent_drains {s : State} (empty : ∀ h, (s.head h).window = []) (rests : ∀ h, (s.head h).blade.OffRests) :
    DrainsQuietly s (State.closeEvent s s.drain) := by
  obtain ⟨zones, e⟩ := s.drain_eq
  refine ⟨SameSettings.closeEvent ?_ s, State.closeEvent_drained s rests, fun h => ?_, fun k lt => ?_, ?_, ?_⟩
  · rw [e]
    exact ⟨rfl, rfl, rfl, rfl, rfl, rfl, rfl, rfl, rfl, rfl, rfl, fun h => by cases h <;> exact ⟨rfl, rfl, rfl⟩⟩
  · simp only [SamePath, SameNumbering, SamePlace, State.closeEvent_head_queue, State.closeEvent_head_window,
      State.closeEvent_head_ref, State.closeEvent_head_service, State.closeEvent_head_nextSeq, State.closeEvent_head_runs,
      State.closeEvent_head_floor, State.closeEvent_head_standing, State.closeEvent_head_claim, State.drain_head_eq]
    exact ⟨rfl, rfl, rfl, rfl, ⟨rfl, rfl, rfl⟩, rfl, rfl⟩
  · have needed : (State.closeEvent s s.drain).needed k = s.drain.needed k :=
      State.needed_congr (by simp) (by simp) (by simp) k
    rw [State.zone_closeEvent, State.drain_zone empty lt, needed]
    rfl
  · have links : s.drain.links = s.links := by rw [e]
    exact (State.Hears.of_links links).trans (State.closeEvent_hears_unwatched s fun h => by rw [State.drain_head_eq]; rfl)
  · rw [State.closeEvent_pieces, e]

/-- Settles O23: CLOSE drains an empty job, and closes another. -/
theorem closeDrainsOrWaits : Obligations.CloseDrainsOrWaits := by
  refine fun s free => ⟨fun other => ?_, fun cutting steady => ⟨fun work => ?_, fun idle _ => ?_⟩⟩
  · exact exec_run (r := .close) rfl free rfl (if_pos other)
  · have busy : ¬ s.workless = true := by
      rw [State.workless_iff]
      intro none
      obtain ⟨h, queue | window⟩ := work
      · exact queue (none h).1
      · exact window (none h).2
    exact exec_run (t := s.setJobState .closing) (r := .close) rfl free rfl
      (State.closeRequest_closes (s := s.toLead .cell) cutting busy steady)
  · have rests (h : HeadId) : (s.head h).blade.OffRests := (steady h).2.2.2.1.2.1
    have drains := State.closeEvent_drains (s := s.toLead .cell) (fun h => (idle h).2) rests
    obtain ⟨t, run, took⟩ := exec_taken (c := .close .cell) (r := .close) rfl free rfl
      (State.closeRequest_drains (s := s.toLead .cell) cutting ((State.workless_iff s).mpr idle))
      drains.hears
    have blade (h : HeadId) := (congrArg Head.blade (took.head h)).trans (State.closeEvent_drain_blade _ (s := s.toLead .cell) rests h)
    have same := took.rest
    refine ⟨t, run, took.answers, ?_, ?_, fun h => ?_, ?_, took.raisesOnly (drains.hears.raisesOnly holdsChange_below), ?_,
      fun h runs => ?_, fun h off => ?_⟩
    · rw [same]
      exact drains.settings
    · rw [same]
      exact drains.drained
    · rw [same]
      exact drains.path h
    · rw [same]
      exact drains.vents
    · rw [same, ← Piece.scrap_eq]
      exact drains.pieces
    · have runs : ((s.toLead .cell).head h).blade.st.accepts = true := runs
      rw [blade h, if_pos runs]
      exact ⟨rfl, rfl⟩
    · have off : ¬ ((s.toLead .cell).head h).blade.st.accepts = true := Bool.eq_false_iff.mp off
      rw [blade h, if_neg off]
      exact ⟨rfl, rfl⟩

end Sys2Proof.Machine

/-! PROOFS. ABORT and OPEN (Chapter 1). -/

namespace Sys2Proof.Machine

/-! ### ABORT -/

theorem State.abort_eq (s : State) : ∃ zones, s.abort = { s with
    heads := ⟨s.heads.a.aborted, s.heads.b.aborted⟩, job := { s.job with state := .idle }, pieces := s.pieces.map Piece.scrap
    mark := none, zones := zones } :=
  State.reevaluate_unwatched (s := { ((s.modBoth Head.aborted).setJobState .idle).scrapPieces with mark := none })
    fun h => by cases h <;> rfl

theorem State.abort_head_eq (s : State) (h : HeadId) : s.abort.head h = (s.head h).aborted := by
  obtain ⟨zones, e⟩ := s.abort_eq
  rw [e]
  cases h <;> rfl

theorem Head.aborted_settings (hd : Head) :
    hd.aborted.cut = hd.cut ∧ hd.aborted.bladeParams = hd.bladeParams ∧ hd.aborted.guard = hd.guard := by
  obtain ⟨runs, floor, e⟩ := hd.aborted_eq
  rw [e]
  exact ⟨rfl, rfl, rfl⟩

theorem State.abort_settings (s : State) : SameSettings s s.abort := by
  have settings (h : HeadId) : (s.abort.head h).cut = (s.head h).cut ∧ (s.abort.head h).bladeParams = (s.head h).bladeParams ∧
      (s.abort.head h).guard = (s.head h).guard := by
    rw [State.abort_head_eq]
    exact (s.head h).aborted_settings
  obtain ⟨zones, e⟩ := s.abort_eq
  rw [e] at settings ⊢
  exact ⟨rfl, rfl, rfl, rfl, rfl, rfl, rfl, rfl, rfl, rfl, rfl, settings⟩

theorem State.abort_zone (s : State) {j : Nat} (lt : j < 16) :
    s.abort.zone j = if (s.zone j).st.on = true ∧ s.abort.needed j = false then (s.zone j).vent else s.zone j := by
  have needed : s.abort.needed j =
      ({ ((s.modBoth Head.aborted).setJobState .idle).scrapPieces with mark := none } : State).needed j :=
    State.needed_congr (by simp [State.abort]) (by simp [State.abort]) (by simp [State.abort]) j
  have empty (hd : Head) : hd.aborted.window = [] := by
    obtain ⟨runs, floor, e⟩ := hd.aborted_eq
    rw [e]
  rw [needed]
  exact State.reevaluate_zone (s := { ((s.modBoth Head.aborted).setJobState .idle).scrapPieces with mark := none })
    (NoOrphans.of_no_cuts fun h => by cases h; exact empty _; exact empty _) lt

/-- The channel of an aborted head stops under the abort stop action where it ran (R14, R130). -/
theorem State.closeEvent_abort_blade (s : State) (h : HeadId) :
    ((State.closeEvent s s.abort).head h).blade =
      { (s.head h).blade.abortStop (s.head h).guard.abortAction with stopTimer := none } := by
  obtain ⟨zones, e⟩ := s.abort_eq
  have job : s.abort.job.state = .idle := by rw [e]
  have off : (s.head h).aborted.blade = (s.head h).blade.abortStop (s.head h).guard.abortAction := by
    obtain ⟨runs, floor, e⟩ := (s.head h).aborted_eq
    rw [e]
  have rests : ((s.head h).blade.abortStop (s.head h).guard.abortAction).st.accepts = false := by
    obtain ⟨-, e⟩ | ⟨rests, e⟩ := (s.head h).blade.abortStop_eq (s.head h).guard.abortAction
    · rw [e]; rfl
    · rw [e]; exact rests
  have demand : ((s.head h).blade.abortStop (s.head h).guard.abortAction).demand = .off := rfl
  rw [State.closeEvent_blade, State.abort_head_eq,
    Head.reworkBlade_closed _ (.inl (by rw [job]; rfl)) (by rw [off]; exact fun _ => rests), off, rests,
    if_neg Bool.false_ne_true, ← demand]

/-- What ABORT leaves of a head (R14, R15). -/
theorem State.closeEvent_abort_head (s : State) (h : HeadId) :
    let t := State.closeEvent s s.abort
    (t.head h).queue = [] ∧ (t.head h).window = [] ∧ (t.head h).nextSeq = (s.head h).nextSeq ∧
      (t.head h).ref = (s.head h).ref ∧ (t.head h).service = (s.head h).service ∧
      (t.head h).standing = (s.head h).standing ∧
      (t.head h).claim = ⟨(s.head h).standing.x, (s.head h).standing.x⟩ ∧
      (t.head h).overdue = ⟨.stopped, 0, 0⟩ ∧ (t.head h).hold.overdue = false ∧ (t.head h).hold.noJob = true ∧
      (t.head h).hold.cellHold = (s.head h).hold.cellHold ∧ (t.head h).watch = Watch.empty ∧
      (t.head h).pendingReq = none := by
  obtain ⟨zones, e⟩ := s.abort_eq
  have job : s.abort.job.state = .idle := by rw [e]
  have hold := State.closeEvent_hold s s.abort h
  have watch : (s.head h).aborted.watch = Watch.empty := rfl
  obtain ⟨runs, floor, aborted⟩ := (s.head h).aborted_eq
  dsimp only
  simp only [State.closeEvent_head_queue, State.closeEvent_head_window, State.closeEvent_head_nextSeq, State.closeEvent_head_ref,
    State.closeEvent_head_service, State.closeEvent_head_standing, State.closeEvent_head_claim, State.closeEvent_head_pendingReq,
    State.closeEvent_overdue, hold, State.closeEvent_watch_empty (by rw [State.abort_head_eq, watch]), State.abort_head_eq, aborted, job, true_and,
    and_true]
  exact ⟨rfl, rfl⟩

theorem State.abortRequest_taken {s : State} (busy : s.job.state ≠ .idle) :
    s.abortRequest = (State.closeEvent s s.abort, .accepted (.job .idle)) := by
  obtain ⟨zones, e⟩ := s.abort_eq
  have job : (State.closeEvent s s.abort).job.state = .idle := by rw [State.closeEvent_job, e]
  rw [State.abortRequest, if_neg busy]
  dsimp only
  rw [job]

theorem State.closeEvent_abort_hears (s : State) : State.Hears holdsChange s (State.closeEvent s s.abort) := by
  obtain ⟨zones, e⟩ := s.abort_eq
  have links : s.abort.links = s.links := by rw [e]
  exact (State.Hears.of_links links).trans (State.closeEvent_hears_unwatched s fun h => by rw [State.abort_head_eq]; rfl)

theorem State.closeEvent_abort_vents (s : State) : VentsUnneeded s (State.closeEvent s s.abort) := fun k lt => by
  have needed : (State.closeEvent s s.abort).needed k = s.abort.needed k := State.needed_congr (by simp) (by simp) (by simp) k
  rw [State.zone_closeEvent, State.abort_zone s lt, needed]
  rfl

/-- Settles O24: ABORT empties both heads and stops what runs. -/
theorem abortStopsEverything : Obligations.AbortStopsEverything := by
  refine fun s free => ⟨fun idle => exec_run (r := .abort) rfl free rfl (if_pos idle), fun busy _ => ?_⟩
  have hears := State.closeEvent_abort_hears (s.toLead .cell)
  obtain ⟨t, run, took⟩ := exec_taken (c := .abort .cell) (r := .abort) rfl free rfl
    (State.abortRequest_taken (s := s.toLead .cell) busy) hears
  obtain ⟨zones, e⟩ := (s.toLead .cell).abort_eq
  have same := took.rest
  refine ⟨t, run, took.answers, ?_, ?_, ?_, ?_, took.raisesOnly (hears.raisesOnly holdsChange_below), ?_, ?_, fun h => ?_⟩
  · rw [same]
    exact SameSettings.closeEvent (s.toLead .cell).abort_settings (s.toLead .cell)
  · rw [same]
    show (State.closeEvent _ _).job.state = _
    rw [State.closeEvent_job, e]
  · rw [same]
    show (State.closeEvent _ _).mark = _
    rw [State.closeEvent_mark, e]
  · rw [same]
    exact State.closeEvent_abort_vents (s.toLead .cell)
  · rw [same]
    show (State.closeEvent _ _).retained = _
    rw [State.closeEvent_retained, e]
    rfl
  · rw [same, ← Piece.scrap_eq]
    show (State.closeEvent _ _).pieces = _
    rw [State.closeEvent_pieces, e]
    rfl
  · obtain ⟨queue, window, next, ref, service, standing, claim, overdue, suspended, noJob, cell, watch, request⟩ :=
      State.closeEvent_abort_head (s.toLead .cell) h
    have blade := State.closeEvent_abort_blade (s.toLead .cell) h
    have runs : ((State.closeEvent (s.toLead .cell) (s.toLead .cell).abort).head h).runs = ((s.toLead .cell).head h).aborted.runs := by
      rw [State.closeEvent_head_runs, State.abort_head_eq]
    rw [took.head h]
    refine ⟨queue, window, next, ref, service, standing, claim, overdue, suspended, noJob, cell, watch, request, ?_⟩
    rw [blade]
    obtain ⟨accepts, stops⟩ | ⟨rests, stays⟩ := ((s.toLead .cell).head h).blade.abortStop_eq ((s.toLead .cell).head h).guard.abortAction
    · rw [stops]
      refine ⟨rfl, rfl, rfl, rfl, rfl, rfl, fun _ => ⟨rfl, decide_eq_true_iff⟩, fun off => ?_, fun room n member => ?_⟩
      · exact absurd (accepts.symm.trans off) (by decide)
      · obtain ⟨r, among, bounds⟩ := Head.withdraw_withdrew (hd := s.head h) room member
        exact ⟨r, by rw [runs]; exact among, bounds⟩
    · rw [stays]
      refine ⟨rfl, rfl, rfl, rfl, rfl, rfl, fun on => ?_, fun _ => ⟨rfl, rfl⟩, fun room n member => ?_⟩
      · exact absurd (rests.symm.trans on) (by decide)
      · obtain ⟨r, among, bounds⟩ := Head.withdraw_withdrew (hd := s.head h) room member
        exact ⟨r, by rw [runs]; exact among, bounds⟩

/-! ### A blade that is asked for IDLE -/

/-- A channel at rest that is asked for IDLE climbs where it is stopped (R107). -/
theorem Channel.act_idle_rests (p : BladeParams) {c : Channel} (rests : c.st.accepts = false) :
    c.act p .idle = if c.st = .stopped then c.spinUp p .idle else c := by
  unfold Channel.act
  generalize c.st = st at rests
  cases st with
  | stopped | retryWait | faulted => rfl
  | spinup | settling | run => cases rests

/-- The channel of a head at rest that an open job now has in service: the stop-delay timer starts, its demand is IDLE, and it climbs
if it stood stopped (R103, R105, R107). -/
theorem Head.reworkBlade_opens {hd : Head} (serves : hd.inService = true) (quiet : hd.cutCondition = false)
    (off : hd.blade.demand = .off) (rests : hd.blade.st.accepts = false) :
    (hd.reworkBlade false true).blade =
      { (if hd.blade.st = .stopped then hd.blade.spinUp hd.bladeParams .idle else hd.blade) with
        demand := .idle, stopTimer := some (hd.bladeParams.stopDelay * 1000000) } := by
  have stands : hd.standsBy true = true := by rw [Head.standsBy, serves, quiet]; rfl
  have timer : hd.stopTimerAfter false true = some (hd.bladeParams.stopDelay * 1000000) := if_pos stands
  have demand : ({ hd with blade := { hd.blade with stopTimer := some (hd.bladeParams.stopDelay * 1000000) } } : Head).demandOf true =
      .idle := by
    have serves : ({ hd with blade := { hd.blade with stopTimer := some (hd.bladeParams.stopDelay * 1000000) } } : Head).inService =
        true := serves
    have quiet : ({ hd with blade := { hd.blade with stopTimer := some (hd.bladeParams.stopDelay * 1000000) } } : Head).cutCondition =
        false := quiet
    rw [Head.demandOf, serves, quiet]
    rfl
  show ({ hd.blade with stopTimer := hd.stopTimerAfter false true } : Channel).setDemand hd.bladeParams
    (({ hd with blade := { hd.blade with stopTimer := hd.stopTimerAfter false true } } : Head).demandOf true) = _
  rw [timer, demand, Channel.setDemand, if_neg (by rw [off]; decide),
    Channel.act_idle_rests _ (c := { hd.blade with stopTimer := some (hd.bladeParams.stopDelay * 1000000) }) rests]
  dsimp only
  split <;> rfl

/-! ### OPEN -/

theorem State.openRefusal_staged {s : State} (staged : s.job.state = .staged) (homeA homeB : Point) :
    s.openRefusal homeA homeB =
      if ((s.head .a).service = .inService ∧ ¬ (homeA.x ≤ 31999 ∧ homeA.y ≤ 20999)) ∨
          ((s.head .b).service = .inService ∧ ¬ (homeB.x ≤ 31999 ∧ homeB.y ≤ 20999)) then some .badValue
      else if ¬ (s.home .a homeA).x + s.bed.separation ≤ (s.home .b homeB).x then some .homesTooClose
      else none := by
  have off (hd : Head) (p : Point) : (hd.inService && !inBed p) = true ↔
      hd.service = .inService ∧ ¬ (p.x ≤ 31999 ∧ p.y ≤ 20999) := by
    rw [← inBed_iff, Head.inService, Bool.and_eq_true, decide_eq_true_iff, Bool.not_eq_true', Bool.not_eq_true]
  unfold State.openRefusal
  rw [if_neg (by rw [staged]; decide)]
  refine if_congr ?_ rfl rfl
  rw [Bool.or_eq_true, off, off]
  rfl

theorem State.openJob_head (s : State) (a b : Point) (h : HeadId) :
    (s.openJob a b).head h = (s.head h).openAt (s.home h ((⟨a, b⟩ : Pair Point).get h)) := by
  cases h <;> rfl

/-- The head of an opened job, at the end of the event (R10). -/
theorem State.closeEvent_opened {s : State} (staged : s.job.state = .staged) {h : HeadId} (steady : s.Steady h)
    (empty : (s.head h).window = []) (quiet : (s.head h).blade.idleTimer = none) (a b : Point) {p : Point}
    (place : s.home h ((⟨a, b⟩ : Pair Point).get h) = p) :
    let t := State.closeEvent s (s.openJob a b)
    (t.head h).queue = [] ∧ (t.head h).window = [] ∧ (t.head h).nextSeq = 1 ∧ (t.head h).runs = [] ∧
      (t.head h).floor = 1 ∧ (t.head h).ref = ⟨p, none, .standing⟩ ∧ (t.head h).standing = p ∧
      (t.head h).claim = ⟨p.x, p.x⟩ ∧ (t.head h).service = (s.head h).service ∧
      (t.head h).hold.noJob = false ∧ (t.head h).hold.cellHold = (s.head h).hold.cellHold ∧
      (t.head h).pendingReq = (s.head h).pendingReq ∧ (t.head h).overdue = (s.head h).overdue ∧
      (t.link (.head h)).attention.holdChanged = true ∧
      (t.head h).blade = if (s.head h).service = .inService then
          { (if (s.head h).blade.st = .stopped
              then ({ (s.head h).blade with trim := 16 } : Channel).spinUp (s.head h).bladeParams .idle
              else { (s.head h).blade with trim := 16 }) with
            demand := .idle, stopTimer := some ((s.head h).bladeParams.stopDelay * 1000000) }
        else { (s.head h).blade with trim := 16 } := by
  have closed : s.job.state.isOpen = false := by rw [staged]; rfl
  have head : (s.openJob a b).head h = (s.head h).openAt p := by rw [State.openJob_head, place]
  obtain ⟨holds, overdue, -, ⟨demand, rests, timer⟩, -⟩ := steady
  have stood : (s.head h).standsBy s.job.state.isOpen = false := by rw [closed]; rfl
  have off : (s.head h).blade.demand = .off := demand.trans (Head.demandOf_closed (.inl closed))
  have noTimer : (s.head h).blade.stopTimer = none := by
    refine Option.not_isSome_iff_eq_none.mp fun runs => ?_
    rw [stood] at timer
    cases timer runs
  have line (held : Bool) : (s.head h).overdue.follow held = (s.head h).overdue := by
    unfold Overdue.follow
    rw [((Head.overdueFollows_empty empty).mp overdue).1]
  have hold := State.closeEvent_hold s (s.openJob a b) h
  have opened : (s.openJob a b).job.state.isOpen = true := rfl
  have noJob : ((State.closeEvent s (s.openJob a b)).head h).hold.noJob = false := by rw [hold]; rfl
  have raised : ((State.closeEvent s (s.openJob a b)).link (.head h)).attention.holdChanged = true := by
    refine State.closeEvent_raises _ _ h fun same => ?_
    rw [same, holds, State.holdNow, closed] at noJob
    cases noJob
  have blade := State.closeEvent_blade s (s.openJob a b) h
  have cell : ((State.closeEvent s (s.openJob a b)).head h).hold.cellHold = (s.head h).hold.cellHold := by rw [hold, head]; rfl
  dsimp only
  rw [stood, opened, head] at blade
  rw [State.closeEvent_head_queue, State.closeEvent_head_window, State.closeEvent_head_nextSeq, State.closeEvent_head_runs,
    State.closeEvent_head_floor, State.closeEvent_head_ref, State.closeEvent_head_standing, State.closeEvent_head_claim,
    State.closeEvent_head_service, State.closeEvent_head_pendingReq, State.closeEvent_overdue, blade, head]
  refine ⟨rfl, rfl, rfl, rfl, rfl, rfl, rfl, rfl, rfl, noJob, cell, rfl, line _, raised, ?_⟩
  split
  · next serves =>
    have noCut : ((s.head h).openAt p).cutCondition = false := by
      show (Head.holdsCut _ || (s.head h).blade.idleTimer.isSome) = false
      rw [quiet]
      rfl
    exact Head.reworkBlade_opens (hd := (s.head h).openAt p) (decide_eq_true serves) noCut off (rests off)
  · next out =>
    rw [Head.reworkBlade_closed (hd := (s.head h).openAt p) false (.inr (decide_eq_false out)) rests]
    have idle : ¬ ((s.head h).openAt p).blade.st.accepts = true := Bool.eq_false_iff.mp (rests off)
    rw [if_neg idle, ← noTimer, ← off]
    rfl

theorem State.closeEvent_openJob_hears (s : State) (a b : Point) :
    State.Hears (fun _ => AttSet.ofHoldChanged.union AttSet.ofWaitCleared) s (State.closeEvent s (s.openJob a b)) :=
  (State.Hears.of_links rfl).trans ((State.closeEvent_hears s _).mono fun l => closes_below _ _ l)

theorem State.openRequest_refused {s : State} {homeA homeB : PointReq} {reason : Reason}
    (refuses : s.openRefusal (pointOf homeA) (pointOf homeB) = some reason) :
    s.openRequest homeA homeB = (s, .refused reason .none) := by
  rw [State.openRequest, refuses]

theorem State.openRequest_taken {s : State} {homeA homeB : PointReq} (fits : s.openRefusal (pointOf homeA) (pointOf homeB) = none) :
    s.openRequest homeA homeB =
      (State.closeEvent s (s.openJob (pointOf homeA) (pointOf homeB)), .accepted (.job .cutting)) := by
  rw [State.openRequest, fits]
  dsimp only
  rw [State.closeEvent_job]
  rfl

/-- The effective home point of a head, as OPEN gives them (R9). -/
theorem State.home_eq (s : State) (homeA homeB : PointReq) (h : HeadId) :
    s.home h ((⟨pointOf homeA, pointOf homeB⟩ : Pair Point).get h) =
      if (s.head h).service = .inService then
        (match h with | .a => (⟨homeA.x.toNat, homeA.y.toNat⟩ : Point) | .b => ⟨homeB.x.toNat, homeB.y.toNat⟩)
      else s.park h := by
  unfold State.home Head.inService
  simp only [decide_eq_true_eq]
  cases h <;> rfl

theorem State.homes_onBed {s : State} {homeA homeB : PointReq}
    (onBed : ∀ h, (s.head h).service = .inService →
      (s.home h ((⟨pointOf homeA, pointOf homeB⟩ : Pair Point).get h)).x ≤ 31999 ∧
        (s.home h ((⟨pointOf homeA, pointOf homeB⟩ : Pair Point).get h)).y ≤ 20999) :
    ¬ (((s.head .a).service = .inService ∧ ¬ ((pointOf homeA).x ≤ 31999 ∧ (pointOf homeA).y ≤ 20999)) ∨
      ((s.head .b).service = .inService ∧ ¬ ((pointOf homeB).x ≤ 31999 ∧ (pointOf homeB).y ≤ 20999))) := by
  have given (h : HeadId) (serves : (s.head h).service = .inService) :
      s.home h ((⟨pointOf homeA, pointOf homeB⟩ : Pair Point).get h) = (⟨pointOf homeA, pointOf homeB⟩ : Pair Point).get h :=
    if_pos (decide_eq_true serves)
  rintro (⟨serves, off⟩ | ⟨serves, off⟩)
  · have there := onBed .a serves
    rw [given .a serves] at there
    exact off there
  · have there := onBed .b serves
    rw [given .b serves] at there
    exact off there

/-- Settles O22: OPEN begins the job at the home points, or is refused by the first test that fails. -/
theorem openBeginsTheJob : Obligations.OpenBeginsTheJob := by
  unfold Obligations.OpenBeginsTheJob
  dsimp only
  intro s homeA homeB free
  have staging (staged : s.job.state = .staged) := State.openRefusal_staged (s := s.toLead .cell) staged (pointOf homeA) (pointOf homeB)
  refine ⟨fun other => ?_, fun staged off => ?_, fun staged steady quiet => ?_⟩
  · exact exec_run (r := .openJob homeA homeB) rfl free rfl (State.openRequest_refused (if_pos other))
  · refine exec_run (r := .openJob homeA homeB) rfl free rfl (State.openRequest_refused ((staging staged).trans (if_pos ?_)))
    have beyond (p : PointReq) (far : 31999 < p.x.toNat ∨ 20999 < p.y.toNat) :
        ¬ ((pointOf p).x ≤ 31999 ∧ (pointOf p).y ≤ 20999) := fun near => by
      obtain ⟨x, y⟩ := near
      exact far.elim (fun far => absurd x (Nat.not_le.mpr far)) fun far => absurd y (Nat.not_le.mpr far)
    exact off.imp (And.imp_right (beyond homeA)) (And.imp_right (beyond homeB))
  · intro onBed
    have homes := State.home_eq (s.toLead .cell) homeA homeB
    have test := (staging staged).trans (if_neg (State.homes_onBed (s := s.toLead .cell) fun h serves => by
      rw [homes h]
      exact onBed h serves))
    have homeA' := homes .a
    have homeB' := homes .b
    simp only [Pair.get_a, Pair.get_b] at homeA' homeB'
    rw [homeA', homeB'] at test
    refine ⟨fun near => ?_, fun apart => ?_⟩
    · exact exec_run (r := .openJob homeA homeB) rfl free rfl
        (State.openRequest_refused (test.trans (if_pos (Nat.not_le.mpr near))))
    · have hears := State.closeEvent_openJob_hears (s.toLead .cell) (pointOf homeA) (pointOf homeB)
      obtain ⟨t, run, took⟩ := exec_taken (c := .openJob .cell homeA homeB) (r := .openJob homeA homeB) rfl free rfl
        (State.openRequest_taken (s := s.toLead .cell) (test.trans (if_neg (not_not_intro apart)))) hears
      have same := took.rest
      refine ⟨t, run, took.answers, ?_, ?_, ?_, ?_, took.raisesOnly (hears.raisesOnly fun _ => AttSet.below_refl _), fun h => ?_⟩
      · rw [same]
        exact SameSettings.closeEvent (s := s.toLead .cell) (x := (s.toLead .cell).openJob (pointOf homeA) (pointOf homeB))
          ⟨rfl, rfl, rfl, rfl, rfl, rfl, rfl, rfl, rfl, rfl, rfl, fun h => by cases h <;> exact ⟨rfl, rfl, rfl⟩⟩ (s.toLead .cell)
      · rw [same]
        exact ⟨State.closeEvent_zones .., State.closeEvent_mark ..⟩
      · rw [same]
        exact ⟨State.closeEvent_pieces .., State.closeEvent_retained ..⟩
      · rw [same]
        show (State.closeEvent _ _).job.state = _
        rw [State.closeEvent_job]
        rfl
      · obtain ⟨queue, window, next, runs, floor, ref, standing, claim, service, noJob, cell, request, overdue, raised, blade⟩ :=
          State.closeEvent_opened (s := s.toLead .cell) staged (steady h) (quiet h).1 (quiet h).2 (pointOf homeA) (pointOf homeB) (homes h)
        rw [took.attention, took.head h]
        refine ⟨queue, window, next, runs, floor, ref, standing, claim, service, noJob, cell, request, overdue, raised,
          fun out => ?_, fun serves => ?_⟩
        · exact blade.trans (if_neg out)
        · rw [blade, if_pos (by exact serves)]
          refine ⟨rfl, ?_, rfl, fun climbs => ?_, fun stopped => ?_⟩
          · dsimp only
            split <;> rfl
          · rw [if_neg (by exact climbs)]
            rfl
          · rw [if_pos (by exact stopped)]
            exact ⟨rfl, rfl, rfl, rfl, rfl, rfl, rfl⟩

end Sys2Proof.Machine

/-! PROOFS. The eleven checks of SEGMENT in the manual's words, and the joining of the queue (R24 to R36). -/

namespace Sys2Proof.Machine

/-! ### Check 4 -/

theorem badPieceId_iff (n : Nat) : badPieceId n = true ↔ n = 0 ∨ 250 < n := by
  simp [badPieceId]

theorem segFieldsBad_iff (r : SegmentReq) : segFieldsBad r = true ↔ SegOutOfRange r := by
  unfold segFieldsBad SegOutOfRange
  cases kind : segKindOf r.kind with
  | none => simp
  | some k => cases k <;> simp [SegKind.isArc, badPieceId_iff, or_assoc]

theorem segBedBad_iff (r : SegmentReq) :
    (!inBed (pointOf r.first) || !inBed (pointOf r.last) || decide (Config.bedX < r.xlo.toNat) ||
      decide (Config.bedX < r.xhi.toNat)) = true ↔ SegOffBed r := by
  rw [Bool.or_eq_true, Bool.or_eq_true, Bool.or_eq_true, decide_eq_true_iff, decide_eq_true_iff]
  simp only [SegOffBed, Bool.not_eq_true', ← Bool.not_eq_true, inBed_iff, pointOf, not_and_or, not_le, or_assoc, Config.bedX]

theorem segCheck4_none_iff (r : SegmentReq) : segCheck4 r = none ↔ ¬ SegOutOfRange r ∧ ¬ SegOffBed r := by
  rw [segCheck4, ← segFieldsBad_iff, ← segBedBad_iff, refuse, refuse]
  split
  · simp_all
  · split <;> simp_all

/-- Check 4 is that each field lies in its range and on the bed (R28). -/
theorem inRanges_of_not {r : SegmentReq} {k : SegKind} (kind : segKindOf r.kind = some k) (ranged : ¬ SegOutOfRange r)
    (onBed : ¬ SegOffBed r) : (segmentOf r k).InRanges := by
  simp only [SegOutOfRange, kind, not_or, not_exists, not_and, Option.some.injEq, reduceCtorEq, not_false_eq_true, true_and,
    not_lt] at ranged
  obtain ⟨radius, entry, exit, length, span, tags⟩ := ranged
  simp only [SegOffBed, not_or, not_lt] at onBed
  obtain ⟨firstX, firstY, lastX, lastY, -, xhi⟩ := onBed
  obtain ⟨arc, straight⟩ := radius k rfl
  have positive : 1 ≤ r.length.toNat := by
    have : r.length.toNat ≠ 0 := fun zero => length (BitVec.eq_of_toNat_eq zero)
    omega
  refine ⟨?_, entry, exit, positive, span, fun t member => ?_, firstX, firstY, lastX, lastY, xhi⟩
  · have none (straightly : k = .line ∨ k = .air) : r.radius.map BitVec.toNat = none := by
      simpa using straight straightly
    have some (arcs : k = .arcCw ∨ k = .arcCcw) : ∃ x ∈ r.radius.map BitVec.toNat, 1 ≤ x := by
      have nonzero := arc arcs
      cases e : r.radius with
      | none => exact absurd (by rw [e]; rfl) nonzero
      | some v =>
        refine ⟨v.toNat, rfl, ?_⟩
        rw [e, Option.getD_some] at nonzero
        have : v.toNat ≠ 0 := fun zero => nonzero (BitVec.eq_of_toNat_eq zero)
        omega
    cases k with
    | line => exact none (.inl rfl)
    | arcCw => exact some (.inl rfl)
    | arcCcw => exact some (.inr rfl)
    | air => exact none (.inr rfl)
  · obtain ⟨v, given, rfl⟩ := List.mem_map.mp member
    have := tags v given
    omega

/-! ### Checks 5 and 6 -/

theorem Head.segPlaced_iff (hd : Head) (g : Segment) : hd.SegPlaced g ↔ hd.segCheck5 g = none ∧ segCheck6 g = none := by
  refine ⟨fun placed => ⟨Head.segCheck5_of_placed placed, Head.segCheck6_of_placed placed⟩, fun ⟨fifth, sixth⟩ => ?_⟩
  have first : g.first = hd.ref.point := by
    by_contra other
    simp [Head.segCheck5, other] at fifth
  cases arc : g.kind.isArc with
  | true =>
    refine ⟨first, fun _ => ?_, fun straight => absurd (g.isArc_iff.mp arc) straight⟩
    simpa [segCheck6, arc, refuse, and_assoc] using sixth
  | false =>
    refine ⟨first, fun arcs => absurd arcs (g.isArc_eq_false_iff.mp arc), fun _ => ?_⟩
    simpa [segCheck6, arc, refuse] using sixth

theorem segCheck6_of_not_placed {hd : Head} {g : Segment} (meets : g.first = hd.ref.point) (unplaced : ¬ hd.SegPlaced g) :
    segCheck6 g = some (.refused .extentMismatch .none) := by
  rw [Head.segPlaced_iff, Head.segCheck5, if_pos meets] at unplaced
  exact if_neg fun good => unplaced ⟨rfl, if_pos good⟩

/-! ### Checks 8 to 11 -/

theorem Segment.plausibleLength_iff (g : Segment) : g.PlausibleLength ↔ segCheck8 g = none := by
  unfold Segment.PlausibleLength
  rw [← g.isArc_iff]
  cases arc : g.kind.isArc <;> simp [segCheck8, arc, refuse, ceilDiv, and_assoc]

theorem segCheck8_of_implausible {g : Segment} (bad : ¬ g.PlausibleLength) :
    segCheck8 g = some (.refused .lengthImplausible .none) := by
  rw [g.plausibleLength_iff] at bad
  exact if_neg fun good => bad (if_pos good)

theorem Head.segCheck9_of_wide {hd : Head} {g : Segment} (wide : hd.WideEnough g) : hd.segCheck9 g = none :=
  if_neg fun ⟨arc, small⟩ => absurd (wide (g.isArc_iff.mp arc)) (Nat.not_le.mpr small)

theorem Head.segCheck9_of_narrow {hd : Head} {g : Segment} (narrow : ¬ hd.WideEnough g) :
    hd.segCheck9 g = some (.refused .radiusTooSmall .none) := by
  obtain ⟨arc, small⟩ := Classical.not_imp.mp narrow
  exact if_pos ⟨g.isArc_iff.mpr arc, Nat.not_le.mp small⟩

/-- The joint turn is one only (R34). -/
theorem Head.Turns.unique {hd : Head} {g : Segment} {a b : Int} (first : hd.Turns g a) (second : hd.Turns g b) : a = b := by
  obtain ⟨lowA, highA, turnsA⟩ := first
  obtain ⟨lowB, highB, turnsB⟩ := second
  omega

theorem Head.joint_of_not_jointed {hd : Head} {g : Segment} (straight : ¬ hd.Jointed g) : hd.joint g = (.free, 0) := by
  refine if_pos ?_
  by_contra both
  rw [not_or, not_not] at both
  exact straight both

/-- The joint of a segment in the manual's words (R34). -/
theorem Head.joint_of_turns {hd : Head} {g : Segment} {delta : Int} (entryFits : g.entry ≤ 3599)
    (refFits : hd.ref.heading.getD 0 ≤ 3599) (jointed : hd.Jointed g) (turns : hd.Turns g delta) :
    hd.joint g = (if delta.natAbs ≤ hd.cut.soft then .smooth else .pivot, delta.natAbs) := by
  obtain ⟨notAir, cutting⟩ := jointed
  obtain ⟨found, low, high, divides, magnitude⟩ := turnMagnitude_eq_natAbs entryFits refFits
  obtain rfl : found = delta := Head.Turns.unique (hd := hd) (g := g) ⟨low, high, divides⟩ turns
  rw [Head.joint, if_neg (by simp [notAir, cutting]), magnitude]

theorem Head.segCheck10_none_iff (hd : Head) (g : Segment) : hd.segCheck10 g = none ↔ (hd.joint g).2 ≤ hd.cut.maxTurn := by
  simp [Head.segCheck10]

theorem State.tagRefusal_none_iff (s : State) (tag : Nat) :
    s.tagRefusal tag = none ↔ ∃ p, s.findPiece tag = some p ∧ (p.st = .declared ∨ p.st = .part) := by
  unfold State.tagRefusal
  cases s.findPiece tag with
  | none => simp
  | some p => cases e : p.st <;> simp [Piece.isOpen, e]

/-- Check 11 is that an AIR segment has no tags, no tag comes twice, and each names an open piece (R35). -/
theorem State.segCheck11_none_iff (s : State) (g : Segment) : s.segCheck11 g = none ↔ s.TagsOpen g := by
  unfold State.segCheck11 State.TagsOpen
  simp only [← State.tagRefusal_none_iff]
  by_cases tagged : g.kind = .air ∧ g.tags ≠ []
  · simp [tagged, refuse]
  · have airless : g.kind = .air → g.tags = [] := by simpa using tagged
    rw [if_neg tagged]
    by_cases twice : g.tags.Nodup
    · rw [if_neg (not_not.mpr twice), List.findSome?_eq_none_iff]
      exact ⟨fun tags => ⟨airless, twice, tags⟩, fun ⟨_, _, tags⟩ => tags⟩
    · simp [twice, refuse]

/-- The first tag that fails check 11 is the one answered (R35). -/
theorem State.segCheck11_first {s : State} {g : Segment} {before after : List Nat} {tag : Nat} {reply : Reply}
    (notAir : g.kind ≠ .air) (once : g.tags.Nodup) (tags : g.tags = before ++ tag :: after)
    (good : ∀ t ∈ before, ∃ p, s.findPiece t = some p ∧ (p.st = .declared ∨ p.st = .part))
    (fails : s.tagRefusal tag = some reply) : s.segCheck11 g = some reply := by
  have passed : before.findSome? s.tagRefusal = none :=
    List.findSome?_eq_none_iff.mpr fun t member => (s.tagRefusal_none_iff t).mpr (good t member)
  rw [State.segCheck11, if_neg fun air => notAir air.1, if_neg (not_not.mpr once), tags, List.findSome?_append, passed]
  rw [Option.none_or, List.findSome?_cons, fails]

/-! ### The reply in order -/

/-- A number that is not the next expected is answered by check 2 (R25, R26). -/
theorem State.segmentReply_number {s : State} {h : HeadId} {r : SegmentReq} {reply : Reply} (cutting : s.job.state = .cutting)
    (service : (s.head h).service = .inService) (second : (s.head h).segCheck2 r.number.toNat = some reply) :
    s.segmentReply h r = some reply := by
  have first : s.segCheck1 h = none := by simp [State.segCheck1, cutting, Head.inService, service]
  simp only [State.segmentReply, first, second, firstReply_none_cons, firstReply_some_cons]

/-- The first three checks pass for whatever kind the record is read as (R25 to R27). -/
theorem State.segmentReply_of_taken {s : State} {h : HeadId} {r : SegmentReq} {k : SegKind}
    (taken : s.SegTaken h (segmentOf r k)) : s.segmentReply h r = firstReply [segCheck4 r, (s.head h).segCheck5 (submitted r),
      segCheck6 (submitted r), segCheck7 (submitted r), segCheck8 (submitted r), (s.head h).segCheck9 (submitted r),
      (s.head h).segCheck10 (submitted r), s.segCheck11 (submitted r)] := by
  simp only [State.segmentReply, State.segCheck1_of_taken taken, State.segCheck2_of_taken taken,
    State.segCheck3_of_taken taken, firstReply_none_cons]
  rfl

theorem submitted_of_kind {r : SegmentReq} {k : SegKind} (kind : segKindOf r.kind = some k) : submitted r = segmentOf r k := by
  rw [submitted, kind, Option.getD_some]

/-- Settles O26: each of the first six checks answers where those before it pass. -/
theorem segmentNumbersAreChecked : Obligations.SegmentNumbersAreChecked := by
  intro s h r free answers n e
  have answer {reply : Reply} (fails : s.segmentReply h r = some reply) : answers reply := exec_segment_failed free fails
  have small : n < 65536 := r.number.isLt
  refine ⟨fun closed => ?_, fun cutting out => ?_, fun cutting service => ?_, fun taken => ?_⟩
  · have first : s.segCheck1 h = some (.refused .wrongJobState .none) := if_pos closed
    exact answer (by simp only [State.segmentReply, first, firstReply_some_cons])
  · have first : s.segCheck1 h = some (.refused .headOutOfService .none) := by
      simp [State.segCheck1, cutting, Head.inService, out, refuse]
    exact answer (by simp only [State.segmentReply, first, firstReply_some_cons])
  · have number {reply : Reply} (second : (s.head h).segCheck2 n = some reply) : answers reply :=
      answer (State.segmentReply_number cutting service second)
    refine ⟨fun zero => number (if_pos zero), fun nonzero spent => ⟨fun known => number ?_, fun notLast unknown => number ?_⟩,
      fun nonzero left => ⟨fun old => number ?_, fun ahead => number ?_, fun next full => ?_⟩⟩
    · rw [Head.segCheck2, if_neg nonzero, if_pos spent, if_pos (by simpa using known)]
    · rw [Head.segCheck2, if_neg nonzero, if_pos spent, if_neg (by simp [notLast, unknown])]
      rfl
    · rw [Head.segCheck2, if_neg nonzero, if_neg left, if_pos old]
    · rw [Head.segCheck2, if_neg nonzero, if_neg left, if_neg (by omega), if_pos ahead]
    · have first : s.segCheck1 h = none := by simp [State.segCheck1, cutting, Head.inService, service]
      have second : (s.head h).segCheck2 n = none := by
        rw [Head.segCheck2, if_neg nonzero, if_neg left, if_neg (by omega), if_neg (by omega)]
      have third : (s.head h).segCheck3 = some (.refused .queueFull .none) := if_pos full
      exact answer (by simp only [State.segmentReply, first, show (s.head h).segCheck2 r.number.toNat = none from second, third,
        firstReply_none_cons, firstReply_some_cons])
  · refine ⟨fun bad => answer ?_, fun ranged off => answer ?_, fun k kind ranges => ⟨fun apart => answer ?_, fun meets unplaced => answer ?_⟩⟩
    all_goals rw [State.segmentReply_of_taken taken]
    · rw [segCheck4, if_pos ((segFieldsBad_iff r).mpr bad)]
      rfl
    · rw [segCheck4, if_neg (fun bad => ranged ((segFieldsBad_iff r).mp bad)), if_pos ((segBedBad_iff r).mpr off)]
      rfl
    · rw [segCheck4_of_inRanges kind ranges, submitted_of_kind kind]
      have fifth : (s.head h).segCheck5 (segmentOf r k) = some (.refused .discontinuous (.reference (s.head h).ref.point)) :=
        if_neg apart
      rw [fifth]
      rfl
    · rw [segCheck4_of_inRanges kind ranges, submitted_of_kind kind]
      have fifth : (s.head h).segCheck5 (segmentOf r k) = none := if_pos meets
      rw [fifth, segCheck6_of_not_placed (hd := s.head h) meets unplaced]
      rfl

/-- Settles O28: the eighth to eleventh checks, each after those before it. -/
theorem arcsTurnsAndTagsAreChecked : Obligations.ArcsTurnsAndTagsAreChecked := by
  intro s h r k free kind refFits g answers taken ranges placed one
  have entryFits : g.entry ≤ 3599 := ranges.2.1
  have answer {reply : Reply} (first : firstReply [segCheck8 g, (s.head h).segCheck9 g, (s.head h).segCheck10 g,
      s.segCheck11 g] = some reply) : answers reply :=
    exec_segment_failed free (by
      rw [State.segmentReply_of_placed kind taken ranges placed, segCheck7_of_oneHeading one, firstReply_none_cons, first])
  refine ⟨fun bad => answer ?_, fun long narrow => answer ?_, fun long wide => ⟨fun delta jointed turns sharp => answer ?_,
    fun turned => ?_⟩⟩
  · rw [segCheck8_of_implausible bad]
    rfl
  · rw [g.plausibleLength_iff.mp long, Head.segCheck9_of_narrow narrow]
    rfl
  · have joint := Head.joint_of_turns entryFits refFits jointed turns
    rw [g.plausibleLength_iff.mp long, Head.segCheck9_of_wide wide, Head.segCheck10, joint, if_pos sharp]
    rfl
  · have tenth : (s.head h).segCheck10 g = none := by
      rw [Head.segCheck10_none_iff]
      by_cases jointed : (s.head h).Jointed g
      · obtain ⟨delta, turns, soft⟩ := turned.resolve_left (not_not.mpr jointed)
        rw [Head.joint_of_turns entryFits refFits jointed turns]
        exact soft
      · rw [Head.joint_of_not_jointed jointed]
        exact Nat.zero_le _
    have tagged {reply : Reply} (eleventh : s.segCheck11 g = some reply) : answers reply := answer (by
      rw [g.plausibleLength_iff.mp long, Head.segCheck9_of_wide wide, tenth, eleventh]
      rfl)
    refine ⟨fun air tags => tagged (if_pos ⟨air, tags⟩), fun notAir twice => tagged ?_,
      fun notAir once before tag after tags good => ⟨fun unknown => ?_, fun p found notDeclared notPart => ?_⟩⟩
    · rw [State.segCheck11, if_neg fun air => notAir air.1, if_pos twice]
      rfl
    · exact tagged (State.segCheck11_first notAir once tags good (by rw [State.tagRefusal, unknown]))
    · have shut : p.isOpen = false := by simp [Piece.isOpen, notDeclared, notPart]
      exact tagged (State.segCheck11_first notAir once tags good (by simp [State.tagRefusal, found, shut]))

/-! ### Acceptance -/

theorem State.raise_empty (s : State) (l : LinkId) : s.raise l AttSet.empty = s := by
  have same (t : AttSet) : t.union AttSet.empty = t := by simp [AttSet.union, AttSet.empty]
  rw [State.raise, same]
  cases l with
  | head h => cases h <;> rfl
  | cell => rfl

theorem State.raise_toLead (s : State) (l : LinkId) (c : AttSet) : (s.toLead l).raise l c = (s.raise l c).toLead l := by
  cases l with
  | head h => cases h <;> rfl
  | cell => rfl

/-- The state after an accepted SEGMENT, written out (R36, R75). -/
theorem State.enqueue_eq (s : State) (h : HeadId) (g : Segment) : s.enqueue h g = (s.setHead h { s.head h with
      queue := (s.head h).queue ++ [(s.head h).entryOf g], nextSeq := g.number + 1
      ref := ⟨g.last, some g.exit, if g.kind = .air then .air else .cutting⟩
      watch := if (s.head h).watch.reasons.queueEmpty = true then Watch.empty else (s.head h).watch }).raise (.head h)
    { AttSet.empty with waitCleared := (s.head h).watch.reasons.queueEmpty } := by
  have watch : ((s.modHead h fun hd => hd.enqueue g).head h).watch = (s.head h).watch := by simp [Head.enqueue]
  rw [State.enqueue, State.tell, watch]
  cases (s.head h).watch.reasons.queueEmpty with
  | true => cases h <;> rfl
  | false => exact (State.raise_empty _ _).symm

/-- An accepted SEGMENT leaves what the rules of a head look at (R36). -/
theorem State.enqueue_alike (s : State) (h : HeadId) (g : Segment) (i : HeadId) :
    Head.Alike (s.head i) ((s.enqueue h g).head i) ∧
      (((s.enqueue h g).head i).watch = (s.head i).watch ∨ ((s.enqueue h g).head i).watch = Watch.empty) ∧
      ((s.enqueue h g).head i).claim = (s.head i).claim := by
  rw [State.enqueue_eq, State.head_raise]
  obtain rfl | rfl := HeadId.eq_or_other h i
  · rw [State.head_setHead_self]
    refine ⟨⟨rfl, rfl, rfl, rfl, rfl, rfl, rfl⟩, ?_, rfl⟩
    dsimp only
    split
    · exact .inr rfl
    · exact .inl rfl
  · rw [State.head_setHead_other]
    exact ⟨.refl _, .inl rfl, rfl⟩

theorem State.enqueue_zones (s : State) (h : HeadId) (g : Segment) :
    (s.enqueue h g).zones = s.zones ∧ (s.enqueue h g).job = s.job := by
  rw [State.enqueue_eq]
  cases h <;> exact ⟨rfl, rfl⟩

/-- The closing of an accepted SEGMENT finds nothing to re-work (R36). -/
theorem State.closeEvent_enqueue {s : State} (steady : ∀ i, s.Steady i) (h : HeadId) (g : Segment) :
    State.closeEvent s (s.enqueue h g) = s.enqueue h g := by
  obtain ⟨zones, job⟩ := s.enqueue_zones h g
  have states : (s.enqueue h g).zoneStates = s.zoneStates := State.zoneStates_of_zones zones
  refine State.closeEvent_same (fun i => ?_) (fun i => ?_) (fun i => ?_) fun i _ => ?_
  · obtain ⟨alike, watch, -⟩ := s.enqueue_alike h g i
    exact (steady i).of_alike alike watch (by rw [job]) (Head.sameHeld_of_states _ states)
  · exact (s.enqueue_alike h g i).1.hold
  · rw [job]
    exact (State.standsBy_of_alike (s.enqueue_alike h g i).1 _).symm
  · exact (s.enqueue_alike h g i.other).2.2

/-- The segment passes the eleven checks, with the joint class and turn it is given (R24 to R35). -/
theorem State.segmentReply_none_of {s : State} {h : HeadId} {r : SegmentReq} {k : SegKind} (kind : segKindOf r.kind = some k)
    (passes : s.SegPasses h (segmentOf r k)) (turned : ((s.head h).joint (segmentOf r k)).2 ≤ (s.head h).cut.maxTurn)
    (tags : s.TagsOpen (segmentOf r k)) : s.segmentReply h r = none := by
  obtain ⟨taken, ranges, placed, one, long, wide⟩ := passes
  rw [State.segmentReply_of_placed kind taken ranges placed, segCheck7_of_oneHeading one, (Segment.plausibleLength_iff _).mp long,
    Head.segCheck9_of_wide wide, (Head.segCheck10_none_iff _ _).mpr turned, (State.segCheck11_none_iff _ _).mpr tags]
  rfl

/-- Only a known kind passes the fourth check (R28). -/
theorem State.kind_of_segmentReply_none {s : State} {h : HeadId} {r : SegmentReq} (passes : s.segmentReply h r = none) :
    ∃ k, segKindOf r.kind = some k := by
  obtain ⟨-, -, -, fourth, -⟩ := State.segmentReply_none passes
  obtain ⟨ranged, -⟩ := (segCheck4_none_iff r).mp fourth
  exact Option.ne_none_iff_exists'.mp fun none => ranged (.inl none)

/-- A record that the eleven checks let through passes each of them (R24 to R35). -/
theorem State.segPasses_of_none {s : State} {h : HeadId} {r : SegmentReq} {k : SegKind} (kind : segKindOf r.kind = some k)
    (passes : s.segmentReply h r = none) : s.SegPasses h (segmentOf r k) ∧
      ((s.head h).joint (segmentOf r k)).2 ≤ (s.head h).cut.maxTurn ∧ s.TagsOpen (segmentOf r k) := by
  obtain ⟨first, second, third, fourth, fifth, sixth, seventh, eighth, ninth, tenth, eleventh⟩ := State.segmentReply_none passes
  rw [submitted_of_kind kind] at fifth sixth seventh eighth ninth tenth eleventh
  obtain ⟨ranged, onBed⟩ := (segCheck4_none_iff r).mp fourth
  obtain ⟨positive, next⟩ := Head.segCheck2_none second
  have one : (segmentOf r k).OneHeading := by
    by_contra two
    rw [segCheck7_of_not_oneHeading two] at seventh
    cases seventh
  have wide : (s.head h).WideEnough (segmentOf r k) := by
    by_contra narrow
    rw [Head.segCheck9_of_narrow narrow] at ninth
    cases ninth
  have taken : s.SegTaken h (segmentOf r k) := by
    rw [State.segCheck1, refuse, refuse] at first
    split at first
    · cases first
    next cutting =>
      split at first
      · cases first
      next service =>
        exact ⟨not_not.mp cutting, by simpa [Head.inService] using service, next.1, positive, Head.segCheck3_none third⟩
  exact ⟨⟨taken, inRanges_of_not kind ranged onBed, (Head.segPlaced_iff _ _).mpr ⟨fifth, sixth⟩, one,
    (Segment.plausibleLength_iff _).mpr eighth, wide⟩, (Head.segCheck10_none_iff _ _).mp tenth,
    (State.segCheck11_none_iff _ _).mp eleventh⟩

/-- The joint of a segment as the manual has it (R34). -/
theorem Head.joint_iff {hd : Head} {g : Segment} (entryFits : g.entry ≤ 3599) (refFits : hd.ref.heading.getD 0 ≤ 3599)
    (cls : JointClass) (turn : Nat) : ((¬ hd.Jointed g ∧ cls = .free ∧ turn = 0) ∨ (hd.Jointed g ∧ ∃ delta, hd.Turns g delta ∧
      turn = delta.natAbs ∧ cls = if turn ≤ hd.cut.soft then .smooth else .pivot)) ↔ hd.joint g = (cls, turn) := by
  by_cases jointed : hd.Jointed g
  · obtain ⟨delta, turns, -⟩ := Head.turn_entryOf entryFits refFits jointed
    rw [Head.joint_of_turns entryFits refFits jointed turns, Prod.mk.injEq]
    constructor
    · rintro (⟨straight, -⟩ | ⟨-, other, turns', rfl, rfl⟩)
      · exact absurd jointed straight
      · obtain rfl := turns.unique turns'
        exact ⟨rfl, rfl⟩
    · rintro ⟨rfl, rfl⟩
      exact .inr ⟨jointed, delta, turns, rfl, rfl⟩
  · rw [Head.joint_of_not_jointed jointed, Prod.mk.injEq]
    constructor
    · rintro (⟨-, rfl, rfl⟩ | ⟨does, -⟩)
      · exact ⟨rfl, rfl⟩
      · exact absurd does jointed
    · rintro ⟨rfl, rfl⟩
      exact .inl ⟨jointed, rfl, rfl⟩

/-- Settles O25: a record that passes the checks is queued and nothing is left for the closing to re-work; one that is
answered ACCEPTED has passed them, for a failed check is answered otherwise. -/
theorem segmentsAreQueued : Obligations.SegmentsAreQueued := by
  intro s h r free refFits joint
  refine ⟨fun k g cls turn kind same passes jointed turned tags steady => ?_, fun t content ran flight => ?_⟩
  · subst same
    have given : (s.head h).joint (segmentOf r k) = (cls, turn) := (Head.joint_iff passes.2.1.2.1 refFits cls turn).mp jointed
    have none : s.segmentReply h r = none := State.segmentReply_none_of kind passes (by rw [given]; exact turned) tags
    have may : permitted (.head h) (.segment r) = true := by cases h <;> rfl
    have run : (s.toLead (.head h)).segmentRequest h r = ((s.enqueue h (segmentOf r k)).toLead (.head h),
        .accepted (.segment (segmentOf r k).number cls turn ((s.head h).queue.length + 1 + (s.head h).window.length))) := by
      have ready : (s.toLead (.head h)).segmentReply h r = Option.none := none
      have closed := State.closeEvent_enqueue (s := s.toLead (.head h)) (fun i => steady i) h (segmentOf r k)
      have moved : (s.toLead (.head h)).enqueue h (segmentOf r k) = (s.enqueue h (segmentOf r k)).toLead (.head h) := by
        rw [State.enqueue_eq, State.enqueue_eq, ← State.raise_toLead]
        cases h <;> rfl
      have queue := s.enqueue_head_queue h (segmentOf r k)
      have window := (s.enqueue_alike h (segmentOf r k) h).1.window
      rw [State.segmentRequest, ready]
      dsimp only
      rw [kind, Option.getD_some, closed, moved]
      simp only [State.head_toLead, queue, window, Head.entryOf, given, List.length_append, List.length_singleton]
    have ran := exec_run (c := .segment (.head h) r) rfl free may run
    rw [State.enqueue_eq, Head.entryOf, given] at ran
    exact ran
  · obtain ⟨reply, fails, rfl⟩ | ⟨none, -⟩ : (∃ reply, s.segmentReply h r = some reply ∧ t = s.answering (.head h) 0x10 reply) ∨
        s.segmentReply h r = none ∧ True := by
      cases checks : s.segmentReply h r with
      | some reply =>
        rw [exec_segment_failed free checks] at ran
        exact .inl ⟨reply, rfl, (Host.Outcome.next.inj ran).symm⟩
      | none => exact .inr ⟨rfl, trivial⟩
    · rw [State.inFlight_answering] at flight
      obtain rfl : reply = .accepted content := by simpa using flight
      cases State.segmentReply_declines fails
    · obtain ⟨k, kind⟩ := State.kind_of_segmentReply_none none
      obtain ⟨passes, turned, tags⟩ := State.segPasses_of_none kind none
      exact ⟨k, segmentOf r k, ((s.head h).joint (segmentOf r k)).1, ((s.head h).joint (segmentOf r k)).2, kind, rfl, passes,
        (Head.joint_iff passes.2.1.2.1 refFits _ _).mpr rfl, turned, tags⟩

end Sys2Proof.Machine

/-! PROOFS. A GRANT that waits for its turn, and a DONE that completes nothing (R22, R66, R67, R74, R76). -/

namespace Sys2Proof.Machine

/-! ### The stop checks of GRANT -/

section Opened

variable {s : State} {h : HeadId} (opened : s.job.state.isOpen = true) (service : (s.head h).service = .inService)

include opened service

theorem State.grantStop_empty (empty : (s.head h).queue = []) :
    s.grantStop h = .waits { WaitSet.empty with queueEmpty := true } 0 none := by
  rw [State.grantStop, if_neg (by rw [opened]; decide), if_neg (by simp [Head.inService, service]), empty]

variable {e : Entry} {q : List Entry} (queue : (s.head h).queue = e :: q)

include queue

theorem State.grantStop_full (full : 4 ≤ (s.head h).window.length) :
    s.grantStop h = .waits { WaitSet.empty with windowFull := true } e.seg.number e.zones := by
  rw [State.grantStop, if_neg (by rw [opened]; decide), if_neg (by simp [Head.inService, service]), queue]
  exact if_pos full

variable (room : (s.head h).window.length < 4)

include room

theorem State.grantStop_held (held : (s.head h).hold.beyondBlade = true) :
    s.grantStop h = .waits { WaitSet.empty with headHeld := true } e.seg.number e.zones := by
  rw [State.grantStop, if_neg (by rw [opened]; decide), if_neg (by simp [Head.inService, service]), queue]
  exact (if_neg (Nat.not_le.mpr room)).trans (if_pos held)

theorem State.grantStop_ready (released : (s.head h).hold.beyondBlade = false) : s.grantStop h = .passes e := by
  rw [State.grantStop, if_neg (by rw [opened]; decide), if_neg (by simp [Head.inService, service]), queue]
  exact (if_neg (Nat.not_le.mpr room)).trans (if_neg (by simp [released]))

end Opened

theorem Entry.zones_eq (e : Entry) :
    e.zones = if e.seg.kind = .air then none else some ⟨e.seg.xlo / 2000, e.seg.xhi / 2000⟩ := rfl

theorem keepsApart_iff (n : Nat) (a b : Claim) : keepsApart n a b = true ↔ a.hi + n ≤ b.lo := decide_eq_true_iff

/-- The clearance test in the manual's words (R61, R67). -/
theorem State.clearFor_iff (s : State) (h : HeadId) (c : Claim) : s.clearFor h c = true ↔ s.Clear h c := by
  cases h <;> exact keepsApart_iff _ _ _

/-- One more segment widens the claim to its span (R60, R67). -/
theorem Head.claimWith_eq {hd : Head} (hulls : hd.ClaimIsHull) (e : Entry) :
    hd.claimWith e = ⟨min hd.claim.lo e.seg.xlo, max hd.claim.hi e.seg.xhi⟩ := by
  rw [hulls, Head.claimWith, hull, List.foldl_append]
  rfl

theorem State.grantTaken_eq (s : State) (h : HeadId) : s.grantTaken h = { s with
    heads := (s.setHead h { s.head h with lapse := (s.head h).lapse.map fun _ => 2000000 }).heads
    mark := s.mark.map fun m => if m.holder = h then ⟨h, 2000000⟩ else m } := by
  have marks : (s.mark.map fun m : Mark => if m.holder = h then { m with left := Config.twoSeconds } else m) =
      s.mark.map fun m => if m.holder = h then ⟨h, 2000000⟩ else m := by
    refine Option.map_congr fun m _ => ?_
    split
    · next holds => rw [← holds]; rfl
    · rfl
  rw [← marks]
  cases h <;> rfl

/-- A WAIT that leaves the head with its watch, and the timers that a GRANT restarts (R66, R74, R88, R91). -/
theorem State.setWatch_grantTaken (s : State) (h : HeadId) (w : WaitSet) (range : Option ZoneRange) :
    let t := (s.grantTaken h).setWatch h w range
    t = { s with heads := t.heads, mark := t.mark } ∧ t.head h.other = s.head h.other ∧
      t.head h = { s.head h with lapse := (s.head h).lapse.map fun _ => 2000000, watch := ⟨w, range⟩ } ∧
      t.mark = s.mark.map fun m => if m.holder = h then ⟨h, 2000000⟩ else m := by
  rw [State.grantTaken_eq]
  cases h <;> exact ⟨rfl, rfl, rfl, rfl⟩

theorem permitted_grant (h : HeadId) : permitted (.head h) .grant = true := by cases h <;> rfl

/-- A GRANT that waits changes the watch and the timers it restarts (R66, R74). -/
theorem exec_grant_waits {s : State} {h : HeadId} {w : WaitSet} {n : Nat} {range : Option ZoneRange}
    (free : s.listens (.head h) = true)
    (waits : (s.toLead (.head h)).grantRequest h = (((s.toLead (.head h)).grantTaken h).setWatch h w range, .wait w n)) :
    ∃ t : State, exec (.grant (.head h)) s = .next (t.answering (.head h) 0x12 (.wait w n)) ∧
      t = { s with heads := t.heads, mark := t.mark } ∧ t.head h.other = s.head h.other ∧
      t.head h = { s.head h with lapse := (s.head h).lapse.map fun _ => 2000000, watch := ⟨w, range⟩ } ∧
      t.mark = s.mark.map fun m => if m.holder = h then ⟨h, 2000000⟩ else m := by
  refine ⟨(s.grantTaken h).setWatch h w range, ?_, s.setWatch_grantTaken h w range⟩
  have run : (s.toLead (.head h)).grantRequest h = (((s.grantTaken h).setWatch h w range).toLead (.head h), .wait w n) := by
    rw [waits]
    cases h <;> rfl
  exact exec_run (c := .grant (.head h)) (r := .grant) rfl free (permitted_grant h) run

theorem exec_grant_refused {s : State} {h : HeadId} {r : Reason} (free : s.listens (.head h) = true)
    (stop : s.grantStop h = .refused r) :
    exec (.grant (.head h)) s = .next (s.answering (.head h) 0x12 (.refused r .none)) := by
  have run : (s.toLead (.head h)).grantRequest h = (s.toLead (.head h), .refused r .none) := by
    have stop : (s.toLead (.head h)).grantStop h = .refused r := stop
    rw [State.grantRequest, stop]
  exact exec_run (c := .grant (.head h)) (r := .grant) rfl free (permitted_grant h) run

theorem State.grantRequest_waits {s : State} {h : HeadId} {w : WaitSet} {n : Nat} {range : Option ZoneRange}
    (stop : s.grantStop h = .waits w n range) :
    s.grantRequest h = ((s.grantTaken h).setWatch h w range, .wait w n) := by
  rw [State.grantRequest, stop]

theorem State.grantRequest_unclear {s : State} {h : HeadId} {e : Entry} (stop : s.grantStop h = .passes e)
    (hulls : (s.head h).ClaimIsHull)
    (unclear : ¬ s.Clear h ⟨min (s.head h).claim.lo e.seg.xlo, max (s.head h).claim.hi e.seg.xhi⟩) :
    s.grantRequest h = ((s.grantTaken h).setWatch h { WaitSet.empty with clearance := true } e.zones,
      .wait { WaitSet.empty with clearance := true } e.seg.number) := by
  have fails : s.clearFor h ((s.head h).claimWith e) = false := by
    rw [Head.claimWith_eq hulls, ← Bool.not_eq_true, State.clearFor_iff]
    exact unclear
  rw [State.grantRequest, stop]
  dsimp only
  rw [State.grantFor_eq, if_pos (by rw [State.clearFor_grantTaken, fails])]

/-- Settles O34: the stop checks in their order, and then the clearance test. -/
theorem grantsWaitForTheirTurn : Obligations.GrantsWaitForTheirTurn := by
  intro s h free zonesOf waits
  refine ⟨fun closed => exec_grant_refused free (if_pos closed), fun opened out => exec_grant_refused free ?_,
    fun opened service => ⟨fun empty => ?_, fun e q queue => ⟨fun full => ?_, fun room held => ?_, fun room released hulls unclear => ?_⟩⟩⟩
  · rw [State.grantStop, if_neg (by rw [opened]; decide), if_pos (by simp [Head.inService, out])]
  · exact exec_grant_waits free (State.grantRequest_waits (s := s.toLead (.head h)) (State.grantStop_empty opened service empty))
  · exact exec_grant_waits free (State.grantRequest_waits (s := s.toLead (.head h))
      (State.grantStop_full opened service queue full))
  · exact exec_grant_waits free (State.grantRequest_waits (s := s.toLead (.head h))
      (State.grantStop_held opened service queue room held))
  · exact exec_grant_waits free (State.grantRequest_unclear (s := s.toLead (.head h)) (State.grantStop_ready opened service queue
      room released) hulls unclear)

/-! ### DONE of another number -/

theorem Head.numState_queued {hd : Head} {n : Nat} (queued : n ∈ hd.queue.map fun e => e.seg.number) :
    hd.numState n = .queued := by
  refine if_pos ?_
  simpa using queued

section Unqueued

variable {hd : Head} {n : Nat} (unqueued : n ∉ hd.queue.map fun e => e.seg.number)

include unqueued

theorem Head.not_queued : ¬ (hd.queue.any fun e => decide (e.seg.number = n)) = true := by
  simpa using unqueued

theorem Head.numState_granted (granted : n ∈ hd.window.map fun w => w.entry.seg.number) : hd.numState n = .granted := by
  rw [Head.numState, if_neg (Head.not_queued unqueued)]
  exact if_pos (by simpa using granted)

variable (ungranted : n ∉ hd.window.map fun w => w.entry.seg.number)

include ungranted

omit unqueued in
theorem Head.not_granted : ¬ (hd.window.any fun w => decide (w.entry.seg.number = n)) = true := by
  simpa using ungranted

theorem Head.numState_notAccepted (next : hd.nextSeq ≤ n) : hd.numState n = .notAccepted := by
  rw [Head.numState, if_neg (Head.not_queued unqueued), if_neg (Head.not_granted ungranted), if_pos next]

theorem Head.numState_done (old : n < hd.nextSeq)
    (none : n < hd.floor ∨ ∀ x ∈ hd.runs, ¬ (x.first ≤ n ∧ n ≤ x.last)) : hd.numState n = .done := by
  rw [Head.numState, if_neg (Head.not_queued unqueued), if_neg (Head.not_granted ungranted), if_neg (Nat.not_le.mpr old)]
  by_cases below : n < hd.floor
  · exact if_pos below
  · have absent : (hd.runs.find? fun r => decide (r.first ≤ n) && decide (n ≤ r.last)) = Option.none := by
      simpa using none.resolve_left below
    rw [if_neg below, absent]

/-- A number of a retired run has that run's fate (R22). -/
theorem Head.numState_retired {x : Run} (old : n < hd.nextSeq) (above : hd.floor ≤ n) (member : x ∈ hd.runs) (first : x.first ≤ n)
    (last : n ≤ x.last) (one : ∀ y ∈ hd.runs, y.first ≤ n → n ≤ y.last → y.fate = x.fate) : hd.numState n = x.fate.state := by
  rw [Head.numState, if_neg (Head.not_queued unqueued), if_neg (Head.not_granted ungranted), if_neg (Nat.not_le.mpr old),
    if_neg (Nat.not_lt.mpr above)]
  cases found : hd.runs.find? fun r => decide (r.first ≤ n) && decide (n ≤ r.last) with
  | none => simpa [first, Nat.not_lt.mpr last] using List.find?_eq_none.mp found x member
  | some y =>
    have covers := List.find?_some found
    rw [Bool.and_eq_true, decide_eq_true_eq, decide_eq_true_eq] at covers
    dsimp only
    rw [one y (List.mem_of_find?_eq_some found) covers.1 covers.2]

end Unqueued

theorem Head.not_oldest {hd : Head} {n : Nat} (other : ∀ w ws, hd.window = w :: ws → w.entry.seg.number ≠ n) :
    ¬ (hd.window.head?.map fun w => w.entry.seg.number) = some n := by
  cases window : hd.window with
  | nil => exact Option.some_ne_none n ∘ Eq.symm
  | cons w ws => exact fun same => other w ws window (Option.some.inj same)

theorem permitted_done (h : HeadId) (n : Half) : permitted (.head h) (.done n) = true := by cases h <;> rfl

theorem exec_done_answered {s : State} {h : HeadId} {n : Half} {reply : Reply} (free : s.listens (.head h) = true)
    (answered : (s.head h).doneReply n.toNat = some reply) :
    exec (.done (.head h) n) s = .next (s.answering (.head h) 0x13 reply) := by
  have run : (s.toLead (.head h)).doneRequest h n = (s.toLead (.head h), reply) := by
    have answered : ((s.toLead (.head h)).head h).doneReply n.toNat = some reply := answered
    rw [State.doneRequest, answered]
  exact exec_run (c := .done (.head h) n) (r := .done n) rfl free (permitted_done h n) run

/-- Settles O37: the state of the number decides the answer. -/
theorem otherDonesChangeNothing : Obligations.OtherDonesChangeNothing := by
  intro s h n free answers inQueue inWindow
  have answer {reply : Reply} (answered : (s.head h).doneReply n.toNat = some reply) : answers reply :=
    exec_done_answered free answered
  refine ⟨fun zero => answer (if_pos zero), fun nonzero other => ?_⟩
  have oldest := Head.not_oldest other
  refine ⟨fun queued => answer ?_, fun unqueued granted => answer ?_, fun unqueued ungranted next => answer ?_,
    fun unqueued ungranted old => ⟨fun none => answer ?_, fun x member above first last one => answer ?_⟩⟩
  · rw [Head.doneReply, if_neg nonzero, if_neg oldest, Head.numState_queued queued]
  · rw [Head.doneReply, if_neg nonzero, if_neg oldest, Head.numState_granted unqueued granted]
    rfl
  · rw [Head.doneReply, if_neg nonzero, if_neg oldest, Head.numState_notAccepted unqueued ungranted next]
  · rw [Head.doneReply, if_neg nonzero, if_neg oldest, Head.numState_done unqueued ungranted old none]
  · rw [Head.doneReply, if_neg nonzero, if_neg oldest,
      Head.numState_retired unqueued ungranted old above member first last one]
    cases x.fate <;> rfl

end Sys2Proof.Machine

/-! PROOFS. The piece requests, HOLD and RESUME (R134 to R136, R146, R150). -/

namespace Sys2Proof.Machine

/-! ### What a closing and a re-evaluation leave of the state -/

/-- Closing an event touches the heads and the links alone. -/
theorem State.closeEvent_rest (b s : State) : State.closeEvent b s =
    { s with heads := (State.closeEvent b s).heads, links := (State.closeEvent b s).links } := by
  calc State.closeEvent b s
      = { State.closeEvent b s with heads := (State.closeEvent b s).heads, links := (State.closeEvent b s).links } := rfl
    _ = _ := by simp only [State.closeEvent_pending, State.closeEvent_free, State.closeEvent_resetHold,
        State.closeEvent_lastCause, State.closeEvent_rate, State.closeEvent_prs, State.closeEvent_job, State.closeEvent_bed,
        State.closeEvent_zoneSettings, State.closeEvent_zones, State.closeEvent_mark, State.closeEvent_pieces,
        State.closeEvent_retained]

/-- An event that ends in a re-evaluation touches, from there on, the heads, the links and the zones alone (R86). -/
theorem State.closeEvent_reevaluate_rest (b s : State) : State.closeEvent b s.reevaluate =
    { s with heads := (State.closeEvent b s.reevaluate).heads, links := (State.closeEvent b s.reevaluate).links
             zones := (State.closeEvent b s.reevaluate).zones } := by
  calc State.closeEvent b s.reevaluate
      = { State.closeEvent b s.reevaluate with
          heads := (State.closeEvent b s.reevaluate).heads, links := (State.closeEvent b s.reevaluate).links
          zones := (State.closeEvent b s.reevaluate).zones } := rfl
    _ = _ := by simp

/-- Closing an event raises nothing on the link of a head that follows its rules with its set as before. -/
theorem State.closeEvent_link_same {b s : State} {h : HeadId} (steady : s.Steady h) (hold : (s.head h).hold = (b.head h).hold)
    (stood : (b.head h).standsBy b.job.state.isOpen = (s.head h).standsBy s.job.state.isOpen)
    (claim : (s.head h).watch.reasons.clearance = true → (s.head h.other).claim = (b.head h.other).claim) :
    (State.closeEvent b s).link (.head h) = s.link (.head h) := by
  rw [State.closeEvent_link]
  cases h with
  | a =>
    rw [if_pos rfl, State.closeHead_same steady hold stood claim]
  | b =>
    have same : (State.closeHead b .a s).head .b = s.head .b := State.closeHead_head_other b s .a
    have alike : Head.Alike (s.head .b) ((State.closeHead b .a s).head .b) := by
      rw [same]
      exact .refl _
    have kept : (State.closeHead b .a s).Steady .b := steady.of_alike alike (.inl (by rw [same])) (by simp)
      (Head.sameHeld_of_states _ (State.zoneStates_of_zones (by simp)))
    have closed : State.closeHead b .b (State.closeHead b .a s) = State.closeHead b .a s :=
      State.closeHead_same kept (by rw [same, hold]) (by rw [same, State.closeHead_job]; exact stood) (by
        rw [same]
        exact fun watched => (by simpa using claim watched))
    rw [if_neg (by decide), closed]
    exact State.closeHead_link_ne b s .a (by decide)

theorem wakes_below (l : LinkId) : (wakes l).Below AttSet.ofWaitCleared := by
  cases l
  · exact AttSet.below_refl _
  · exact AttSet.empty_below _

theorem wakes_below_closes (l : LinkId) : (wakes l).Below (AttSet.ofHoldChanged.union AttSet.ofWaitCleared) := by
  cases l <;> simp [AttSet.below_iff, wakes, AttSet.union, AttSet.ofHoldChanged, AttSet.ofWaitCleared, AttSet.empty]

/-! ### PIECE DECLARE -/

theorem findPiece_isSome_iff (s : State) (id : Nat) : (s.findPiece id).isSome = true ↔ ∃ p ∈ s.pieces, p.id = id := by
  unfold State.findPiece
  rw [List.find?_isSome]
  simp

theorem pieceFieldsBad_iff (p : PieceReq) : (badPieceId p.id.toNat || decide (p.edges.toNat = 0) || decide (12 < p.edges.toNat) ||
      decide (Config.bedX < p.lo.toNat) || decide (Config.bedX < p.hi.toNat) || decide (p.hi.toNat < p.lo.toNat)) = true ↔
    ¬ (1 ≤ p.id.toNat ∧ p.id.toNat ≤ 250 ∧ 1 ≤ p.edges.toNat ∧ p.edges.toNat ≤ 12 ∧ p.lo.toNat ≤ p.hi.toNat ∧
        p.hi.toNat ≤ 31999) := by
  have wide : Config.bedX = 31999 := rfl
  rw [Bool.or_eq_true, Bool.or_eq_true, Bool.or_eq_true, Bool.or_eq_true, Bool.or_eq_true, badPieceId_iff, decide_eq_true_iff,
    decide_eq_true_iff, decide_eq_true_iff, decide_eq_true_iff, decide_eq_true_iff, wide]
  omega

section Declared

variable {s : State} {p : PieceReq}

theorem exec_pieceDeclare_refused {r : Reason} (free : s.listens .cell = true) (refused : s.pieceDeclareRefusal p = some r) :
    exec (.pieceDeclare .cell p) s = .next (s.answering .cell 0x30 (.refused r .none)) := by
  have run : (s.toLead .cell).pieceDeclareRequest p = (s.toLead .cell, .refused r .none) := by
    have refused : (s.toLead .cell).pieceDeclareRefusal p = some r := refused
    rw [State.pieceDeclareRequest, refused]
  exact exec_run (c := .pieceDeclare .cell p) (r := .pieceDeclare p) rfl free rfl run

theorem exec_pieceDeclare_taken (free : s.listens .cell = true) (fits : s.pieceDeclareRefusal p = none) :
    exec (.pieceDeclare .cell p) s = .next (({ s with pieces := s.pieces ++
      [(⟨p.id.toNat, .declared, p.edges.toNat, 0, p.lo.toNat, p.hi.toNat, p.label, []⟩ : Piece)] }).answering .cell 0x30
        (.accepted (.declared p.id.toNat (s.pieces.length + 1)))) := by
  have run : (s.toLead .cell).pieceDeclareRequest p = ((s.pieceDeclared p).toLead .cell,
      .accepted (.declared p.id.toNat (s.pieces.length + 1))) := by
    have fits : (s.toLead .cell).pieceDeclareRefusal p = none := fits
    have length : ((s.toLead .cell).pieceDeclared p).pieces.length = s.pieces.length + 1 :=
      List.length_append.trans rfl
    rw [State.pieceDeclareRequest, fits]
    dsimp only
    rw [length]
    rfl
  exact exec_run (c := .pieceDeclare .cell p) (r := .pieceDeclare p) rfl free rfl run

end Declared

/-! ### TAKE -/

theorem exec_take_refused {s : State} {id : Byte} {r : Reason × Detail} (free : s.listens .cell = true)
    (refused : s.takeRefusal id.toNat = some r) :
    exec (.take .cell id) s = .next (s.answering .cell 0x31 (.refused r.1 r.2)) := by
  have run : (s.toLead .cell).takeRequest id = (s.toLead .cell, .refused r.1 r.2) := by
    have refused : (s.toLead .cell).takeRefusal id.toNat = some r := refused
    rw [State.takeRequest, refused]
  exact exec_run (c := .take .cell id) (r := .take id) rfl free rfl run

/-- The state of a TAKE before need is re-evaluated. -/
def State.markTaken (s : State) (id : Nat) : State :=
  { s with pieces := s.pieces.map fun p : Piece => if p.id = id then { p with st := .taken } else p }

theorem State.taken_eq (s : State) (id : Nat) : s.taken id = (s.markTaken id).reevaluate := rfl

theorem State.taken_told (s : State) (id : Nat) : s.Told (s.taken id) :=
  (State.Told.of_heads (s := s) (t := s.markTaken id) rfl).trans (State.reevaluate_told _)

theorem State.taken_steady {s : State} (steady : ∀ h, s.Steady h) (id : Nat) (h : HeadId) : (s.taken id).Steady h := by
  have job : (s.taken id).job = s.job := by rw [State.taken_eq, State.reevaluate_job]; rfl
  exact (steady h).of_alike ((s.taken_told id).alike h) ((s.taken_told id).watch h) (by rw [job])
    (State.reevaluate_sameHeld (s.markTaken id) h)

/-- A TAKE of a machine that follows its rules leaves nothing to re-work (R150). -/
theorem State.closeEvent_taken {s : State} (steady : ∀ h, s.Steady h) (id : Nat) : State.closeEvent s (s.taken id) = s.taken id := by
  have job : (s.taken id).job = s.job := by rw [State.taken_eq, State.reevaluate_job]; rfl
  refine State.closeEvent_same (State.taken_steady steady id) (fun h => ((s.taken_told id).alike h).hold)
    (fun h => by rw [job]; exact (State.standsBy_of_alike ((s.taken_told id).alike h) _).symm) fun h _ => ?_
  obtain ⟨w, e, -⟩ := s.taken_told id h.other
  rw [e]

theorem State.closeEvent_taken_vents {s : State} (orphans : NoOrphans s) (id : Nat) :
    VentsUnneeded s (State.closeEvent s (s.taken id)) := by
  intro k lt
  have needed : (State.closeEvent s (s.taken id)).needed k = (s.markTaken id).needed k :=
    State.needed_congr (s := s.markTaken id)
      (fun h => by rw [State.closeEvent_head_window]; exact (s.taken_told id).window h)
      (fun h => by rw [State.closeEvent_head_pendingReq]; exact ((s.taken_told id).alike h).request)
      (by rw [State.closeEvent_pieces, State.taken_eq, State.reevaluate_pieces]) k
  rw [State.zone_closeEvent, needed]
  exact State.reevaluate_zone (s := s.markTaken id) orphans lt

theorem State.closeEvent_taken_rest (s : State) (id : Nat) :
    State.closeEvent s (s.taken id) = { s with
      heads := (State.closeEvent s (s.taken id)).heads, links := (State.closeEvent s (s.taken id)).links
      zones := (State.closeEvent s (s.taken id)).zones, pieces := (s.markTaken id).pieces } :=
  State.closeEvent_reevaluate_rest s (s.markTaken id)

theorem State.closeEvent_taken_head {s : State} (steady : ∀ h, s.Steady h) (id : Nat) (h : HeadId) :
    SameHead s (State.closeEvent s (s.taken id)) h := by
  obtain ⟨w, e, -⟩ := s.taken_told id h
  rw [State.closeEvent_taken steady, SameHead, e]

/-- What a TAKE of a severed piece leaves (R150). -/
theorem exec_take_taken {s : State} {id : Byte} (free : s.listens .cell = true) (fits : s.takeRefusal id.toNat = none)
    (orphans : NoOrphans s) : ∃ t : State, exec (.take .cell id) s = .next t ∧ Answers s t .cell 0x31 (.accepted (.taken id.toNat)) ∧
      t = { s with heads := t.heads, links := t.links, zones := t.zones, pieces := t.pieces } ∧
      t.pieces = s.pieces.map (fun x => if x.id = id.toNat then { x with st := .taken } else x) ∧
      VentsUnneeded s t ∧ ((∀ h, s.Steady h) → (∀ h, SameHead s t h) ∧ RaisesOnly s t AttSet.ofWaitCleared) := by
  have run : (s.toLead .cell).takeRequest id =
      (State.closeEvent (s.toLead .cell) ((s.toLead .cell).taken id.toNat), .accepted (.taken id.toNat)) := by
    have fits : (s.toLead .cell).takeRefusal id.toNat = none := fits
    rw [State.takeRequest, fits]
  have body : State.Hears wakes (s.toLead .cell) ((s.toLead .cell).taken id.toNat) :=
    State.reevaluate_hears ((s.toLead .cell).markTaken id.toNat)
  have hears := body.taken (u := fun _ => AttSet.ofHoldChanged.union AttSet.ofWaitCleared) wakes_below_closes (closes_below _ _)
  obtain ⟨t, next, took⟩ := exec_taken (c := .take .cell id) (r := .take id) rfl free rfl run hears
  have rest := took.rest
  rw [State.closeEvent_taken_rest] at rest
  refine ⟨t, next, took.answers, by rw [rest]; rfl, by rw [rest]; rfl, ?_, fun steady => ⟨fun h => ?_, took.raisesOnly ?_⟩⟩
  · rw [took.rest]
    exact State.closeEvent_taken_vents (s := s.toLead .cell) orphans id.toNat
  · rw [took.rest]
    exact State.closeEvent_taken_head (s := s.toLead .cell) (fun i => steady i) id.toNat h
  · rw [State.closeEvent_taken (s := s.toLead .cell) fun i => steady i]
    exact body.raisesOnly wakes_below

/-- Settles O50: PIECE DECLARE and TAKE, refused by the first test that fails, or taken. -/
theorem piecesAreDeclaredAndTaken : Obligations.PiecesAreDeclaredAndTaken := by
  refine fun s free => ⟨fun p => ?_, fun id => ⟨fun bad => ?_, fun least most => ⟨fun unknown => ?_,
    fun p found standing => ?_, fun p found severed sixteen orphans => ?_⟩⟩⟩
  · intro answers good known
    have fields (job : s.job.state ≠ .idle) (fits : good) : s.pieceDeclareRefusal p =
        if (s.findPiece p.id.toNat).isSome then some .pieceExists else if 64 ≤ s.pieces.length then some .pieceTableFull else none := by
      rw [State.pieceDeclareRefusal, if_neg job, if_neg fun bad => (pieceFieldsBad_iff p).mp bad fits]
    have exists_iff := findPiece_isSome_iff s p.id.toNat
    refine ⟨fun idle => exec_pieceDeclare_refused free (if_pos idle), fun job bad => exec_pieceDeclare_refused free ?_,
      fun job fits there => exec_pieceDeclare_refused free ?_, fun job fits absent full => exec_pieceDeclare_refused free ?_,
      fun job fits absent room => exec_pieceDeclare_taken free ?_⟩
    · rw [State.pieceDeclareRefusal, if_neg job, if_pos ((pieceFieldsBad_iff p).mpr bad)]
    · rw [fields job fits, if_pos (exists_iff.mpr there)]
    · rw [fields job fits, if_neg fun some => absent (exists_iff.mp some), if_pos full]
    · rw [fields job fits, if_neg fun some => absent (exists_iff.mp some), if_neg (Nat.not_le.mpr room)]
  · exact exec_take_refused (r := (.badValue, .none)) free (if_pos (badPieceId_eq_true bad))
  · have good : ¬ badPieceId id.toNat = true := by rw [badPieceId_eq_false_of least most]; decide
    exact exec_take_refused (r := (.unknownPiece, .none)) free (by rw [State.takeRefusal, if_neg good, unknown])
  · have good : ¬ badPieceId id.toNat = true := by rw [badPieceId_eq_false_of least most]; decide
    refine exec_take_refused (r := (.notSevered, .piece p.st)) free ?_
    rw [State.takeRefusal, if_neg good, found]
    exact if_neg standing
  · have good : ¬ badPieceId id.toNat = true := by rw [badPieceId_eq_false_of least most]; decide
    have fits : s.takeRefusal id.toNat = none := by
      rw [State.takeRefusal, if_neg good, found]
      exact if_pos severed
    exact exec_take_taken free fits orphans

/-! ### HOLD and RESUME -/

/-- Closing an event leaves a head whose demand and lapse timer are as they would be re-worked with its set and its line brought
up to date (R134, R136). -/
theorem State.closeEvent_line {b s : State} {h : HeadId} (demand : s.DemandNow h) (lapse : s.LapseRunsWhenHeld h)
    (stood : (b.head h).standsBy b.job.state.isOpen = (s.head h).standsBy s.job.state.isOpen) :
    (State.closeEvent b s).head h = { s.head h with
      hold := s.holdNow h, overdue := (s.head h).overdue.follow (s.holdNow h).held
      watch := ((State.closeEvent b s).head h).watch } := by
  have blade := Head.reworkBlade_eq stood demand.1 demand.2
  have hold : ((State.closeEvent b s).head h).hold = s.holdNow h := by
    rw [State.closeEvent_hold, blade]
    rfl
  conv_lhs => rw [State.closeEvent_head_eq, blade, hold, lapse.now]

section CellHold

variable {s : State} {on : Bool} {sel : Byte} {hs : List HeadId} (named : selectorOf sel = some hs) (steady : ∀ h, s.Steady h)

include named steady

/-- A head that HOLD or RESUME does not touch is not touched by the closing either. -/
theorem State.cellHold_steady {h : HeadId} (same : (s.modSelected hs (Head.withCellHold on)).head h = s.head h) :
    (s.modSelected hs (Head.withCellHold on)).Steady h ∧
      (State.closeEvent s (s.modSelected hs (Head.withCellHold on))).head h = s.head h ∧
      (State.closeEvent s (s.modSelected hs (Head.withCellHold on))).link (.head h) = s.link (.head h) := by
  have zones := State.modSelected_zones s hs (Head.withCellHold on)
  have job := State.modSelected_job s hs (Head.withCellHold on)
  have kept : (s.modSelected hs (Head.withCellHold on)).Steady h := (steady h).of_alike (by rw [same]; exact .refl _)
    (.inl (by rw [same])) (by rw [job]) (Head.sameHeld_of_states _ (State.zoneStates_of_zones zones))
  have claim (k : HeadId) : ((s.modSelected hs (Head.withCellHold on)).head k).claim = (s.head k).claim := by
    obtain e | e := State.modSelected_head_or named s (Head.withCellHold on) k <;> rw [e]
    rfl
  refine ⟨kept, ?_, ?_⟩
  · rw [State.closeEvent_steady kept (by rw [same, job]) (fun _ => claim _), same]
  · rw [State.closeEvent_link_same kept (by rw [same]) (by rw [same, job]) (fun _ => claim _)]
    exact congrArg (fun links => State.link { s with links := links } (.head h)) (State.modSelected_links s hs (Head.withCellHold on))

/-- The head of a HOLD or RESUME that names it (R134 to R136). -/
theorem State.closeEvent_cellHold_head {h : HeadId} (member : h ∈ hs) :
    (State.closeEvent s (s.modSelected hs (Head.withCellHold on))).head h = { s.head h with
      hold := { (s.head h).hold with cellHold := on }
      overdue := (s.head h).overdue.follow ({ (s.head h).hold with cellHold := on } : HoldSet).held
      watch := ((State.closeEvent s (s.modSelected hs (Head.withCellHold on))).head h).watch } := by
  have body : (s.modSelected hs (Head.withCellHold on)).head h = (s.head h).withCellHold on := by
    rw [State.modSelected_head named, if_pos member]
  have zones := State.modSelected_zones s hs (Head.withCellHold on)
  have job := State.modSelected_job s hs (Head.withCellHold on)
  have demand : (s.modSelected hs (Head.withCellHold on)).DemandNow h :=
    (steady h).demandNow.of_same (by rw [job]) (by rw [body]; rfl) (by rw [body]; rfl) (by rw [body]; rfl) (by rw [body]; rfl)
      (by rw [body]; rfl) (by rw [body]; rfl)
  have stands : (s.head h).standsBy s.job.state.isOpen =
      ((s.modSelected hs (Head.withCellHold on)).head h).standsBy (s.modSelected hs (Head.withCellHold on)).job.state.isOpen := by
    rw [body, job]
    rfl
  obtain ⟨holds, -, -, -, lapse⟩ := steady h
  have runs : (s.modSelected hs (Head.withCellHold on)).LapseRunsWhenHeld h := by
    rw [State.lapseRunsWhenHeld_iff] at lapse ⊢
    rw [body]
    rw [show (s.modSelected hs (Head.withCellHold on)).allHeld = s.allHeld from
      funext (State.allHeld_of_states (State.zoneStates_of_zones zones))]
    exact lapse
  have hold : (s.modSelected hs (Head.withCellHold on)).holdNow h = { (s.head h).hold with cellHold := on } := by
    have now : (s.modSelected hs (Head.withCellHold on)).holdNow h = { s.holdNow h with cellHold := on } := by
      rw [State.holdNow, State.zoneHolds_of (h := h) (State.zoneStates_of_zones zones) (by rw [body]; rfl), body, job]
      rfl
    exact now.trans (congrArg (fun set : HoldSet => { set with cellHold := on }) holds.symm)
  conv_lhs => rw [State.closeEvent_line demand runs stands, hold, body]
  rfl

end CellHold

theorem Head.withCellHold_same {hd : Head} {on : Bool} (same : hd.hold.cellHold = on) : hd.withCellHold on = hd := by
  rw [Head.withCellHold, ← same]

/-- The command and the code of HOLD and of RESUME (R135). -/
def cellHoldRow (on : Bool) (sel : Byte) : Instr := if on = true then .hold .cell sel else .resume .cell sel

theorem exec_cellHold_refused {s : State} {sel : Byte} (free : s.listens .cell = true) (bad : 2 < sel.toNat) (on : Bool) :
    exec (cellHoldRow on sel) s = .next (s.answering .cell (if on = true then 0x39 else 0x3A) (.refused .badValue .none)) := by
  have run : State.cellHoldRequest on (s.toLead .cell) sel = (s.toLead .cell, .refused .badValue .none) := by
    rw [State.cellHoldRequest, selectorOf_eq_none bad]
  cases on with
  | true => exact exec_run (c := .hold .cell sel) (r := .hold sel) rfl free rfl run
  | false => exact exec_run (c := .resume .cell sel) (r := .resume sel) rfl free rfl run

theorem exec_cellHold_taken {s : State} {sel : Byte} {hs : List HeadId} (free : s.listens .cell = true)
    (named : selectorOf sel = some hs) (on : Bool) :
    ∃ t, exec (cellHoldRow on sel) s = .next t ∧
      Took s (State.closeEvent (s.toLead .cell) ((s.toLead .cell).modSelected hs (Head.withCellHold on))) t .cell
        (if on = true then 0x39 else 0x3A) (.accepted (.holds (hs.map fun h => (h,
          ((State.closeEvent (s.toLead .cell) ((s.toLead .cell).modSelected hs (Head.withCellHold on))).head h).hold)))) := by
  have run : State.cellHoldRequest on (s.toLead .cell) sel =
      (State.closeEvent (s.toLead .cell) ((s.toLead .cell).modSelected hs (Head.withCellHold on)), .accepted (.holds (hs.map
        fun h => (h, ((State.closeEvent (s.toLead .cell)
          ((s.toLead .cell).modSelected hs (Head.withCellHold on))).head h).hold)))) := by
    rw [State.cellHoldRequest, named]
  have hears := (State.Hears.of_links (u := wakes) (State.modSelected_links (s.toLead .cell) hs (Head.withCellHold on))).taken
    (u := fun _ => AttSet.ofHoldChanged.union AttSet.ofWaitCleared) wakes_below_closes (closes_below _ _)
  cases on with
  | true => exact exec_taken (c := .hold .cell sel) (r := .hold sel) rfl free rfl run hears
  | false => exact exec_taken (c := .resume .cell sel) (r := .resume sel) rfl free rfl run hears

/-- What a HOLD or RESUME makes of one head and of its link (R134 to R136). -/
theorem State.closeEvent_cellHolds {s : State} (on : Bool) {sel : Byte} {hs : List HeadId} (named : selectorOf sel = some hs)
    (names : ∀ h, h ∈ hs ↔ Named sel h) (steady : ∀ h, s.Steady h) (h : HeadId) :
    let t := State.closeEvent s (s.modSelected hs (Head.withCellHold on))
    (¬ Named sel h → t.head h = s.head h ∧ (t.link (.head h)).attention = (s.link (.head h)).attention) ∧
      (Named sel h →
        t.head h = { s.head h with
          hold := { (s.head h).hold with cellHold := on }, watch := (t.head h).watch, overdue := (t.head h).overdue } ∧
        ((s.head h).hold.cellHold = on → t.head h = s.head h ∧
          (t.link (.head h)).attention = (s.link (.head h)).attention) ∧
        ((s.head h).hold.cellHold ≠ on → (t.link (.head h)).attention.holdChanged = true) ∧
        ((s.head h).overdue.st ≠ .stopped → (t.head h).overdue =
          { (s.head h).overdue with st := if t.fhold h = true then .paused else .counting }) ∧
        ((s.head h).overdue.st = .stopped → (t.head h).overdue = (s.head h).overdue)) := by
  intro t
  have untouched (same : (s.modSelected hs (Head.withCellHold on)).head h = s.head h) :
      t.head h = s.head h ∧ (t.link (.head h)).attention = (s.link (.head h)).attention := by
    obtain ⟨-, head, link⟩ := State.cellHold_steady named steady same
    exact ⟨head, congrArg Link.attention link⟩
  refine ⟨fun unnamed => untouched ?_, fun is => ?_⟩
  · rw [State.modSelected_head named, if_neg fun member => unnamed ((names h).mp member)]
  · have member := (names h).mpr is
    have head : t.head h = _ := State.closeEvent_cellHold_head named steady member
    have hold : (t.head h).hold = { (s.head h).hold with cellHold := on } := by rw [head]
    have overdue : (t.head h).overdue = (s.head h).overdue.follow (t.fhold h) := by rw [State.fhold, hold, head]
    refine ⟨by rw [overdue]; rw [State.fhold, hold]; exact head, fun same => untouched ?_, fun differs => ?_, fun runs => ?_,
      fun stopped => ?_⟩
    · rw [State.modSelected_head named, if_pos member, Head.withCellHold_same same]
    · refine State.closeEvent_raises s _ h fun same => differs ?_
      have same : (t.head h).hold = (s.head h).hold := same
      rw [← same, hold]
    · rw [overdue, Overdue.follow_running _ runs]
    · rw [overdue, Overdue.follow_stopped _ stopped]

theorem State.closeEvent_cellHold_rest (s : State) (hs : List HeadId) (f : Head → Head) :
    State.closeEvent s (s.modSelected hs f) = { s with
      heads := (State.closeEvent s (s.modSelected hs f)).heads, links := (State.closeEvent s (s.modSelected hs f)).links } := by
  have body : s.modSelected hs f = { s with heads := (s.modSelected hs f).heads } := by
    induction hs generalizing s with
    | nil => rfl
    | cons h hs ih => exact (ih (s.modHead h f)).trans rfl
  have closed := State.closeEvent_rest s (s.modSelected hs f)
  generalize State.closeEvent s (s.modSelected hs f) = t at closed ⊢
  rw [body] at closed
  exact closed

/-- Settles O51: HOLD and RESUME change the sets they name, and the closing brings the lines up to date. -/
theorem holdAndResume : Obligations.HoldAndResume := by
  refine fun s on sel free => ⟨fun bad => exec_cellHold_refused free bad on, fun few steady => ?_⟩
  obtain ⟨hs, named, names, -⟩ := State.modSelected_eq few (Head.withCellHold on)
  obtain ⟨t, next, took⟩ := exec_cellHold_taken free named on
  have hears := (State.Hears.of_links (u := wakes) (State.modSelected_links (s.toLead .cell) hs (Head.withCellHold on))).taken
    (u := fun _ => AttSet.ofHoldChanged.union AttSet.ofWaitCleared) wakes_below_closes (closes_below _ _)
  have heads (h : HeadId) := State.closeEvent_cellHolds (s := s.toLead .cell) on named names (fun i => steady i) h
  refine ⟨t, _, next, took.answers, ?_, took.raisesOnly (hears.raisesOnly fun _ => AttSet.below_refl _), fun h set => ?_, fun h => ?_⟩
  · have rest := took.rest
    rw [State.closeEvent_cellHold_rest] at rest
    rw [rest]
    rfl
  · rw [List.mem_map, took.head h]
    constructor
    · rintro ⟨k, member, e⟩
      obtain ⟨rfl, rfl⟩ := Prod.mk.inj e
      exact ⟨(names k).mp member, rfl⟩
    · rintro ⟨is, rfl⟩
      exact ⟨h, (names h).mpr is, rfl⟩
  · have head := heads h
    simp only [State.fhold, State.toLead_attention] at head
    simp only [State.fhold, took.head, took.attention]
    exact head

end Sys2Proof.Machine

/-! PROOFS. An event that changes one head, drops its mark and re-evaluates need, and SERVICE (R86, R91, R139 to R141). -/

namespace Sys2Proof.Machine

theorem VentsUnneeded.closed {s u : State} (vents : VentsUnneeded s u) (b : State) : VentsUnneeded s (State.closeEvent b u) := by
  intro k lt
  have needed : (State.closeEvent b u).needed k = u.needed k := State.needed_congr (by simp) (by simp) (by simp) k
  rw [State.zone_closeEvent, needed]
  exact vents k lt

/-- A re-evaluation touches the heads' watches, the links and the zones alone (R86). -/
theorem State.reevaluate_rest (s : State) :
    s.reevaluate = { s with heads := s.reevaluate.heads, links := s.reevaluate.links, zones := s.reevaluate.zones } := by
  calc s.reevaluate
      = { s.reevaluate with heads := s.reevaluate.heads, links := s.reevaluate.links, zones := s.reevaluate.zones } := rfl
    _ = _ := by simp

/-! ### A head changes, its mark drops, need is re-evaluated -/

/-- The body of the events that take work from a head or give it to it: the head changes, the mark it holds drops, and need is
re-evaluated. -/
def State.reworked (s : State) (h : HeadId) (f : Head → Head) : State := ((s.modHead h f).dropMark h).reevaluate

/-- Dropping a mark touches the mark, the watches and the links alone (R91). -/
theorem State.dropMark_rest (s : State) (h : HeadId) : s.dropMark h =
    { s with heads := (s.dropMark h).heads, links := (s.dropMark h).links, mark := s.markPassed h } := by
  unfold State.dropMark State.markPassed
  cases mark : s.mark with
  | none =>
    dsimp only
    rw [← mark]
  | some m =>
    dsimp only
    by_cases holds : m.holder = h
    · rw [if_pos holds, if_pos holds]
      by_cases watched : (s.head h.other).watch.reasons.zoneBudget = true
      · rw [if_pos watched, if_pos watched]
        cases h <;> rfl
      · rw [if_neg watched, if_neg watched]
    · rw [if_neg holds, if_neg holds, ← mark]

section Reworked

variable (s : State) (h : HeadId) (f : Head → Head)

theorem State.reworked_told : (s.modHead h f).Told (s.reworked h f) :=
  (State.dropMark_told _ h).trans (State.reevaluate_told _)

theorem State.reworked_hears : State.Hears wakes s (s.reworked h f) := State.headMoved_hears (s.modHead h f) h

theorem State.markPassed_modHead : (s.modHead h f).markPassed h = s.markPassed h := by
  unfold State.markPassed
  rw [State.head_modHead_other]
  rfl

/-- Such a body changes the heads, the links and the zones, and passes the mark. -/
theorem State.reworked_rest : s.reworked h f = { s with
    heads := (s.reworked h f).heads, links := (s.reworked h f).links, zones := (s.reworked h f).zones
    mark := s.markPassed h } := by
  have vented := State.reevaluate_rest ((s.modHead h f).dropMark h)
  have dropped := State.dropMark_rest (s.modHead h f) h
  rw [State.markPassed_modHead] at dropped
  rw [State.reworked]
  generalize ((s.modHead h f).dropMark h).reevaluate = t at vented ⊢
  rw [dropped] at vented
  exact vented

theorem State.closeEvent_reworked_rest (b : State) : State.closeEvent b (s.reworked h f) = { s with
    heads := (State.closeEvent b (s.reworked h f)).heads, links := (State.closeEvent b (s.reworked h f)).links
    zones := (State.closeEvent b (s.reworked h f)).zones, mark := s.markPassed h } := by
  have closed := State.closeEvent_rest b (s.reworked h f)
  have zones := State.closeEvent_zones b (s.reworked h f)
  generalize State.closeEvent b (s.reworked h f) = t at closed zones ⊢
  rw [zones]
  rw [State.reworked_rest] at closed
  exact closed

theorem State.reworked_job : (s.reworked h f).job = s.job := by simp [State.reworked]

variable {s} {h} {f}

theorem State.reworked_self (unwatched : (f (s.head h)).watch = Watch.empty) : (s.reworked h f).head h = f (s.head h) := by
  rw [(s.reworked_told h f).head (by rw [State.head_modHead_self, unwatched]), State.head_modHead_self]

theorem State.reworked_other_told : ∃ w, (s.reworked h f).head h.other = { s.head h.other with watch := w } ∧
    (w = (s.head h.other).watch ∨ w = Watch.empty) := by
  obtain ⟨w, e, from'⟩ := s.reworked_told h f h.other
  rw [State.head_modHead_other] at e from'
  exact ⟨w, e, from'⟩

/-- The zones that nothing needs any more have gone OFF (R86). -/
theorem State.reworked_vents (orphans : NoOrphans (s.modHead h f)) : VentsUnneeded s (s.reworked h f) := by
  intro k lt
  have told := State.reworked_told s h f
  have needed : (s.reworked h f).needed k = ((s.modHead h f).dropMark h).needed k :=
    State.needed_congr (s := (s.modHead h f).dropMark h)
      (fun i => by rw [told.window i, State.dropMark_head_window])
      (fun i => by rw [(told.alike i).request, State.dropMark_head_pendingReq])
      (by simp [State.reworked]) k
  have still : NoOrphans ((s.modHead h f).dropMark h) := orphans.of_windows
    (fun i j cuts => by rwa [Head.cutsOver_of_window ((State.dropMark_told (s.modHead h f) h).window i)] at cuts)
    (fun j _ _ off => by rwa [State.zone, State.dropMark_zones] at off)
  have zone : ((s.modHead h f).dropMark h).zone k = s.zone k := by
    rw [State.zone, State.dropMark_zones]
    rfl
  rw [needed, State.reworked, State.reevaluate_zone still lt, zone]
  rfl

/-- The other head follows its rules as it did (R86). -/
theorem State.reworked_other_steady (steady : s.Steady h.other) : (s.reworked h f).Steady h.other := by
  obtain ⟨w, e, from'⟩ := State.reworked_other_told (s := s) (h := h) (f := f)
  refine steady.of_alike (by rw [e]; exact Head.alike_watch _ w) (by rw [e]; exact from') (by rw [State.reworked_job]) ?_
  have same := State.reevaluate_sameHeld ((s.modHead h f).dropMark h) h.other
  intro k lt looks
  have window : (((s.modHead h f).dropMark h).head h.other).window = (s.head h.other).window := by simp
  have request : (((s.modHead h f).dropMark h).head h.other).pendingReq = (s.head h.other).pendingReq := by simp
  have zone : ((s.modHead h f).dropMark h).zone k = s.zone k := by
    rw [State.zone, State.dropMark_zones]
    rfl
  rw [← zone]
  exact same k lt (by rwa [Head.cutsOver_of_window window, request])

/-- The other head keeps all but its watch (R75, R134). -/
theorem State.closeEvent_reworked_other (steady : s.Steady h.other) : SameHead s (State.closeEvent s (s.reworked h f)) h.other := by
  obtain ⟨w, e, -⟩ := State.reworked_other_told (s := s) (h := h) (f := f)
  have kept := State.reworked_other_steady (f := f) steady
  have demand := kept.demandNow
  obtain ⟨holds, overdue, -, -, lapse⟩ := kept
  have closed := State.closeEvent_keeps (b := s) holds overdue.line demand lapse (by rw [e, State.reworked_job]; rfl)
  rw [SameHead]
  conv_lhs => rw [closed, e]

theorem State.closeEvent_reworked_raises : RaisesOnly s (State.closeEvent s (s.reworked h f))
    (AttSet.ofHoldChanged.union AttSet.ofWaitCleared) :=
  ((s.reworked_hears h f).taken (u := fun _ => AttSet.ofHoldChanged.union AttSet.ofWaitCleared) wakes_below_closes
    (closes_below _ _)).raisesOnly fun _ => AttSet.below_refl _

theorem NoOrphans.modHead (orphans : NoOrphans s) (cuts : ∀ k, (f (s.head h)).cutsOver k = true → (s.head h).cutsOver k = true) :
    NoOrphans (s.modHead h f) := by
  refine orphans.of_windows (fun i k covers => ?_) fun k _ _ off => off
  obtain rfl | rfl := HeadId.eq_or_other h i
  · rw [State.head_modHead_self] at covers
    exact cuts k covers
  · rwa [State.head_modHead_other] at covers

end Reworked

/-! ### SERVICE-out -/

theorem Head.workless_iff (hd : Head) : hd.workless = true ↔ hd.queue = [] ∧ hd.window = [] := by simp [Head.workless]

theorem State.serviceOut_eq (s : State) (h : HeadId) : s.serviceOut h = s.reworked h (Head.takenOut (s.park h)) := rfl

theorem Head.takenOut_eq {hd : Head} (empty : hd.window = []) (p : Point) : hd.takenOut p = { hd with
    service := .outOfService, ref := ⟨p, none, .standing⟩, watch := Watch.empty, pendingReq := none
    blade := { hd.blade with idleTimer := none }, standing := p, claim := ⟨p.x, p.x⟩ } := by
  simp [Head.takenOut, Head.standAt, Head.reclaim, Head.windowSegs, empty, hull, standingRef]

theorem Head.takenOut_cutsOver {hd : Head} (empty : hd.window = []) (p : Point) (k : Nat) :
    (hd.takenOut p).cutsOver k = true ↔ hd.cutsOver k = true := by
  rw [Head.takenOut_eq empty]
  rfl

theorem Head.OverdueFollows.stopped {hd : Head} (follows : hd.OverdueFollows) (empty : hd.window = []) :
    hd.overdue.st = .stopped := ((Head.overdueFollows_empty empty).mp follows).1

theorem State.zoneHolds_empty {s : State} {h : HeadId} (empty : (s.head h).window = []) : s.zoneHolds h = false := by
  simp [State.zoneHolds, Head.cutsOver, empty]

theorem State.Steady.offRests {s : State} {h : HeadId} (steady : s.Steady h) : (s.head h).blade.OffRests :=
  ((s.demandFollows_iff h).mp steady.2.2.2.1).2

section HoldFollows

variable {s : State} {h : HeadId} (follows : s.HoldFollows h)

include follows

theorem State.HoldFollows.noJob : (s.head h).hold.noJob = !s.job.state.isOpen := congrArg HoldSet.noJob follows

theorem State.HoldFollows.outOfService : (s.head h).hold.outOfService = !(s.head h).inService :=
  congrArg HoldSet.outOfService follows

theorem State.HoldFollows.blade : (s.head h).hold.blade = (s.head h).bladeHolds := congrArg HoldSet.blade follows

theorem State.HoldFollows.zone : (s.head h).hold.zone = s.zoneHolds h := congrArg HoldSet.zone follows

end HoldFollows

/-- The head of a SERVICE-out (R140). -/
theorem State.closeEvent_serviceOut {s : State} {h : HeadId} (steady : s.Steady h) (empty : (s.head h).window = []) :
    (State.closeEvent s (s.serviceOut h)).head h = { s.head h with
      service := .outOfService, ref := ⟨s.park h, none, .standing⟩, standing := s.park h, claim := ⟨(s.park h).x, (s.park h).x⟩
      watch := Watch.empty, pendingReq := none, lapse := none
      blade := { (if (s.head h).blade.st.accepts = true then ({ (s.head h).blade with idleTimer := none } : Channel).stop false
        else { (s.head h).blade with idleTimer := none }) with demand := .off, stopTimer := none }
      hold := { (s.head h).hold with
        outOfService := true, blade := ((State.closeEvent s (s.serviceOut h)).head h).hold.blade } } := by
  have offRests := steady.offRests
  obtain ⟨holds, overdue, -⟩ := steady
  have body : (s.serviceOut h).head h = _ :=
    (State.reworked_self (f := Head.takenOut (s.park h)) rfl).trans (Head.takenOut_eq empty (s.park h))
  have job : (s.serviceOut h).job = s.job := State.reworked_job ..
  have blade := (State.closeEvent_blade s (s.serviceOut h) h).trans
    (Head.reworkBlade_closed _ (.inr (by rw [body]; rfl)) (by rw [body]; exact offRests))
  have hold : ((State.closeEvent s (s.serviceOut h)).head h).hold = { (s.head h).hold with
      outOfService := true, blade := ((State.closeEvent s (s.serviceOut h)).head h).hold.blade } := by
    have set := State.closeEvent_hold s (s.serviceOut h) h
    rw [State.zoneHolds_empty (s := s.serviceOut h) (by rw [body]; exact empty), job, body] at set
    dsimp only
    rw [holds.noJob, holds.zone, State.zoneHolds_empty empty, set]
    rfl
  have watch : ((State.closeEvent s (s.serviceOut h)).head h).watch = Watch.empty :=
    State.closeEvent_watch_empty (by rw [body])
  have lapse : (s.serviceOut h).lapseNow h = none := by rw [State.lapseNow, body]
  have timer : ((s.serviceOut h).head h).overdue = (s.head h).overdue := by rw [body]
  have parts := State.closeEvent_head_eq s (s.serviceOut h) h
  rw [← State.closeEvent_blade, blade, watch, lapse, timer, Overdue.follow_stopped _ (overdue.stopped empty), body] at parts
  rw [← hold]
  exact parts

/-! ### SERVICE-in -/

theorem State.serviceIn_eq (s : State) (h : HeadId) : s.serviceIn h = (s.modHead h (Head.takenIn (s.park h))).reevaluate := rfl

theorem Head.takenIn_eq {hd : Head} (empty : hd.window = []) (p : Point) : hd.takenIn p = { hd with
    service := .inService, ref := ⟨p, none, .standing⟩, standing := p, claim := ⟨p.x, p.x⟩ } := by
  simp [Head.takenIn, Head.standAt, Head.reclaim, Head.windowSegs, empty, hull, standingRef]

/-- A lapse timer that runs as it should does so where the same zones of the request are HELD (R88). -/
theorem State.LapseRunsWhenHeld.of_sameHeld {s t : State} {h : HeadId} (runs : s.LapseRunsWhenHeld h)
    (request : (t.head h).pendingReq = (s.head h).pendingReq) (lapse : (t.head h).lapse = (s.head h).lapse)
    (zones : (s.head h).SameHeld s t) : t.LapseRunsWhenHeld h := by
  rw [State.lapseRunsWhenHeld_iff] at runs ⊢
  rw [lapse, request, runs]
  cases e : (s.head h).pendingReq with
  | none => rfl
  | some r =>
    refine allOf_congr fun k member => ?_
    obtain ⟨small, has⟩ := List.mem_filter.mp member
    rw [decide_eq_decide, zones k (List.mem_range.mp small) (.inr (by rw [e]; exact has))]

section ServiceIn

variable (s : State) (h : HeadId)

theorem State.serviceIn_head (i : HeadId) : ∃ w, (s.serviceIn h).head i =
    { (s.modHead h (Head.takenIn (s.park h))).head i with watch := w } := by
  obtain ⟨w, e, -⟩ := State.reevaluate_told (s.modHead h (Head.takenIn (s.park h))) i
  exact ⟨w, e⟩

theorem State.serviceIn_job : (s.serviceIn h).job = s.job := by simp [State.serviceIn]

theorem State.serviceIn_hears : State.Hears wakes s (s.serviceIn h) :=
  (State.Hears.of_links (s := s) (t := s.modHead h (Head.takenIn (s.park h))) rfl).trans (State.reevaluate_hears _)

theorem State.closeEvent_serviceIn_rest : State.closeEvent s (s.serviceIn h) = { s with
    heads := (State.closeEvent s (s.serviceIn h)).heads, links := (State.closeEvent s (s.serviceIn h)).links
    zones := (State.closeEvent s (s.serviceIn h)).zones } :=
  State.closeEvent_reevaluate_rest s (s.modHead h (Head.takenIn (s.park h)))

variable {s} {h}

theorem State.closeEvent_serviceIn_vents (empty : (s.head h).window = []) (orphans : NoOrphans s) :
    VentsUnneeded s (State.closeEvent s (s.serviceIn h)) := by
  intro k lt
  have still : NoOrphans (s.modHead h (Head.takenIn (s.park h))) := orphans.modHead fun j cuts => by
    rw [Head.takenIn_eq empty] at cuts
    exact cuts
  have told := State.reevaluate_told (s.modHead h (Head.takenIn (s.park h)))
  have needed : (State.closeEvent s (s.serviceIn h)).needed k = (s.modHead h (Head.takenIn (s.park h))).needed k :=
    State.needed_congr (s := s.modHead h (Head.takenIn (s.park h)))
      (fun i => by rw [State.closeEvent_head_window]; exact told.window i)
      (fun i => by rw [State.closeEvent_head_pendingReq]; exact (told.alike i).request)
      (by rw [State.closeEvent_pieces, State.serviceIn_eq, State.reevaluate_pieces]) k
  rw [State.zone_closeEvent, needed]
  exact State.reevaluate_zone still lt

theorem State.closeEvent_serviceIn_other (steady : s.Steady h.other) : SameHead s (State.closeEvent s (s.serviceIn h)) h.other := by
  have told := State.reevaluate_told (s.modHead h (Head.takenIn (s.park h))) h.other
  obtain ⟨w, e, from'⟩ := told
  rw [State.head_modHead_other] at e from'
  have e : (s.serviceIn h).head h.other = { s.head h.other with watch := w } := e
  have held := State.reevaluate_sameHeld (s.modHead h (Head.takenIn (s.park h))) h.other
  rw [State.head_modHead_other] at held
  have kept : (s.serviceIn h).Steady h.other := steady.of_alike (by rw [e]; exact Head.alike_watch _ w) (by rw [e]; exact from')
    (by rw [State.serviceIn_job]) held
  have demand := kept.demandNow
  obtain ⟨holds, overdue, -, -, lapse⟩ := kept
  have closed := State.closeEvent_keeps (b := s) holds overdue.line demand lapse (by rw [e, State.serviceIn_job]; rfl)
  rw [SameHead]
  conv_lhs => rw [closed, e]

/-- The head of a SERVICE-in (R141). -/
theorem State.closeEvent_serviceIn {t : State} (is : t = State.closeEvent s (s.serviceIn h)) (steady : s.Steady h) (empty : (s.head h).window = []) :
    t.head h = { s.head h with
      service := .inService, ref := ⟨s.park h, none, .standing⟩, standing := s.park h, claim := ⟨(s.park h).x, (s.park h).x⟩
      watch := (t.head h).watch
      blade := (((s.head h).takenIn (s.park h)).reworkBlade ((s.head h).standsBy s.job.state.isOpen) s.job.state.isOpen).blade
      hold := { (s.head h).hold with outOfService := false, blade := (t.head h).hold.blade } } := by
  obtain ⟨holds, overdue, -, -, lapse⟩ := steady
  obtain ⟨w, body⟩ := State.serviceIn_head s h h
  rw [State.head_modHead_self, Head.takenIn_eq empty] at body
  have job := State.serviceIn_job s h
  have runs : (s.serviceIn h).LapseRunsWhenHeld h := lapse.of_sameHeld (by rw [body]) (by rw [body]) (by
    have held := State.reevaluate_sameHeld (s.modHead h (Head.takenIn (s.park h))) h
    intro k lt looks
    refine held k lt ?_
    rw [State.head_modHead_self, Head.takenIn_eq empty]
    exact looks)
  have hold : (t.head h).hold = { (s.head h).hold with outOfService := false, blade := (t.head h).hold.blade } := by
    have set := State.closeEvent_hold s (s.serviceIn h) h
    rw [State.zoneHolds_empty (s := s.serviceIn h) (by rw [body]; exact empty), job, body, ← is] at set
    dsimp only
    rw [holds.noJob, holds.zone, State.zoneHolds_empty empty, set]
    rfl
  have timer : ((s.serviceIn h).head h).overdue = (s.head h).overdue := by rw [body]
  have parts := State.closeEvent_head_eq s (s.serviceIn h) h
  rw [← is, runs.now, timer, Overdue.follow_stopped _ (overdue.stopped empty), body, job] at parts
  rw [← hold, Head.takenIn_eq empty]
  exact parts

end ServiceIn

/-! ### The request -/

theorem State.clear_parkClaim (s : State) (h : HeadId) :
    s.clearFor h (s.parkClaim h) = true ↔ s.Clear h ⟨(s.park h).x, (s.park h).x⟩ := s.clearFor_iff h _

/-- The two directions of SERVICE (11.1, log 14). -/
def serviceRow (d : Service) (code : Byte) : Instr :=
  match d with
  | .outOfService => .serviceOut .cell code
  | .inService => .serviceIn .cell code

/-- The code of a direction (11.1, log 14). -/
def Service.direction : Service → Byte
  | .outOfService => 1
  | .inService => 0

theorem directionOf_direction (d : Service) : directionOf d.direction = some d := by cases d <;> rfl

theorem serviceRow_request (d : Service) (code : Byte) : requestOf (serviceRow d code) = some (.cell, .service code d.direction) := by
  cases d <;> rfl

theorem State.serviceRequest_head (s : State) (h : HeadId) (d : Service) :
    s.serviceRequest (headCode h) d.direction = s.serviceHead h d := by
  rw [State.serviceRequest, headOf_headCode, directionOf_direction]

theorem directionOf_eq_none {code : Byte} (other : 1 < code.toNat) : directionOf code = none := by
  unfold directionOf
  rw [if_neg, if_neg]
  · rintro rfl
    exact absurd other (by decide)
  · rintro rfl
    exact absurd other (by decide)

/-- A code that names no head or no direction is refused (R139). -/
theorem State.serviceRequest_bad (s : State) {head direction : Byte} (bad : 1 < head.toNat ∨ 1 < direction.toNat) :
    s.serviceRequest head direction = (s, .refused .badValue .none) := by
  unfold State.serviceRequest
  cases named : headOf head with
  | none => rfl
  | some h =>
    have other : ¬ 1 < head.toNat := fun other => by rw [headOf_eq_none other] at named; cases named
    rw [directionOf_eq_none (bad.resolve_left other)]

/-- A SERVICE that leaves the part as it was. -/
theorem exec_service_same {s : State} {d : Service} {code : Byte} {reply : Reply} (free : s.listens .cell = true)
    (run : (s.toLead .cell).serviceRequest code d.direction = (s.toLead .cell, reply)) :
    exec (serviceRow d code) s = .next (s.answering .cell 0x3B reply) :=
  exec_run (r := .service code d.direction) (serviceRow_request d code) free rfl run

theorem State.serviceHead_same {s : State} {h : HeadId} {d : Service} (already : (s.head h).service = d) :
    s.serviceHead h d = (s, .accepted (.service (s.head h).service (s.head h).standing)) := if_pos already

theorem State.serviceHead_out_refused {s : State} {h : HeadId} {r : Reason} (service : (s.head h).service = .inService)
    (refused : s.serviceOutRefusal h = some r) : s.serviceHead h .outOfService = (s, .refused r .none) := by
  rw [State.serviceHead, if_neg (by rw [service]; decide), refused]

theorem State.serviceHead_out_taken {s : State} {h : HeadId} (service : (s.head h).service = .inService)
    (fits : s.serviceOutRefusal h = none) :
    s.serviceHead h .outOfService = serviceReply h (State.closeEvent s (s.serviceOut h)) := by
  rw [State.serviceHead, if_neg (by rw [service]; decide), fits]

theorem State.serviceHead_in_refused {s : State} {h : HeadId} {r : Reason} (service : (s.head h).service = .outOfService)
    (refused : s.serviceInRefusal h = some r) : s.serviceHead h .inService = (s, .refused r .none) := by
  rw [State.serviceHead, if_neg (by rw [service]; decide), refused]

theorem State.serviceHead_in_taken {s : State} {h : HeadId} (service : (s.head h).service = .outOfService)
    (fits : s.serviceInRefusal h = none) :
    s.serviceHead h .inService = serviceReply h (State.closeEvent s (s.serviceIn h)) := by
  rw [State.serviceHead, if_neg (by rw [service]; decide), fits]

/-- The characters of a SERVICE with a code that is none are answered with BAD-VALUE (R139). -/
theorem afterFrame_service_bad {s : State} {head direction : Byte} (free : s.listens .cell = true) (empty : s.pending = [])
    (looks : (s.link .cell).asm = .lead) (bad : 1 < head.toNat ∨ 1 < direction.toNat) :
    s.afterFrame .cell [0x3B, head, direction] = .next (s.answering .cell 0x3B (.refused .badValue .none)) := by
  have bytes : requestBody (.service head direction) = some [0x3B, head, direction] := rfl
  rw [afterFrame_eq empty (State.receives_of_listens free) looks (List.cons_ne_nil _ _) (by simp), State.dispatch,
    parse_body rfl bytes]
  dsimp only
  rw [State.serve_listens s .cell _ free, State.judge_permitted _ _ _ rfl, State.answering_eq_replyWith_toLead]
  show Host.Outcome.next (((s.toLead .cell).serviceRequest head direction).1.replyWith .cell 0x3B
    ((s.toLead .cell).serviceRequest head direction).2) = _
  rw [State.serviceRequest_bad _ bad]

section Service

variable {s : State} {h : HeadId} (free : s.listens .cell = true) (clear : s.Clear h ⟨(s.park h).x, (s.park h).x⟩)
  (steady : ∀ i, s.Steady i)

include free clear steady

/-- An accepted SERVICE-out (R140). -/
theorem exec_serviceOut_taken (service : (s.head h).service = .inService) (queue : (s.head h).queue = [])
    (window : (s.head h).window = []) :
    ∃ t : State, exec (.serviceOut .cell (headCode h)) s = .next t ∧
      Took s (State.closeEvent (s.toLead .cell) ((s.toLead .cell).serviceOut h)) t .cell 0x3B
        (.accepted (.service .outOfService (s.park h))) := by
  have fits : (s.toLead .cell).serviceOutRefusal h = none := by
    have workless : ((s.toLead .cell).head h).workless = true := (Head.workless_iff _).mpr ⟨queue, window⟩
    have apart : (s.toLead .cell).clearFor h ((s.toLead .cell).parkClaim h) = true := (s.clear_parkClaim h).mpr clear
    rw [State.serviceOutRefusal, workless, apart]
    rfl
  have head := State.closeEvent_serviceOut (s := s.toLead .cell) (steady h) window
  have run : (s.toLead .cell).serviceRequest (headCode h) Service.outOfService.direction =
      (State.closeEvent (s.toLead .cell) ((s.toLead .cell).serviceOut h), .accepted (.service .outOfService (s.park h))) := by
    rw [State.serviceRequest_head, State.serviceHead_out_taken (s := s.toLead .cell) service fits, serviceReply, head]
    rfl
  exact exec_taken (c := .serviceOut .cell (headCode h)) (r := .service (headCode h) 1) rfl free rfl run
    (((s.toLead .cell).reworked_hears h _).taken (u := fun _ => AttSet.ofHoldChanged.union AttSet.ofWaitCleared)
      wakes_below_closes (closes_below _ _))

/-- An accepted SERVICE-in (R141). -/
theorem exec_serviceIn_taken (service : (s.head h).service = .outOfService) (window : (s.head h).window = []) :
    ∃ t : State, exec (.serviceIn .cell (headCode h)) s = .next t ∧
      Took s (State.closeEvent (s.toLead .cell) ((s.toLead .cell).serviceIn h)) t .cell 0x3B
        (.accepted (.service .inService (s.park h))) := by
  have fits : (s.toLead .cell).serviceInRefusal h = none := by
    have apart : (s.toLead .cell).clearFor h ((s.toLead .cell).parkClaim h) = true := (s.clear_parkClaim h).mpr clear
    rw [State.serviceInRefusal, apart]
    rfl
  have head := State.closeEvent_serviceIn (s := s.toLead .cell) (h := h) rfl (steady h) window
  have run : (s.toLead .cell).serviceRequest (headCode h) Service.inService.direction =
      (State.closeEvent (s.toLead .cell) ((s.toLead .cell).serviceIn h), .accepted (.service .inService (s.park h))) := by
    rw [State.serviceRequest_head, State.serviceHead_in_taken (s := s.toLead .cell) service fits, serviceReply, head]
    rfl
  exact exec_taken (c := .serviceIn .cell (headCode h)) (r := .service (headCode h) 0) rfl free rfl run
    (((s.toLead .cell).serviceIn_hears h).taken (u := fun _ => AttSet.ofHoldChanged.union AttSet.ofWaitCleared)
      wakes_below_closes (closes_below _ _))

end Service

theorem SameSettings.of_head {s t : State} {h : HeadId} (rest : t.pending = s.pending ∧ t.free = s.free ∧ t.resetHold = s.resetHold ∧
    t.lastCause = s.lastCause ∧ t.rate = s.rate ∧ t.prs = s.prs ∧ t.bed = s.bed ∧ t.zoneSettings = s.zoneSettings ∧ t.job = s.job)
    (own : (t.head h).cut = (s.head h).cut ∧ (t.head h).bladeParams = (s.head h).bladeParams ∧ (t.head h).guard = (s.head h).guard)
    (other : SameHead s t h.other) : SameSettings s t := by
  obtain ⟨pending, free, hold, cause, rate, prs, bed, zones, job⟩ := rest
  refine ⟨pending, free, hold, cause, rate, prs, bed, zones, by rw [job], by rw [job], by rw [job], fun i => ?_⟩
  obtain rfl | rfl := HeadId.eq_or_other h i
  · exact own
  · rw [other]
    exact ⟨rfl, rfl, rfl⟩

/-- Closing an event that changes whether a head is in service raises HOLD-CHANGED on its link (R134). -/
theorem State.closeEvent_service_raises {b s : State} {h : HeadId} (holds : b.HoldFollows h)
    (differs : (s.head h).inService ≠ (b.head h).inService) :
    ((State.closeEvent b s).link (.head h)).attention.holdChanged = true := by
  refine State.closeEvent_raises b s h fun same => differs ?_
  have out := congrArg HoldSet.outOfService same
  rw [State.closeEvent_hold, holds.outOfService] at out
  exact Bool.not_inj_iff.mp out

theorem State.closeEvent_serviceOut_raises {s : State} {h : HeadId} (holds : s.HoldFollows h)
    (service : (s.head h).service = .inService) (window : (s.head h).window = []) :
    ((State.closeEvent s (s.serviceOut h)).link (.head h)).attention.holdChanged = true := by
  have body : (s.serviceOut h).head h = _ :=
    (State.reworked_self (f := Head.takenOut (s.park h)) rfl).trans (Head.takenOut_eq window (s.park h))
  refine State.closeEvent_service_raises holds ?_
  rw [body]
  simp [Head.inService, service]

theorem State.closeEvent_serviceIn_raises {s : State} {h : HeadId} (holds : s.HoldFollows h)
    (service : (s.head h).service = .outOfService) (window : (s.head h).window = []) :
    ((State.closeEvent s (s.serviceIn h)).link (.head h)).attention.holdChanged = true := by
  obtain ⟨w, body⟩ := s.serviceIn_head h h
  refine State.closeEvent_service_raises holds ?_
  rw [body, State.head_modHead_self, Head.takenIn_eq window]
  simp [Head.inService, service]

/-! ### The blade of a head that comes back -/

section TakenIn

variable {s : State} {h : HeadId} (service : (s.head h).service = .outOfService) (steady : s.Steady h)

include service steady

/-- The blade of a head out of service is asked for nothing (R103, R105, R109). -/
theorem State.Steady.blade_out : (s.head h).blade.demand = .off ∧ (s.head h).blade.stopTimer = none ∧
    (s.head h).blade.st.accepts = false := by
  have out : (s.head h).inService = false := by simp [Head.inService, service]
  obtain ⟨demand, timer⟩ := steady.demandNow
  have off : (s.head h).blade.demand = .off := demand.trans (Head.demandOf_closed (.inr out))
  refine ⟨off, Option.not_isSome_iff_eq_none.mp fun runs => ?_, steady.offRests off⟩
  have stands := timer runs
  rw [Head.standsBy, out, Bool.and_false, Bool.false_and] at stands
  cases stands

/-- Without an open job it is asked for nothing still (R103). -/
theorem Head.takenIn_blade_shut (shut : s.job.state.isOpen = false) (p : Point) :
    (((s.head h).takenIn p).reworkBlade ((s.head h).standsBy s.job.state.isOpen) s.job.state.isOpen).blade = (s.head h).blade := by
  obtain ⟨off, timer, rests⟩ := steady.blade_out service
  rw [Head.reworkBlade_closed (hd := (s.head h).takenIn p) _ (.inl shut) (fun _ => rests)]
  show ({ (if (s.head h).blade.st.accepts = true then (s.head h).blade.stop false else (s.head h).blade) with
    demand := .off, stopTimer := none } : Channel) = _
  rw [rests, if_neg Bool.false_ne_true, ← off, ← timer]

/-- In an open job it is asked for IDLE, and climbs if it stood stopped (R103, R105, R107). -/
theorem Head.takenIn_blade_opened (window : (s.head h).window = []) (idle : (s.head h).blade.idleTimer = none)
    (opened : s.job.state.isOpen = true) (p : Point) :
    let c := (((s.head h).takenIn p).reworkBlade ((s.head h).standsBy s.job.state.isOpen) s.job.state.isOpen).blade
    c.demand = .idle ∧ c.stopTimer = some ((s.head h).bladeParams.stopDelay * 1000000) ∧
      ((s.head h).blade.st = .stopped → c.st = .spinup ∧ c.step = 1 ∧ c.target = .idle) ∧
      ((s.head h).blade.st = .retryWait ∨ (s.head h).blade.st = .faulted → c.st = (s.head h).blade.st) := by
  obtain ⟨off, timer, rests⟩ := steady.blade_out service
  have out : (s.head h).standsBy true = false := by simp [Head.standsBy, Head.inService, service]
  have quiet : ((s.head h).takenIn p).cutCondition = false := by
    rw [Head.takenIn_eq window]
    simp [Head.cutCondition, Head.holdsCut, window, idle]
  dsimp only
  rw [opened, out, Head.reworkBlade_opens (hd := (s.head h).takenIn p) rfl quiet off rests]
  refine ⟨rfl, rfl, fun stopped => ?_, fun waits => ?_⟩
  · have stopped : ((s.head h).takenIn p).blade.st = .stopped := stopped
    rw [if_pos stopped]
    exact ⟨rfl, rfl, rfl⟩
  · have moving : ¬ ((s.head h).takenIn p).blade.st = .stopped := by
      show ¬ (s.head h).blade.st = .stopped
      obtain e | e := waits <;> (rw [e]; decide)
    rw [if_neg moving]
    rfl

end TakenIn

/-- Settles O52: SERVICE-out and SERVICE-in, refused or already so, or taken. -/
theorem serviceOutAndIn : Obligations.ServiceOutAndIn := by
  intro s h free out in' parked same refused
  have unclear (apart : ¬ s.Clear h parked) : s.clearFor h (s.parkClaim h) = false :=
    Bool.eq_false_iff.mpr fun clear => apart ((s.clear_parkClaim h).mp clear)
  refine ⟨fun code bad => ⟨?_, ?_⟩, fun head direction bad empty looks => afterFrame_service_bad free empty looks bad,
    fun service => ⟨?_, fun apart => ?_⟩, fun service => ⟨?_, fun busy => ?_, fun queue window apart => ?_⟩,
    fun service queue window clear steady => ?_, fun service window idle clear steady => ?_⟩
  · exact exec_service_same (d := .outOfService) free (State.serviceRequest_bad _ (.inl bad))
  · exact exec_service_same (d := .inService) free (State.serviceRequest_bad _ (.inl bad))
  · refine exec_service_same (d := .outOfService) free ?_
    rw [State.serviceRequest_head, State.serviceHead_same (s := s.toLead .cell) service]
    rfl
  · refine exec_service_same (d := .inService) free ?_
    rw [State.serviceRequest_head]
    exact State.serviceHead_in_refused (s := s.toLead .cell) service (if_pos (unclear apart))
  · refine exec_service_same (d := .inService) free ?_
    rw [State.serviceRequest_head, State.serviceHead_same (s := s.toLead .cell) service]
    rfl
  · refine exec_service_same (d := .outOfService) free ?_
    rw [State.serviceRequest_head]
    refine State.serviceHead_out_refused (s := s.toLead .cell) service (if_pos (Bool.eq_false_iff.mpr fun workless => ?_))
    obtain ⟨queue, window⟩ := (Head.workless_iff _).mp workless
    exact busy.elim (fun work => work queue) fun work => work window
  · refine exec_service_same (d := .outOfService) free ?_
    rw [State.serviceRequest_head]
    refine State.serviceHead_out_refused (s := s.toLead .cell) service ?_
    have workless : ((s.toLead .cell).head h).workless = true := (Head.workless_iff _).mpr ⟨queue, window⟩
    rw [State.serviceOutRefusal, workless]
    exact if_pos (unclear apart)
  · obtain ⟨t, next, took⟩ := exec_serviceOut_taken free clear steady service queue window
    have rest := took.rest
    rw [State.serviceOut_eq, State.closeEvent_reworked_rest] at rest
    have head := (took.head h).trans (State.closeEvent_serviceOut (s := s.toLead .cell) (steady h) window)
    have other : SameHead s t h.other := by
      rw [SameHead, took.head]
      exact State.closeEvent_reworked_other (s := s.toLead .cell) (steady h.other)
    refine ⟨t, next, took.answers, SameSettings.of_head (h := h) (by rw [rest]; exact ⟨rfl, rfl, rfl, rfl, rfl, rfl, rfl, rfl, rfl⟩)
      (by rw [head]; exact ⟨rfl, rfl, rfl⟩) other, by rw [rest]; rfl, by rw [rest]; exact ⟨rfl, rfl⟩, by rw [rest]; rfl, other, fun orphans _ => ?_,
      took.raisesOnly State.closeEvent_reworked_raises, ?_, ?_, ?_, ?_, ?_, ?_⟩
    · rw [took.rest]
      exact (State.reworked_vents (s := s.toLead .cell) (NoOrphans.modHead (s := s.toLead .cell) orphans
        fun k => (Head.takenOut_cutsOver window _ k).mp)).closed _
    · rw [took.attention]
      exact State.closeEvent_serviceOut_raises (s := s.toLead .cell) (steady h).1 service window
    · rw [head, ← took.head h]
      rfl
    · rw [head]
    · rw [head]
      dsimp only
      split <;> rfl
    · rw [head]
    · rw [head]
      by_cases runs : (s.head h).blade.st.accepts = true
      · simp only [State.head_toLead, runs, if_true]
        exact ⟨rfl, rfl⟩
      · simp [runs]
  · obtain ⟨t, next, took⟩ := exec_serviceIn_taken free clear steady service window
    have rest := took.rest
    rw [State.closeEvent_serviceIn_rest] at rest
    have head := State.closeEvent_serviceIn (s := s.toLead .cell) (h := h) rfl (steady h) window
    have other : SameHead s t h.other := by
      rw [SameHead, took.head]
      exact State.closeEvent_serviceIn_other (s := s.toLead .cell) (steady h.other)
    rw [← took.head h] at head
    refine ⟨t, next, took.answers, SameSettings.of_head (h := h) (by rw [rest]; exact ⟨rfl, rfl, rfl, rfl, rfl, rfl, rfl, rfl, rfl⟩)
      (by rw [head]; exact ⟨rfl, rfl, rfl⟩) other, by rw [rest]; rfl, by rw [rest]; exact ⟨rfl, rfl⟩, by rw [rest]; rfl, other, fun orphans _ => ?_,
      took.raisesOnly (((s.toLead .cell).serviceIn_hears h).taken (u := fun _ => AttSet.ofHoldChanged.union AttSet.ofWaitCleared)
        wakes_below_closes (closes_below _ _) |>.raisesOnly fun _ => AttSet.below_refl _), ?_, ?_, fun shut => ?_, fun opened => ?_⟩
    · rw [took.rest]
      exact State.closeEvent_serviceIn_vents (s := s.toLead .cell) window orphans
    · rw [took.attention]
      exact State.closeEvent_serviceIn_raises (s := s.toLead .cell) (steady h).1 service window
    · rw [head]
      rfl
    · rw [head]
      exact Head.takenIn_blade_shut service (steady h) shut _
    · rw [head]
      exact Head.takenIn_blade_opened service (steady h) window idle opened _

end Sys2Proof.Machine

/-! PROOFS. The requests that take work from a head: FLUSH, RELEASE and DONE (R39, R77, R79, R80). -/

namespace Sys2Proof.Machine

/-! ### A drain that may follow -/

theorem State.drainIfDone_stays {s : State} (works : s.job.state ≠ .closing ∨ ∃ h, (s.head h).queue ≠ [] ∨ (s.head h).window ≠ []) :
    s.drainIfDone = s := by
  refine if_neg fun ⟨closing, idle⟩ => ?_
  obtain other | ⟨h, work⟩ := works
  · exact other closing
  · obtain ⟨queue, window⟩ := (s.workless_iff.mp idle) h
    exact work.elim (fun some => some queue) fun some => some window

theorem State.drainIfDone_of_idle {s : State} (closing : s.job.state = .closing)
    (idle : ∀ h, (s.head h).queue = [] ∧ (s.head h).window = []) : s.drainIfDone = s.drain :=
  if_pos ⟨closing, s.workless_iff.mpr idle⟩

theorem State.drainIfDone_head_or (s : State) (h : HeadId) :
    s.drainIfDone.head h = s.head h ∨ s.drainIfDone.head h = (s.head h).drained := by
  unfold State.drainIfDone
  split
  · exact .inr (State.drain_head_eq s h)
  · exact .inl rfl

theorem State.drain_severedOver (s : State) (k : Nat) : s.drain.severedOver k = s.severedOver k := by
  have each (p : Piece) : (decide (p.scrap.st = .severed) && (spanZones p.scrap.lo p.scrap.hi).has k) =
      (decide (p.st = .severed) && (spanZones p.lo p.hi).has k) := by
    cases st : p.st <;> simp [Piece.scrap, Piece.isOpen, st]
  obtain ⟨zones, e⟩ := s.drain_eq
  rw [State.severedOver, e, State.severedOver, List.any_map]
  exact anyOf_congr fun p _ => each p

/-- A drain leaves no zone needed that was not (R12, R86). -/
theorem State.drain_needed {s : State} {k : Nat} (need : s.drain.needed k = true) : s.needed k = true := by
  have cuts (h : HeadId) : (s.drain.head h).cutsOver k = (s.head h).cutsOver k := by
    rw [State.drain_head_eq]
    rfl
  have asks (h : HeadId) : rangeHas (s.drain.head h).pendingReq k = false := by
    rw [State.drain_head_eq]
    rfl
  have a := cuts .a
  have b := cuts .b
  have askA := asks .a
  have askB := asks .b
  simp only [State.head, Pair.get_a, Pair.get_b] at a b askA askB
  rw [State.needed, a, b, askA, askB, State.drain_severedOver] at need
  simp only [Bool.or_false] at need
  rw [State.needed]
  simp only [Bool.or_eq_true] at need ⊢
  obtain (cut | cut) | severed := need
  · exact .inl (.inl (.inl (.inl cut)))
  · exact .inl (.inl (.inl (.inr cut)))
  · exact .inr severed

/-- Where zones have been vented a drain vents those that it leaves unneeded (R12, R86). -/
theorem VentsUnneeded.drained {s u : State} (vents : VentsUnneeded s u) (empty : ∀ h, (u.head h).window = []) :
    VentsUnneeded s u.drain := by
  intro k lt
  rw [State.drain_zone empty lt, vents k lt]
  by_cases on : (s.zone k).st.on = true
  · cases after : u.drain.needed k with
    | true => simp [State.drain_needed after, on]
    | false =>
      cases before : u.needed k with
      | true => simp [on, Zone.vent]
      | false => simp [on, Zone.vent]
  · simp [on]

theorem VentsUnneeded.drainIfDone {s u : State} (vents : VentsUnneeded s u) : VentsUnneeded s u.drainIfDone := by
  unfold State.drainIfDone
  split
  · next done => exact vents.drained fun h => (u.workless_iff.mp done.2 h).2
  · exact vents

theorem SameSettings.drainIfDone {s u : State} (same : SameSettings s u) : SameSettings s u.drainIfDone := by
  obtain ⟨pending, free, hold, cause, rate, prs, bed, zones, stack, label, classes, heads⟩ := same
  have heads' (h : HeadId) : (u.drainIfDone.head h).cut = (u.head h).cut ∧
      (u.drainIfDone.head h).bladeParams = (u.head h).bladeParams ∧ (u.drainIfDone.head h).guard = (u.head h).guard := by
    obtain e | e := u.drainIfDone_head_or h <;> (rw [e]; exact ⟨rfl, rfl, rfl⟩)
  unfold State.drainIfDone at heads' ⊢
  split at heads'
  · next done =>
    rw [if_pos done]
    obtain ⟨zs, e⟩ := u.drain_eq
    rw [e] at heads' ⊢
    refine ⟨pending, free, hold, cause, rate, prs, bed, zones, stack, label, classes, fun h => ?_⟩
    obtain ⟨cut, blade, guard⟩ := heads' h
    obtain ⟨cut', blade', guard'⟩ := heads h
    exact ⟨cut.trans cut', blade.trans blade', guard.trans guard'⟩
  · next stays =>
    rw [if_neg stays]
    exact ⟨pending, free, hold, cause, rate, prs, bed, zones, stack, label, classes, heads⟩

/-! ### The re-worked body -/

section Reworked

variable (s : State) (h : HeadId) (f : Head → Head)

theorem State.reworked_settings (own : (f (s.head h)).cut = (s.head h).cut ∧ (f (s.head h)).bladeParams = (s.head h).bladeParams ∧
    (f (s.head h)).guard = (s.head h).guard) : SameSettings s (s.reworked h f) := by
  have heads (i : HeadId) : ((s.reworked h f).head i).cut = (s.head i).cut ∧
      ((s.reworked h f).head i).bladeParams = (s.head i).bladeParams ∧ ((s.reworked h f).head i).guard = (s.head i).guard := by
    obtain ⟨w, e, -⟩ := s.reworked_told h f i
    rw [e]
    obtain rfl | rfl := HeadId.eq_or_other h i
    · rw [State.head_modHead_self]
      exact own
    · rw [State.head_modHead_other]
      exact ⟨rfl, rfl, rfl⟩
  have rest := s.reworked_rest h f
  refine ⟨?_, ?_, ?_, ?_, ?_, ?_, ?_, ?_, ?_, ?_, ?_, heads⟩ <;> rw [rest]

variable {s} {h} {f}

/-- Of the zones that the heads still look at the same ones are HELD (R86, R95). -/
theorem State.reworked_held {i : HeadId} {k : Nat}
    (looks : ((s.reworked h f).head i).cutsOver k = true ∨ rangeHas ((s.reworked h f).head i).pendingReq k = true) :
    ((s.reworked h f).zone k).st = .held ↔ (s.zone k).st = .held := by
  have told := State.reevaluate_told ((s.modHead h f).dropMark h)
  have looks : (((s.modHead h f).dropMark h).head i).cutsOver k = true ∨
      rangeHas (((s.modHead h f).dropMark h).head i).pendingReq k = true := by
    rwa [State.reworked, Head.cutsOver_of_window (told.window i), (told.alike i).request] at looks
  have zone : ((s.modHead h f).dropMark h).zone k = s.zone k := by
    rw [State.zone, State.dropMark_zones]
    rfl
  rw [← zone]
  exact State.reevaluate_held (State.needed_of_head looks)

end Reworked

/-! ### A closing without a change of demand -/

/-- What a head's set depends on of the zones is which of those under its cuts are HELD (R96). -/
theorem State.zoneHolds_of_held {s t : State} {h : HeadId} (window : (t.head h).window = (s.head h).window)
    (held : ∀ k < Config.zoneCount, (s.head h).cutsOver k = true → ((t.zone k).st = .held ↔ (s.zone k).st = .held)) :
    t.zoneHolds h = s.zoneHolds h := by
  have cuts : (t.head h).cutsOver = (s.head h).cutsOver := funext (Head.cutsOver_of_window window)
  unfold State.zoneHolds
  rw [cuts]
  refine anyOf_congr fun k member => ?_
  cases e : (s.head h).cutsOver k with
  | false => rfl
  | true => rw [Bool.true_and, Bool.true_and, decide_eq_decide, not_iff_not, held k (List.mem_range.mp member) e]

/-- Closing an event leaves the blade of a head whose demand is as it would be re-worked, and brings its set, its line and its
lapse timer up to date (R88, R103, R134, R136). -/
theorem State.closeEvent_undemanding {b s : State} {h : HeadId} (demand : s.DemandNow h)
    (stood : (b.head h).standsBy b.job.state.isOpen = (s.head h).standsBy s.job.state.isOpen) :
    (State.closeEvent b s).head h = { s.head h with
      hold := s.holdNow h, overdue := (s.head h).overdue.follow (s.holdNow h).held, lapse := s.lapseNow h
      watch := ((State.closeEvent b s).head h).watch } := by
  have blade := Head.reworkBlade_eq stood demand.1 demand.2
  have hold : ((State.closeEvent b s).head h).hold = s.holdNow h := by
    rw [State.closeEvent_hold, blade]
    rfl
  conv_lhs => rw [State.closeEvent_head_eq, blade, hold]

theorem State.lapseNow_none {s : State} {h : HeadId} (absent : (s.head h).pendingReq = none) : s.lapseNow h = none := by
  rw [State.lapseNow, absent]

/-! ### Where the drain follows -/

section Follows

variable {s : State} {h : HeadId} {f : Head → Head} (unwatched : (f (s.head h)).watch = Watch.empty)

include unwatched

/-- Where work is left, or the job is not CLOSING, no drain follows (R12). -/
theorem State.reworked_stays (works : s.job.state ≠ .closing ∨ ((f (s.head h)).queue ≠ [] ∨ (f (s.head h)).window ≠ []) ∨
    (s.head h.other).queue ≠ [] ∨ (s.head h.other).window ≠ []) : (s.reworked h f).drainIfDone = s.reworked h f := by
  obtain ⟨w, other, -⟩ := State.reworked_other_told (s := s) (h := h) (f := f)
  have self := State.reworked_self unwatched
  refine State.drainIfDone_stays (works.imp (fun open' => ?_) fun work => ?_)
  · rwa [State.reworked_job]
  · obtain work | work := work
    · exact ⟨h, by rwa [self]⟩
    · exact ⟨h.other, by rwa [other]⟩

/-- Where nothing is left of a closing job it drains (R12). -/
theorem State.reworked_drains (closing : s.job.state = .closing)
    (own : (f (s.head h)).queue = [] ∧ (f (s.head h)).window = [])
    (others : (s.head h.other).queue = [] ∧ (s.head h.other).window = []) (rests : (f (s.head h)).blade.OffRests)
    (otherRests : (s.head h.other).blade.OffRests) : Drained (State.closeEvent s (s.reworked h f).drainIfDone) := by
  have self := State.reworked_self unwatched
  obtain ⟨w, other, -⟩ := State.reworked_other_told (s := s) (h := h) (f := f)
  have idle (i : HeadId) : ((s.reworked h f).head i).queue = [] ∧ ((s.reworked h f).head i).window = [] := by
    obtain rfl | rfl := HeadId.eq_or_other h i
    · rwa [self]
    · rwa [other]
  rw [State.drainIfDone_of_idle (by rw [State.reworked_job, closing]) idle]
  refine State.closeEvent_drained s fun i => ?_
  obtain rfl | rfl := HeadId.eq_or_other h i
  · rwa [self]
  · rwa [other]

end Follows

/-! ### FLUSH -/

theorem State.flush_reworked (s : State) (h : HeadId) : s.flush h = (s.reworked h Head.flush).drainIfDone := rfl

section Flush

variable {s : State} {h : HeadId} {f e : Entry} {q : List Entry} (queue : (s.head h).queue = f :: q)

include queue

theorem Head.flush_of_queue (last : (f :: q).getLast? = some e) : (s.head h).flush = { s.head h with
    runs := ((s.head h).addRun ⟨f.seg.number, e.seg.number, .flushed⟩).runs
    floor := ((s.head h).addRun ⟨f.seg.number, e.seg.number, .flushed⟩).floor
    queue := [], ref := (s.head h).flushReference, watch := Watch.empty, pendingReq := none } := by
  simp only [Head.flush, Head.queueEnds, queue, last, List.head?_cons]
  rfl

theorem State.flush_reworked_self (last : (f :: q).getLast? = some e) : (s.reworked h Head.flush).head h = (s.head h).flush :=
  State.reworked_self (by rw [Head.flush_of_queue queue last])

/-- What a FLUSH leaves of its head, whether or not the job drains (R39, R88). -/
theorem State.closeEvent_flush_head (last : (f :: q).getLast? = some e) :
    let t := State.closeEvent s (s.flush h)
    (t.head h).queue = [] ∧ (t.head h).window = (s.head h).window ∧ (t.head h).nextSeq = (s.head h).nextSeq ∧
      (t.head h).service = (s.head h).service ∧ (t.head h).standing = (s.head h).standing ∧
      (t.head h).claim = (s.head h).claim ∧ (t.head h).watch = Watch.empty ∧ (t.head h).pendingReq = none ∧
      (t.head h).lapse = none ∧ (⟨f.seg.number, e.seg.number, .flushed⟩ : Run) ∈ (t.head h).runs ∧
      (t.head h).ref = (s.head h).flushReference := by
  have member := Head.mem_addRun_self (s.head h) ⟨f.seg.number, e.seg.number, .flushed⟩
  have self := State.flush_reworked_self queue last
  rw [Head.flush_of_queue queue last] at self
  have head : ((s.flush h).head h) = (s.reworked h Head.flush).head h ∨ (s.flush h).head h = ((s.reworked h Head.flush).head h).drained :=
    State.drainIfDone_head_or _ h
  rw [self] at head
  dsimp only
  simp only [State.closeEvent_head_queue, State.closeEvent_head_window, State.closeEvent_head_nextSeq,
    State.closeEvent_head_service, State.closeEvent_head_standing, State.closeEvent_head_claim, State.closeEvent_head_pendingReq,
    State.closeEvent_head_runs, State.closeEvent_head_ref, State.closeEvent_lapse]
  obtain e | e := head
  all_goals
    have watch := congrArg Head.watch e
    have request := congrArg Head.pendingReq e
    rw [State.closeEvent_watch_empty watch, State.lapseNow_none request, e]
    exact ⟨rfl, rfl, rfl, rfl, rfl, rfl, rfl, rfl, rfl, member, rfl⟩

/-- What a FLUSH leaves where the job does not drain (R39, R88, R91). -/
theorem State.closeEvent_flush_stays (last : (f :: q).getLast? = some e)
    (works : s.job.state ≠ .closing ∨ (s.head h).window ≠ [] ∨ (s.head h.other).queue ≠ [] ∨ (s.head h.other).window ≠ []) :
    s.flush h = s.reworked h Head.flush := by
  have flushed := Head.flush_of_queue queue last
  exact State.reworked_stays (by rw [flushed]) (works.imp_right (Or.imp_left fun window => .inr (by rwa [flushed])))

/-- The head of a FLUSH keeps its blade, its set and its line (R39). -/
theorem State.closeEvent_flush_keeps (last : (f :: q).getLast? = some e) (steady : s.Steady h) :
    let t := State.closeEvent s (s.reworked h Head.flush)
    (t.head h).blade = (s.head h).blade ∧ (t.head h).hold = (s.head h).hold ∧ (t.head h).overdue = (s.head h).overdue := by
  have self := State.flush_reworked_self queue last
  rw [Head.flush_of_queue queue last] at self
  have job := s.reworked_job h Head.flush
  have demand : (s.reworked h Head.flush).DemandNow h := steady.demandNow.of_same (by rw [job]) (by rw [self]) (by rw [self])
    (by rw [self]) (by rw [self]) (by rw [self]) (by rw [self])
  have head := State.closeEvent_undemanding (b := s) demand (by rw [self, job]; rfl)
  obtain ⟨holds, overdue, -⟩ := steady
  have zones : (s.reworked h Head.flush).zoneHolds h = s.zoneHolds h := State.zoneHolds_of_held (by rw [self]) fun k _ cuts => by
    exact State.reworked_held (.inl (by rw [self]; exact cuts))
  have hold : (s.reworked h Head.flush).holdNow h = (s.head h).hold := by
    rw [State.holdNow, zones, job, self]
    exact holds.symm
  dsimp only
  rw [head, hold, self]
  exact ⟨rfl, rfl, overdue.line⟩

end Flush

theorem permitted_flush (h : HeadId) : permitted (.head h) .flush = true := by cases h <;> rfl

theorem exec_flush_same {s : State} {h : HeadId} {reply : Reply} (free : s.listens (.head h) = true)
    (run : (s.toLead (.head h)).flushRequest h = (s.toLead (.head h), reply)) :
    exec (.flush (.head h)) s = .next (s.answering (.head h) 0x11 reply) :=
  exec_run (c := .flush (.head h)) (r := .flush) rfl free (permitted_flush h) run

theorem State.flushRequest_work {s : State} {h : HeadId} {f e : Entry} {q : List Entry} (service : (s.head h).service = .inService)
    (queue : (s.head h).queue = f :: q) (last : (f :: q).getLast? = some e) :
    s.flushRequest h = (State.closeEvent s (s.flush h), .accepted (.flush (q.length + 1) (some (f.seg.number, e.seg.number))
      ((State.closeEvent s (s.flush h)).head h).ref)) := by
  have ends : (s.head h).queueEnds = some (f.seg.number, e.seg.number) := by
    simp only [Head.queueEnds, queue, last, List.head?_cons]
  rw [State.flushRequest]
  dsimp only
  rw [if_neg (by simp [Head.inService, service]), if_neg (by simp [queue]), ends, queue]
  rfl

theorem State.flush_vents {s : State} {h : HeadId} {f e : Entry} {q : List Entry} (queue : (s.head h).queue = f :: q)
    (last : (f :: q).getLast? = some e) (orphans : NoOrphans s) : VentsUnneeded s (State.closeEvent s (s.flush h)) := by
  have still : NoOrphans (s.modHead h Head.flush) := orphans.modHead fun k cuts => by
    rw [Head.flush_of_queue queue last] at cuts
    exact cuts
  exact (State.reworked_vents still).drainIfDone.closed s

theorem State.flush_settings {s : State} {h : HeadId} {f e : Entry} {q : List Entry} (queue : (s.head h).queue = f :: q)
    (last : (f :: q).getLast? = some e) : SameSettings s (State.closeEvent s (s.flush h)) :=
  (SameSettings.drainIfDone (s.reworked_settings h Head.flush (by
    rw [Head.flush_of_queue queue last]
    exact ⟨rfl, rfl, rfl⟩))).closeEvent s

/-- A FLUSH that leaves nothing of a closing job drains it (R12). -/
theorem State.flush_drains {s : State} {h : HeadId} {f e : Entry} {q : List Entry} (queue : (s.head h).queue = f :: q)
    (last : (f :: q).getLast? = some e) (closing : s.job.state = .closing) (window : (s.head h).window = [])
    (otherQueue : (s.head h.other).queue = []) (otherWindow : (s.head h.other).window = []) (steady : ∀ i, s.Steady i) :
    Drained (State.closeEvent s (s.flush h)) := by
  have flushed := Head.flush_of_queue queue last
  exact State.reworked_drains (by rw [flushed]) closing (by rw [flushed]; exact ⟨rfl, window⟩) ⟨otherQueue, otherWindow⟩
    (by rw [flushed]; exact (steady h).offRests) (steady h.other).offRests

/-- Settles O29: FLUSH is refused, finds nothing to do, or retires the queue. -/
theorem flushRetiresTheQueue : Obligations.FlushRetiresTheQueue := by
  refine fun s h free => ⟨fun out => exec_flush_same free ?_, fun service empty => exec_flush_same free ?_,
    fun f q e service queue last => ?_⟩
  · exact if_pos (by simp [Head.inService, out])
  · exact (if_neg (by simp [Head.inService, service])).trans (if_pos (by simp [empty]))
  · have hears : State.Hears wakes (s.toLead (.head h)) ((s.toLead (.head h)).flush h) :=
      State.headDone_hears ((s.toLead (.head h)).modHead h Head.flush) h
    have closed := hears.taken (u := fun _ => AttSet.ofHoldChanged.union AttSet.ofWaitCleared) wakes_below_closes (closes_below _ _)
    obtain ⟨t, next, took⟩ := exec_taken (c := .flush (.head h)) (r := .flush) rfl free (permitted_flush h)
      (State.flushRequest_work (s := s.toLead (.head h)) service queue last) closed
    have head := State.closeEvent_flush_head (s := s.toLead (.head h)) queue last
    dsimp only at head
    rw [← took.head h] at head
    obtain ⟨noQueue, window, nextSeq, serves, standing, claim, watch, request, lapse, run, ref⟩ := head
    refine ⟨t, next, ?_, ?_, ?_, fun orphans _ => ?_, noQueue, window, nextSeq, serves, ⟨standing, claim⟩, watch, request, lapse, run,
      fun empty => ?_, fun w newest => ?_, fun closing empty otherQueue otherWindow steady => ?_, fun works => ?_⟩
    · have answers := took.answers
      rwa [← took.head h] at answers
    · rw [took.rest]
      exact State.flush_settings (s := s.toLead (.head h)) queue last
    · exact took.raisesOnly (closed.raisesOnly fun _ => AttSet.below_refl _)
    · rw [took.rest]
      exact State.flush_vents (s := s.toLead (.head h)) queue last orphans
    · have empty : ((s.toLead (.head h)).head h).window = [] := empty
      rw [ref, Head.flushReference, empty]
      rfl
    · have newest : ((s.toLead (.head h)).head h).window.getLast? = some w := newest
      rw [ref, Head.flushReference, newest]
      rfl
    · rw [took.rest]
      exact State.flush_drains (s := s.toLead (.head h)) queue last closing empty otherQueue otherWindow fun i => steady i
    · have stays := State.closeEvent_flush_stays (s := s.toLead (.head h)) queue last works
      rw [stays] at took
      have rest := took.rest
      rw [State.closeEvent_reworked_rest] at rest
      refine ⟨by rw [rest]; rfl, by rw [rest]; exact ⟨rfl, rfl⟩, by rw [rest]; rfl, fun steady => ⟨?_, ?_⟩⟩
      · rw [SameHead, took.head]
        exact State.closeEvent_reworked_other (s := s.toLead (.head h)) (steady h.other)
      · rw [took.head]
        exact State.closeEvent_flush_keeps (s := s.toLead (.head h)) queue last (steady h)

end Sys2Proof.Machine

/-! PROOFS. RELEASE (R79, R80). -/

namespace Sys2Proof.Machine

/-- The head that a RELEASE leaves, whole (R80, R104). -/
theorem Head.released_parts (p : Point) (hd : Head) : hd.released p = { hd with
    queue := [], window := [], standing := p, claim := ⟨p.x, p.x⟩, ref := standingRef p
    runs := hd.withdraw.runs, floor := hd.withdraw.floor
    overdue := ⟨.stopped, 0, 0⟩, hold := { hd.hold with overdue := false }, watch := Watch.empty, pendingReq := none
    blade := { hd.blade with
      idleTimer := if hd.holdsCut = true then some (hd.bladeParams.idleDelay * 1000) else hd.blade.idleTimer } } := by
  obtain ⟨runs, floor, e⟩ := hd.withdraw_eq
  unfold Head.released
  dsimp only
  rw [e]
  cases hd.holdsCut <;> rfl

theorem Head.holdsCut_iff (hd : Head) : hd.holdsCut = true ↔ ∃ w ∈ hd.window, w.entry.seg.kind ≠ .air := by
  simp [Head.holdsCut, WinEntry.isCut]

/-! ### The tests -/

section Refusals

variable {hd : Head} {p : PointReq}

theorem Head.releaseRefusal_served (served : hd.service = .inService) (held : hd.hold.held = true) :
    hd.releaseRefusal (pointOf p) = if inBed (pointOf p) = false then some .badValue
      else if ¬ (hd.claim.lo ≤ p.x.toNat ∧ p.x.toNat ≤ hd.claim.hi) then some .positionOutsideClaim else none := by
  rw [Head.releaseRefusal, if_neg (by simp [Head.inService, served]), if_neg (by simp [held])]
  rfl

end Refusals

theorem exec_release_refused {s : State} {code : Byte} {p : PointReq} {r : Reason} (free : s.listens .cell = true)
    (run : (s.toLead .cell).releaseRequest code p = (s.toLead .cell, .refused r .none)) :
    exec (.release .cell code p) s = .next (s.answering .cell 0x38 (.refused r .none)) :=
  exec_run (c := .release .cell code p) (r := .release code p) rfl free rfl run

theorem State.releaseRequest_refused {s : State} {h : HeadId} {p : PointReq} {r : Reason}
    (refused : (s.head h).releaseRefusal (pointOf p) = some r) :
    s.releaseRequest (headCode h) p = (s, .refused r .none) := by
  rw [State.releaseRequest, headOf_headCode]
  dsimp only
  rw [refused]

theorem State.releaseRequest_taken {s : State} {h : HeadId} {p : PointReq} (fits : (s.head h).releaseRefusal (pointOf p) = none) :
    s.releaseRequest (headCode h) p = (State.closeEvent s (s.release h (pointOf p)),
      .accepted (.release (s.head h).numbers.length ((State.closeEvent s (s.release h (pointOf p))).head h).standing)) := by
  rw [State.releaseRequest, headOf_headCode]
  dsimp only
  rw [fits]

/-! ### What a RELEASE leaves -/

theorem State.release_reworked (s : State) (h : HeadId) (p : Point) : s.release h p = (s.reworked h (Head.released p)).drainIfDone :=
  rfl

section Release

variable (s : State) (h : HeadId) (p : Point)

theorem State.release_reworked_self : (s.reworked h (Head.released p)).head h = (s.head h).released p :=
  State.reworked_self (by rw [Head.released_parts])

/-- What a RELEASE leaves of its head, whether or not the job drains (R80, R88). -/
theorem State.closeEvent_release_head :
    let t := State.closeEvent s (s.release h p)
    (t.head h).queue = [] ∧ (t.head h).window = [] ∧ (t.head h).nextSeq = (s.head h).nextSeq ∧
      (t.head h).ref = ⟨p, none, .standing⟩ ∧ (t.head h).standing = p ∧ (t.head h).claim = ⟨p.x, p.x⟩ ∧
      (t.head h).service = (s.head h).service ∧ (t.head h).overdue = ⟨.stopped, 0, 0⟩ ∧ (t.head h).hold.overdue = false ∧
      (t.head h).hold.zone = false ∧ (t.head h).hold.cellHold = (s.head h).hold.cellHold ∧
      (t.head h).watch = Watch.empty ∧ (t.head h).pendingReq = none ∧ (t.head h).runs = (s.head h).withdraw.runs := by
  have head : ((s.release h p).head h) = (s.reworked h (Head.released p)).head h ∨
      (s.release h p).head h = ((s.reworked h (Head.released p)).head h).drained := State.drainIfDone_head_or _ h
  rw [State.release_reworked_self, Head.released_parts] at head
  dsimp only
  rw [State.closeEvent_hold]
  simp only [State.closeEvent_head_queue, State.closeEvent_head_window, State.closeEvent_head_nextSeq,
    State.closeEvent_head_service, State.closeEvent_head_standing, State.closeEvent_head_claim, State.closeEvent_head_pendingReq,
    State.closeEvent_head_runs, State.closeEvent_head_ref, State.closeEvent_overdue]
  obtain e | e := head
  all_goals
    have watch := congrArg Head.watch e
    have window := congrArg Head.window e
    have stopped := congrArg (fun hd : Head => hd.overdue.st) e
    rw [State.closeEvent_watch_empty watch, State.zoneHolds_empty window, Overdue.follow_stopped _ stopped, e]
    exact ⟨rfl, rfl, rfl, rfl, rfl, rfl, rfl, rfl, rfl, rfl, rfl, rfl, rfl, rfl⟩

theorem State.release_settings : SameSettings s (State.closeEvent s (s.release h p)) :=
  (SameSettings.drainIfDone (s.reworked_settings h (Head.released p) (by
    rw [Head.released_parts]
    exact ⟨rfl, rfl, rfl⟩))).closeEvent s

theorem State.drainIfDone_retained : s.drainIfDone.retained = s.retained := by
  obtain ⟨zones, e⟩ := s.drain_eq
  unfold State.drainIfDone
  split
  · rw [e]
  · rfl

theorem State.release_retained : (State.closeEvent s (s.release h p)).retained = s.retained := by
  rw [State.closeEvent_retained, State.release_reworked, State.drainIfDone_retained, State.reworked_rest]

variable {s} {h}

theorem State.release_vents (orphans : NoOrphans s) : VentsUnneeded s (State.closeEvent s (s.release h p)) := by
  have still : NoOrphans (s.modHead h (Head.released p)) := orphans.modHead fun k cuts => by
    rw [Head.released_parts] at cuts
    cases cuts
  exact (State.reworked_vents still).drainIfDone.closed s

theorem State.release_stays (works : s.job.state ≠ .closing ∨ (s.head h.other).queue ≠ [] ∨ (s.head h.other).window ≠ []) :
    s.release h p = s.reworked h (Head.released p) :=
  State.reworked_stays (by rw [Head.released_parts]) (works.imp_right .inr)

theorem State.release_drains (closing : s.job.state = .closing) (queue : (s.head h.other).queue = [])
    (window : (s.head h.other).window = []) (steady : ∀ i, s.Steady i) :
    Drained (State.closeEvent s (s.release h p)) :=
  State.reworked_drains (by rw [Head.released_parts]) closing (by rw [Head.released_parts]; exact ⟨rfl, rfl⟩) ⟨queue, window⟩
    (by rw [Head.released_parts]; exact (steady h).offRests) (steady h.other).offRests

theorem State.closeEvent_idleTimer (b u : State) (i : HeadId) :
    ((State.closeEvent b u).head i).blade.idleTimer = (u.head i).blade.idleTimer := by
  rw [State.closeEvent_blade]
  simp [Head.reworkBlade, Channel.setDemand_idleTimer]

theorem State.release_idleTimer : ((State.closeEvent s (s.reworked h (Head.released p))).head h).blade.idleTimer =
    if ∃ w ∈ (s.head h).window, w.entry.seg.kind ≠ .air then some ((s.head h).bladeParams.idleDelay * 1000)
    else (s.head h).blade.idleTimer := by
  rw [State.closeEvent_idleTimer, State.release_reworked_self, Head.released_parts]
  exact if_congr (Head.holdsCut_iff _) rfl rfl

end Release

/-- Settles O38: RELEASE is refused by the first test that fails, or frees the head. -/
theorem releaseFreesTheHead : Obligations.ReleaseFreesTheHead := by
  refine fun s h p free => ⟨fun code bad => exec_release_refused free ?_, fun out => exec_release_refused free ?_,
    fun served released => exec_release_refused free ?_, fun served held off => exec_release_refused free ?_,
    fun served held on outside => exec_release_refused free ?_, fun served held on inside => ?_⟩
  · rw [State.releaseRequest, headOf_eq_none bad]
  · exact State.releaseRequest_refused (s := s.toLead .cell) (if_pos (by simp [Head.inService, out]))
  · exact State.releaseRequest_refused (s := s.toLead .cell)
      ((if_neg (by simp [Head.inService, served])).trans (if_pos (Bool.eq_false_iff.mpr released)))
  · refine State.releaseRequest_refused (s := s.toLead .cell) ((Head.releaseRefusal_served served held).trans (if_pos ?_))
    exact Bool.eq_false_iff.mpr fun bed => off (inBed_iff _ |>.mp bed)
  · refine State.releaseRequest_refused (s := s.toLead .cell) ((Head.releaseRefusal_served served held).trans ?_)
    exact (if_neg (by rw [(inBed_iff _).mpr on]; decide)).trans (if_pos outside)
  · have fits : ((s.toLead .cell).head h).releaseRefusal (pointOf p) = none :=
      (Head.releaseRefusal_served served held).trans
        ((if_neg (by rw [(inBed_iff _).mpr on]; decide)).trans (if_neg (not_not_intro inside)))
    have hears : State.Hears wakes (s.toLead .cell) ((s.toLead .cell).release h (pointOf p)) :=
      State.headDone_hears ((s.toLead .cell).modHead h (Head.released (pointOf p))) h
    have closed := hears.taken (u := fun _ => AttSet.ofHoldChanged.union AttSet.ofWaitCleared) wakes_below_closes (closes_below _ _)
    obtain ⟨t, next, took⟩ := exec_taken (c := .release .cell (headCode h) p) (r := .release (headCode h) p) rfl free rfl
      (State.releaseRequest_taken (s := s.toLead .cell) fits) closed
    have head := State.closeEvent_release_head (s.toLead .cell) h (pointOf p)
    dsimp only at head
    have answers := took.answers
    obtain ⟨queue, window, nextSeq, ref, standing, claim, service, overdue, overdueReason, zone, cellHold, watch, request, runs⟩ := head
    rw [standing] at answers
    rw [← took.head h] at queue window nextSeq ref standing claim service overdue overdueReason zone cellHold watch request runs
    refine ⟨t, next, answers, ?_, fun orphans _ => ?_, took.raisesOnly (closed.raisesOnly fun _ => AttSet.below_refl _),
      queue, window, nextSeq, ref, standing, claim, service.trans served, overdue, overdueReason, zone, cellHold, watch, request, ?_,
      fun room n member => ?_, fun closing otherQueue otherWindow steady => ?_, fun works => ?_⟩
    · rw [took.rest]
      exact State.release_settings (s.toLead .cell) h (pointOf p)
    · rw [took.rest]
      exact State.release_vents (s := s.toLead .cell) (pointOf p) orphans
    · rw [took.rest]
      exact State.release_retained (s.toLead .cell) h (pointOf p)
    · rw [Head.Withdrew, runs]
      exact Head.withdraw_withdrew room member
    · rw [took.rest]
      exact State.release_drains (s := s.toLead .cell) (pointOf p) closing otherQueue otherWindow fun i => steady i
    · rw [State.release_stays (s := s.toLead .cell) (pointOf p) works] at took
      have rest := took.rest
      rw [State.closeEvent_reworked_rest] at rest
      refine ⟨by rw [rest]; rfl, by rw [rest]; rfl, by rw [rest]; rfl, ?_, fun steady => ?_⟩
      · rw [took.head]
        exact State.release_idleTimer (s := s.toLead .cell) (pointOf p)
      · rw [SameHead, took.head]
        exact State.closeEvent_reworked_other (s := s.toLead .cell) (steady h.other)

end Sys2Proof.Machine

/-! PROOFS. DONE of the oldest window entry (R77, R82, R104, R147, R148). -/

namespace Sys2Proof.Machine

/-! ### Credits -/

theorem Piece.isOpen_iff (p : Piece) : p.isOpen = true ↔ p.st = .declared ∨ p.st = .part := by simp [Piece.isOpen]

theorem State.creditTag_hears_severed (h : HeadId) (n : Nat) (s : State) (tag : Nat) :
    State.Hears (fun _ => AttSet.ofPieceSevered) s (State.creditTag h n s tag) := by
  unfold State.creditTag
  dsimp only
  split
  · exact (State.Hears.of_links (t := { s with pieces := s.pieces.map fun p => if p.id = tag then p.credit h n else p }) rfl).trans
      (State.raise_hears _ .cell (AttSet.below_refl _))
  · exact .of_links rfl

theorem State.credit_hears_severed (s : State) (h : HeadId) (n : Nat) (tags : List Nat) :
    State.Hears (fun _ => AttSet.ofPieceSevered) s (s.credit h n tags) := foldl_hears (State.creditTag_hears_severed h n) tags s

theorem State.creditTag_rest (h : HeadId) (n : Nat) (s : State) (tag : Nat) : State.creditTag h n s tag = { s with
    pieces := s.pieces.map fun p => if p.id = tag then p.credit h n else p, links := (State.creditTag h n s tag).links } := by
  unfold State.creditTag
  dsimp only
  split <;> rfl

/-- Credits touch no more than the pieces, the links and the heads (R147). -/
theorem State.credit_rest (h : HeadId) (n : Nat) (tags : List Nat) (s : State) : s.credit h n tags =
    { s with heads := (s.credit h n tags).heads, pieces := (s.credit h n tags).pieces, links := (s.credit h n tags).links } := by
  induction tags generalizing s with
  | nil => rfl
  | cons tag tags ih =>
    have rest : s.credit h n (tag :: tags) = { State.creditTag h n s tag with
        heads := (s.credit h n (tag :: tags)).heads, pieces := (s.credit h n (tag :: tags)).pieces
        links := (s.credit h n (tag :: tags)).links } :=
      ih (State.creditTag h n s tag)
    rw [State.creditTag_rest] at rest
    exact rest

/-- Each open piece that one of the tags names gains one credit (R147). -/
theorem State.credit_pieces (h : HeadId) (n : Nat) {tags : List Nat} (once : tags.Nodup) (s : State) :
    (s.credit h n tags).pieces = s.pieces.map fun p => if p.id ∈ tags then p.credit h n else p := by
  induction tags generalizing s with
  | nil => simp [State.credit]
  | cons tag tags ih =>
    obtain ⟨absent, once⟩ := List.nodup_cons.mp once
    refine (ih once (State.creditTag h n s tag)).trans ?_
    rw [State.creditTag_pieces, List.map_map]
    refine List.map_congr_left fun p _ => ?_
    rw [Function.comp_apply]
    by_cases named : p.id = tag
    · rw [if_pos named, Piece.credit_id, if_neg (by rwa [named]), if_pos (by rw [named]; exact List.mem_cons_self ..)]
    · rw [if_neg named]
      exact if_congr (by simp [named]) rfl rfl

theorem State.credit_told (s : State) (h : HeadId) (n : Nat) (tags : List Nat) : s.Told (s.credit h n tags) := fun i =>
  ⟨_, s.credit_head h n tags i, .inl rfl⟩

/-- A piece that a credit completes raises PIECE-SEVERED (R148). -/
theorem State.credit_severs (h : HeadId) (n : Nat) {tags : List Nat} (once : tags.Nodup) (s : State)
    (completes : ∃ p ∈ s.pieces, p.id ∈ tags ∧ p.creditSevers = true) :
    ((s.credit h n tags).link .cell).attention.pieceSevered = true := by
  obtain ⟨p, member, named, severs⟩ := completes
  induction tags generalizing s with
  | nil => cases named
  | cons tag tags ih =>
    obtain ⟨absent, once⟩ := List.nodup_cons.mp once
    by_cases first : p.id = tag
    · have raised : ((State.creditTag h n s tag).link .cell).attention.pieceSevered = true := by
        have any : (s.pieces.any fun p => decide (p.id = tag) && p.creditSevers) = true :=
          List.any_eq_true.mpr ⟨p, member, by simp [first, severs]⟩
        rw [State.creditTag, if_pos any, State.link_raise_self]
        simp [AttSet.union, AttSet.ofPieceSevered]
      exact (State.credit_hears_severed (State.creditTag h n s tag) h n tags).stays .cell AttSet.pieceSevered (fun _ _ => rfl) raised
    · refine ih once (State.creditTag h n s tag) ?_ ((List.mem_cons.mp named).resolve_left first)
      rw [State.creditTag_pieces]
      exact List.mem_map.mpr ⟨p, member, if_neg first⟩

theorem Piece.credit_eq (h : HeadId) (n : Nat) (p : Piece) : p.credit h n = if p.st = .declared ∨ p.st = .part then
    { p with edges := p.edges + 1, contributors := p.contributors ++ [(h, n)]
             st := if p.edges + 1 = p.required then .severed else .part } else p :=
  if_congr p.isOpen_iff rfl rfl

/-! ### The body before the drain -/

theorem State.tell_rest (s : State) (h : HeadId) (p : Watch → Bool) :
    s.tell h p = { s with heads := (s.tell h p).heads, links := (s.tell h p).links } := by
  unfold State.tell
  split
  · cases h <;> rfl
  · rfl

/-- The state of an accepted DONE before need is re-evaluated (R77, R147). -/
def State.credited (s : State) (h : HeadId) (w : WinEntry) : State :=
  ((s.modHead h (Head.completed w)).tell h fun v => v.reasons.windowFull).credit h w.entry.seg.number w.entry.seg.tags

theorem State.complete_eq (s : State) (h : HeadId) (w : WinEntry) :
    s.complete h w = (s.credited h w).reevaluate.drainIfDone := rfl

section Credited

variable (s : State) (h : HeadId) (w : WinEntry)

theorem State.credited_rest : s.credited h w = { s with
    heads := (s.credited h w).heads, links := (s.credited h w).links, pieces := (s.credited h w).pieces } := by
  have told := State.tell_rest (s.modHead h (Head.completed w)) h fun v => v.reasons.windowFull
  have rest := State.credit_rest h w.entry.seg.number w.entry.seg.tags
    ((s.modHead h (Head.completed w)).tell h fun v => v.reasons.windowFull)
  rw [State.credited]
  generalize State.credit _ h w.entry.seg.number w.entry.seg.tags = t at rest ⊢
  rw [told] at rest
  exact rest

theorem State.credited_told : (s.modHead h (Head.completed w)).Told (s.credited h w) :=
  (State.tell_told _ h _).trans (State.credit_told _ h _ _)

theorem State.credited_reevaluated_told : (s.modHead h (Head.completed w)).Told (s.credited h w).reevaluate :=
  (s.credited_told h w).trans (State.reevaluate_told _)

/-- The causes that a DONE raises of itself (R75, R148). -/
theorem State.complete_hears : State.Hears (fun _ => AttSet.ofWaitCleared.union AttSet.ofPieceSevered) s (s.complete h w) := by
  have wakes_le (l : LinkId) : (wakes l).Below (AttSet.ofWaitCleared.union AttSet.ofPieceSevered) := by
    cases l <;> simp [AttSet.below_iff, wakes, AttSet.union, AttSet.ofWaitCleared, AttSet.ofPieceSevered, AttSet.empty]
  have severed_le (l : LinkId) : AttSet.ofPieceSevered.Below (AttSet.ofWaitCleared.union AttSet.ofPieceSevered) := by
    simp [AttSet.below_iff, AttSet.union, AttSet.ofWaitCleared, AttSet.ofPieceSevered, AttSet.empty]
  have told := (State.tell_hears (s.modHead h (Head.completed w)) h fun v => v.reasons.windowFull).mono wakes_le
  have credits := (State.credit_hears_severed ((s.modHead h (Head.completed w)).tell h fun v => v.reasons.windowFull) h
    w.entry.seg.number w.entry.seg.tags).mono severed_le
  exact (((State.Hears.of_links rfl).trans told).trans credits).trans
    (((State.reevaluate_hears _).trans (State.drainIfDone_hears _)).mono wakes_le)

end Credited

/-! ### The head after a DONE -/

section Completed

variable {hd : Head} {w : WinEntry} {ws : List WinEntry} (window : hd.window = w :: ws)

include window

/-- Whether the last cutting segment has left the window (R104). -/
theorem Head.completed_lastCut : (hd.holdsCut && !(ws.any WinEntry.isCut)) = true ↔
    w.entry.seg.kind ≠ .air ∧ ∀ v ∈ ws, v.entry.seg.kind = .air := by
  have rest : (!(ws.any WinEntry.isCut)) = true ↔ ∀ v ∈ ws, v.entry.seg.kind = .air := by simp [WinEntry.isCut]
  rw [Bool.and_eq_true, rest]
  refine and_congr_left fun airs => ?_
  have none : ws.any WinEntry.isCut = false := by simpa using rest.mpr airs
  rw [Head.holdsCut, window, List.any_cons, none, Bool.or_false]
  simp [WinEntry.isCut]

/-- The head after its oldest window entry is done, whole (R77, R82, R104). -/
theorem Head.completed_parts : hd.completed w = { hd with
    window := ws, standing := w.entry.seg.last, claim := hull w.entry.seg.last (ws.map fun v => v.entry.seg)
    overdue := (ws.head?.map fun v => Overdue.start v.result.allowance).getD ⟨.stopped, 0, 0⟩
    hold := { hd.hold with overdue := false }
    blade := { hd.blade with
      idleTimer := if w.entry.seg.kind ≠ .air ∧ (∀ v ∈ ws, v.entry.seg.kind = .air) then
          some (hd.bladeParams.idleDelay * 1000)
        else hd.blade.idleTimer } } := by
  have lastCut := Head.completed_lastCut window
  rw [← if_congr lastCut rfl rfl]
  unfold Head.completed
  dsimp only
  rw [window, List.tail_cons]
  by_cases last : (hd.holdsCut && !(ws.any WinEntry.isCut)) = true
  · rw [if_pos last]
    refine (if_pos last).trans ?_
    cases ws <;> rfl
  · rw [if_neg last]
    refine (if_neg last).trans ?_
    cases ws <;> rfl

/-- A DONE leaves the CUT condition as it was: the idle-delay timer takes the place of the last cutting segment (R103, R104). -/
theorem Head.completed_cutCondition : (hd.completed w).cutCondition = hd.cutCondition := by
  have lastCut := Head.completed_lastCut window
  rw [Head.completed_parts window, ← if_congr lastCut rfl rfl]
  rw [Head.cutCondition, Head.cutCondition]
  have after : hd.holdsCut = (w.isCut || ws.any WinEntry.isCut) := by rw [Head.holdsCut, window, List.any_cons]
  show (ws.any WinEntry.isCut || (if (hd.holdsCut && !(ws.any WinEntry.isCut)) = true then
    some (hd.bladeParams.idleDelay * 1000) else hd.blade.idleTimer).isSome) = _
  rw [after]
  cases w.isCut <;> cases ws.any WinEntry.isCut <;> simp

end Completed

/-! ### The request -/

section Done

variable {s : State} {h : HeadId} {w : WinEntry} {ws : List WinEntry} (window : (s.head h).window = w :: ws)

include window

omit window in
/-- The head before the drain that may follow, up to its watch. -/
theorem State.credited_head : ∃ v, (s.credited h w).reevaluate.head h = { (s.head h).completed w with watch := v } := by
  obtain ⟨v, e, -⟩ := s.credited_reevaluated_told h w h
  rw [State.head_modHead_self] at e
  exact ⟨v, e⟩

omit window in
theorem State.credited_other : ∃ v, (s.credited h w).reevaluate.head h.other = { s.head h.other with watch := v } ∧
    (v = (s.head h.other).watch ∨ v = Watch.empty) := by
  obtain ⟨v, e, from'⟩ := s.credited_reevaluated_told h w h.other
  rw [State.head_modHead_other] at e from'
  exact ⟨v, e, from'⟩

omit window in
theorem State.complete_head_or : ((s.complete h w).head h = (s.credited h w).reevaluate.head h) ∨
    (s.complete h w).head h = ((s.credited h w).reevaluate.head h).drained := State.drainIfDone_head_or _ h

/-- What a DONE leaves of its head, whether or not the job drains (R77, R82). -/
theorem State.closeEvent_complete_head :
    let t := State.closeEvent s (s.complete h w)
    (t.head h).window = ws ∧ (t.head h).queue = (s.head h).queue ∧ SameNumbering s t h ∧
      (t.head h).ref = (s.head h).ref ∧ (t.head h).service = (s.head h).service ∧
      (t.head h).standing = w.entry.seg.last ∧ (t.head h).ClaimIsHull ∧ (t.head h).hold.overdue = false ∧
      (t.head h).hold.cellHold = (s.head h).hold.cellHold ∧
      (t.head h).overdue = ((ws.head?.map fun v => Overdue.start v.result.allowance).getD ⟨.stopped, 0, 0⟩).follow
        (t.head h).hold.held := by
  obtain ⟨v, e⟩ := State.credited_head (s := s) (h := h) (w := w)
  rw [Head.completed_parts window] at e
  have head := State.complete_head_or (s := s) (h := h) (w := w)
  rw [e] at head
  dsimp only
  simp only [SameNumbering, Head.ClaimIsHull, Head.windowSegs, State.closeEvent_head_queue, State.closeEvent_head_window,
    State.closeEvent_head_nextSeq, State.closeEvent_head_floor, State.closeEvent_head_service, State.closeEvent_head_standing,
    State.closeEvent_head_claim, State.closeEvent_head_runs, State.closeEvent_head_ref, State.closeEvent_overdue,
    State.closeEvent_cellHold, State.closeEvent_overdueReason]
  obtain e | e := head
  all_goals
    rw [e]
    exact ⟨rfl, rfl, ⟨rfl, rfl, rfl⟩, rfl, rfl, rfl, rfl, rfl, rfl, rfl⟩

theorem Head.completed_cutsOver {k : Nat} (cuts : ((s.head h).completed w).cutsOver k = true) : (s.head h).cutsOver k = true := by
  rw [Head.completed_parts window] at cuts
  have cuts : ws.any (fun v => rangeHas v.zones k) = true := cuts
  rw [Head.cutsOver, window, List.any_cons, cuts, Bool.or_true]

omit window in
theorem State.credited_zone (k : Nat) : (s.credited h w).zone k = s.zone k := by
  rw [State.credited_rest]
  rfl

theorem State.credited_orphans (orphans : NoOrphans s) : NoOrphans (s.credited h w) := by
  have moved : NoOrphans (s.modHead h (Head.completed w)) := orphans.modHead fun k => Head.completed_cutsOver window
  exact moved.of_windows (fun i k cuts => by rwa [Head.cutsOver_of_window ((s.credited_told h w).window i)] at cuts)
    fun k _ _ off => by rwa [State.credited_zone] at off

theorem State.complete_vents (orphans : NoOrphans s) : VentsUnneeded s (State.closeEvent s (s.complete h w)) := by
  have vents : VentsUnneeded s (s.credited h w).reevaluate := by
    intro k lt
    have told := State.reevaluate_told (s.credited h w)
    have needed : (s.credited h w).reevaluate.needed k = (s.credited h w).needed k :=
      State.needed_congr (fun i => told.window i) (fun i => (told.alike i).request) (by simp) k
    rw [needed, State.reevaluate_zone (State.credited_orphans window orphans) lt, State.credited_zone]
    rfl
  exact vents.drainIfDone.closed s

theorem State.complete_settings : SameSettings s (State.closeEvent s (s.complete h w)) := by
  have heads (i : HeadId) : ((s.credited h w).reevaluate.head i).cut = (s.head i).cut ∧
      ((s.credited h w).reevaluate.head i).bladeParams = (s.head i).bladeParams ∧
      ((s.credited h w).reevaluate.head i).guard = (s.head i).guard := by
    obtain ⟨v, e, -⟩ := s.credited_reevaluated_told h w i
    rw [e]
    obtain rfl | rfl := HeadId.eq_or_other h i
    · rw [State.head_modHead_self, Head.completed_parts window]
      exact ⟨rfl, rfl, rfl⟩
    · rw [State.head_modHead_other]
      exact ⟨rfl, rfl, rfl⟩
  have same : SameSettings s (s.credited h w).reevaluate := by
    have rest := State.reevaluate_rest (s.credited h w)
    refine ⟨?_, ?_, ?_, ?_, ?_, ?_, ?_, ?_, ?_, ?_, ?_, heads⟩ <;> rw [rest, State.credited_rest]
  exact same.drainIfDone.closeEvent s

omit window in
theorem State.complete_retained : (State.closeEvent s (s.complete h w)).retained = s.retained := by
  rw [State.closeEvent_retained, State.complete_eq, State.drainIfDone_retained, State.reevaluate_retained, State.credited_rest]

omit window in
theorem State.credited_job : (s.credited h w).reevaluate.job = s.job := by
  rw [State.reevaluate_job, State.credited_rest]

theorem State.credited_idle (queue : (s.head h).queue = []) (none : ws = [])
    (others : (s.head h.other).queue = [] ∧ (s.head h.other).window = []) (i : HeadId) :
    ((s.credited h w).reevaluate.head i).queue = [] ∧ ((s.credited h w).reevaluate.head i).window = [] := by
  obtain rfl | rfl := HeadId.eq_or_other h i
  · obtain ⟨v, e⟩ := State.credited_head (s := s) (h := _) (w := w)
    rw [e, Head.completed_parts window]
    exact ⟨queue, none⟩
  · obtain ⟨v, e, -⟩ := State.credited_other (s := s) (h := h) (w := w)
    rw [e]
    exact others

/-- A DONE of the last of a closing job drains it (R12). -/
theorem State.complete_drains (closing : s.job.state = .closing) (queue : (s.head h).queue = []) (none : ws = [])
    (others : (s.head h.other).queue = [] ∧ (s.head h.other).window = []) (steady : ∀ i, s.Steady i) :
    Drained (State.closeEvent s (s.complete h w)) := by
  rw [State.complete_eq, State.drainIfDone_of_idle (by rw [State.credited_job, closing])
    (State.credited_idle window queue none others)]
  refine State.closeEvent_drained s fun i => ?_
  obtain rfl | rfl := HeadId.eq_or_other h i
  · obtain ⟨v, e⟩ := State.credited_head (s := s) (h := _) (w := w)
    rw [e, Head.completed_parts window]
    exact (steady _).offRests
  · obtain ⟨v, e, -⟩ := State.credited_other (s := s) (h := h) (w := w)
    rw [e]
    exact (steady _).offRests

theorem State.complete_stays (works : s.job.state ≠ .closing ∨ ws ≠ [] ∨ (s.head h).queue ≠ [] ∨ (s.head h.other).queue ≠ [] ∨
    (s.head h.other).window ≠ []) : s.complete h w = (s.credited h w).reevaluate := by
  obtain ⟨v, self⟩ := State.credited_head (s := s) (h := h) (w := w)
  obtain ⟨u, other, -⟩ := State.credited_other (s := s) (h := h) (w := w)
  rw [Head.completed_parts window] at self
  refine State.drainIfDone_stays (s := (s.credited h w).reevaluate) (works.imp (fun open' => by rwa [State.credited_job]) fun work => ?_)
  obtain work | work | work := work
  · exact ⟨h, .inr (by rwa [self])⟩
  · exact ⟨h, .inl (by rwa [self])⟩
  · exact ⟨h.other, by rwa [other]⟩

omit window in
/-- What a DONE leaves of the rest where the job does not drain. -/
theorem State.closeEvent_credited_rest : State.closeEvent s (s.credited h w).reevaluate = { s with
    heads := (State.closeEvent s (s.credited h w).reevaluate).heads, links := (State.closeEvent s (s.credited h w).reevaluate).links
    zones := (State.closeEvent s (s.credited h w).reevaluate).zones, pieces := (s.credited h w).pieces } := by
  have closed := State.closeEvent_reevaluate_rest s (s.credited h w)
  have rest := s.credited_rest h w
  generalize State.closeEvent s (s.credited h w).reevaluate = t at closed ⊢
  rw [rest] at closed
  exact closed

theorem State.credited_request (i : HeadId) : ((s.credited h w).reevaluate.head i).pendingReq = (s.head i).pendingReq := by
  obtain rfl | rfl := HeadId.eq_or_other h i
  · obtain ⟨v, e⟩ := State.credited_head (s := s) (h := _) (w := w)
    rw [e, Head.completed_parts window]
  · obtain ⟨v, e, -⟩ := State.credited_other (s := s) (h := h) (w := w)
    rw [e]

omit window in
/-- The other head keeps all but its watch (R75, R134). -/
theorem State.closeEvent_credited_other (steady : s.Steady h.other) :
    SameHead s (State.closeEvent s (s.credited h w).reevaluate) h.other := by
  obtain ⟨v, e, from'⟩ := State.credited_other (s := s) (h := h) (w := w)
  have held := State.reevaluate_sameHeld (s.credited h w) h.other
  have kept : (s.credited h w).reevaluate.Steady h.other := by
    refine steady.of_alike (by rw [e]; exact Head.alike_watch _ v) (by rw [e]; exact from') (by rw [State.credited_job]) ?_
    intro k lt looks
    obtain ⟨u, told, -⟩ := s.credited_told h w h.other
    rw [State.head_modHead_other] at told
    rw [← State.credited_zone (s := s) (h := h) (w := w)]
    exact held k lt (by rw [told]; exact looks)
  have demand := kept.demandNow
  obtain ⟨holds, overdue, -, -, lapse⟩ := kept
  have closed := State.closeEvent_keeps (b := s) holds overdue.line demand lapse (by rw [e, State.credited_job]; rfl)
  rw [SameHead]
  conv_lhs => rw [closed, e]

/-- The blade of a DONE where OVERDUE did not stand: the idle-delay timer alone may have started (R103, R104). -/
theorem State.closeEvent_credited_blade (steady : s.Steady h) (quiet : (s.head h).hold.overdue = false) :
    ((State.closeEvent s (s.credited h w).reevaluate).head h).blade = ((s.head h).completed w).blade := by
  obtain ⟨v, e⟩ := State.credited_head (s := s) (h := h) (w := w)
  have cut : ((s.credited h w).reevaluate.head h).cutCondition = (s.head h).cutCondition := by
    rw [e]
    exact Head.completed_cutCondition window
  have parts := e
  rw [Head.completed_parts window] at parts
  have service : ((s.credited h w).reevaluate.head h).inService = (s.head h).inService := by rw [parts]; rfl
  have overdue : ((s.credited h w).reevaluate.head h).hold.overdue = (s.head h).hold.overdue := by rw [parts, quiet]
  have asked : ((s.credited h w).reevaluate.head h).blade.demand = (s.head h).blade.demand := by rw [parts]
  have stop : ((s.credited h w).reevaluate.head h).blade.stopTimer = (s.head h).blade.stopTimer := by rw [parts]
  have stands : ((s.credited h w).reevaluate.head h).standsBy s.job.state.isOpen = (s.head h).standsBy s.job.state.isOpen := by
    rw [Head.standsBy, Head.standsBy, cut, service]
  have demand : (s.credited h w).reevaluate.DemandNow h := by
    obtain ⟨now, timed⟩ := steady.demandNow
    refine ⟨?_, ?_⟩
    · rw [asked, now, State.credited_job, Head.demandOf, Head.demandOf, cut, service, overdue, stop]
    · rw [stop, State.credited_job, stands]
      exact timed
  rw [State.closeEvent_undemanding (b := s) demand (by rw [State.credited_job, stands]), e]

/-- An accepted DONE of the oldest window entry. -/
theorem State.doneRequest_oldest {n : Half} (named : w.entry.seg.number = n.toNat) (nonzero : n.toNat ≠ 0) :
    let t := State.closeEvent s (s.complete h w)
    s.doneRequest h n = (t, .accepted (.done n.toNat (t.head h).standing (t.head h).claim)) := by
  have oldest : (s.head h).doneReply n.toNat = none := by
    rw [Head.doneReply, if_neg nonzero, window]
    exact if_pos (congrArg some named)
  rw [State.doneRequest, oldest]
  dsimp only
  rw [window]

end Done

theorem Piece.credit_if (h : HeadId) (n : Nat) (tags : List Nat) (p : Piece) :
    (if p.id ∈ tags then p.credit h n else p) = if p.id ∈ tags ∧ (p.st = .declared ∨ p.st = .part) then
      { p with edges := p.edges + 1, contributors := p.contributors ++ [(h, n)]
               st := if p.edges + 1 = p.required then .severed else .part } else p := by
  rw [Piece.credit_eq, ite_and]

theorem Piece.creditSevers_of {p : Piece} (started : p.st = .declared ∨ p.st = .part) (last : p.edges + 1 = p.required) :
    p.creditSevers = true := by
  rw [Piece.creditSevers, p.isOpen_iff.mpr started]
  simpa using last

/-- A DONE that completes a piece raises PIECE-SEVERED on the cell link (R148). -/
theorem State.credited_severs (s : State) (h : HeadId) (w : WinEntry) (once : w.entry.seg.tags.Nodup)
    (completes : ∃ p ∈ s.pieces, p.id ∈ w.entry.seg.tags ∧ (p.st = .declared ∨ p.st = .part) ∧ p.edges + 1 = p.required) :
    ((State.closeEvent s (s.credited h w).reevaluate).link .cell).attention.pieceSevered = true := by
  have raised : ((s.credited h w).link .cell).attention.pieceSevered = true := by
    refine State.credit_severs h _ once _ ?_
    rw [State.tell_rest]
    obtain ⟨p, member, named, started, last⟩ := completes
    exact ⟨p, member, named, Piece.creditSevers_of started last⟩
  have later := (State.reevaluate_hears (s.credited h w)).stays .cell AttSet.pieceSevered (fun _ _ => rfl) raised
  exact (State.closeEvent_hears s (s.credited h w).reevaluate).stays .cell AttSet.pieceSevered (fun _ _ => rfl) later

theorem State.credited_pieces (s : State) (h : HeadId) (w : WinEntry) (once : w.entry.seg.tags.Nodup) :
    (s.credited h w).pieces = s.pieces.map fun p =>
      if p.id ∈ w.entry.seg.tags ∧ (p.st = .declared ∨ p.st = .part) then
        { p with edges := p.edges + 1, contributors := p.contributors ++ [(h, w.entry.seg.number)]
                 st := if p.edges + 1 = p.required then .severed else .part }
      else p := by
  rw [State.credited, State.credit_pieces h _ once, State.tell_rest]
  exact List.map_congr_left fun p _ => Piece.credit_if ..

theorem closes_below_severed (b t : State) (l : LinkId) :
    (closes b t l).Below ((AttSet.ofWaitCleared.union AttSet.ofHoldChanged).union AttSet.ofPieceSevered) := by
  cases l <;>
    simp [AttSet.below_iff, closes, AttSet.union, AttSet.ofHoldChanged, AttSet.ofWaitCleared, AttSet.ofPieceSevered, AttSet.empty]

/-- Settles O36: DONE of the oldest segment completes it. -/
theorem doneCompletes : Obligations.DoneCompletes := by
  intro s h n w ws free window named nonzero once
  have oldest : ((s.toLead (.head h)).head h).window = w :: ws := window
  have closed := (State.complete_hears (s.toLead (.head h)) h w).taken
    (u := fun _ => (AttSet.ofWaitCleared.union AttSet.ofHoldChanged).union AttSet.ofPieceSevered)
    (fun l => by simp [AttSet.below_iff, AttSet.union, AttSet.ofHoldChanged, AttSet.ofWaitCleared, AttSet.ofPieceSevered, AttSet.empty])
    (closes_below_severed _ _)
  obtain ⟨t, next, took⟩ := exec_taken (c := .done (.head h) n) (r := .done n) rfl free (permitted_done h n)
    (State.doneRequest_oldest (s := s.toLead (.head h)) oldest named nonzero) closed
  have head := State.closeEvent_complete_head (s := s.toLead (.head h)) oldest
  have answers := took.answers
  dsimp only at head
  obtain ⟨left, queue, ⟨nextSeq, runs, floor⟩, ref, service, standing, claim, overdueReason, cellHold, overdue⟩ := head
  rw [Head.ClaimIsHull, Head.windowSegs] at claim
  rw [← took.head h] at left queue nextSeq runs floor ref service standing claim overdueReason cellHold overdue answers
  refine ⟨t, next, answers, ?_, fun orphans _ => ?_, ?_, took.raisesOnly (closed.raisesOnly fun _ => AttSet.below_refl _),
    left, queue, ⟨nextSeq, runs, floor⟩, ref, service, standing, claim, overdueReason, cellHold, fun none => ?_,
    fun v vs some => ?_, fun old absent fateless => ?_, fun closing none own otherQueue otherWindow steady => ?_, fun works => ?_⟩
  · rw [took.rest]
    exact State.complete_settings (s := s.toLead (.head h)) (h := h) (w := w) oldest
  · rw [took.rest]
    exact State.complete_vents (s := s.toLead (.head h)) (h := h) (w := w) oldest orphans
  · rw [took.rest]
    exact State.complete_retained (s := s.toLead (.head h))
  · rw [overdue, none]
    exact Overdue.follow_stopped _ rfl
  · rw [overdue, some]
    exact Overdue.follow_running _ (by simp [Overdue.start])
  · rw [List.mem_append, not_or] at absent
    refine Head.numState_done (by rw [queue]; exact absent.2) (by rw [left]; exact absent.1) (by rw [nextSeq]; exact old) (.inr ?_)
    rw [runs]
    exact fateless
  · rw [took.rest]
    exact State.complete_drains (s := s.toLead (.head h)) (h := h) (w := w) oldest closing own none ⟨otherQueue, otherWindow⟩ steady
  · rw [State.complete_stays (s := s.toLead (.head h)) (h := h) (w := w) oldest works] at took
    have rest := took.rest
    rw [State.closeEvent_credited_rest] at rest
    refine ⟨by rw [rest]; rfl, by rw [rest]; rfl, ?_, ?_, fun completes => ?_, fun steady => ⟨?_, fun quiet _ _ => ?_⟩⟩
    · rw [took.head, State.closeEvent_head_pendingReq]
      exact State.credited_request (s := s.toLead (.head h)) (h := h) (w := w) oldest h
    · rw [← named, rest]
      exact State.credited_pieces (s.toLead (.head h)) h w once
    · rw [took.attention]
      exact State.credited_severs (s.toLead (.head h)) h w once completes
    · rw [SameHead, took.head]
      exact State.closeEvent_credited_other (s := s.toLead (.head h)) (steady h.other)
    · rw [took.head]
      refine (State.closeEvent_credited_blade (s := s.toLead (.head h)) (h := h) (w := w) oldest (steady h) quiet).trans ?_
      rw [Head.completed_parts (hd := (s.toLead (.head h)).head h) oldest]
      rfl

end Sys2Proof.Machine

/-! PROOFS. A GRANT that is made (R60, R64, R68 to R72, R82). -/

namespace Sys2Proof.Machine

/-! ### The state a grant is made from -/

/-- State g is what a GRANT on head h has made of state s before the grant, where no zone starts: the head's pending request and
its timers, and the timer of its mark, may have changed (R68, R88, R91). -/
structure State.Readied (s g : State) (h : HeadId) (idle : Option Nat) : Prop where
  rest : g = { s with heads := g.heads, mark := g.mark }
  other : g.head h.other = s.head h.other
  own : ∃ lapse request, g.head h = { s.head h with
    lapse := lapse, pendingReq := request, blade := { (s.head h).blade with idleTimer := idle } }
  passed : g.markPassed h = s.markPassed h

theorem State.markPassed_grantTaken (s : State) (h : HeadId) : (s.grantTaken h).markPassed h = s.markPassed h := by
  have other := s.grantTaken_head_other h
  have mark : (s.grantTaken h).mark = s.mark.map fun m => if m.holder = h then ⟨h, 2000000⟩ else m := by rw [State.grantTaken_eq]
  unfold State.markPassed
  rw [other, mark]
  cases s.mark with
  | none => rfl
  | some m =>
    dsimp only [Option.map_some]
    by_cases holds : m.holder = h
    · rw [if_pos holds, if_pos holds]
      exact if_pos rfl
    · rw [if_neg holds, if_neg holds]

theorem State.readied_grantTaken (s : State) (h : HeadId) : State.Readied s (s.grantTaken h) h (s.head h).blade.idleTimer where
  rest := by rw [State.grantTaken_eq]
  other := s.grantTaken_head_other h
  own := ⟨_, _, s.grantTaken_head h⟩
  passed := s.markPassed_grantTaken h

/-- A segment of zones that are all HELD is ready to be cut where the blade is (R87, R88). -/
theorem State.zoneRequest_satisfied {s : State} {h : HeadId} {r : ZoneRange} (held : ∀ k ∈ r.list, (s.zone k).st = .held) :
    s.zoneRequest h r = (s.modHead h fun hd => { hd with pendingReq := some r }, .satisfied) := by
  have zone (k : Nat) : (s.modHead h fun hd => { hd with pendingReq := some r }).zone k = s.zone k := rfl
  have good : (r.list.any fun k => decide ((s.zone k).st = .fault)) = false := by
    refine List.any_eq_false.mpr fun k member => ?_
    rw [held k member]
    decide
  have all : (r.list.all fun k => decide ((s.zone k).st = .held)) = true :=
    List.all_eq_true.mpr fun k member => by rw [held k member]; rfl
  unfold State.zoneRequest State.allHeld
  dsimp only
  simp only [zone]
  rw [if_neg (by rw [good]; decide), if_pos all]

/-! ### The head of a grant -/

theorem Head.granted_eq {hd : Head} {e : Entry} {q : List Entry} (queue : hd.queue = e :: q) (hulls : hd.ClaimIsHull) (r : GrantResult) :
    hd.granted e r = { hd with
      queue := q, window := hd.window ++ [⟨e, r, e.zones⟩], claim := ⟨min hd.claim.lo e.seg.xlo, max hd.claim.hi e.seg.xhi⟩
      pendingReq := none, watch := Watch.empty
      blade := { hd.blade with idleTimer := if e.seg.kind = .air then hd.blade.idleTimer else none }
      overdue := if hd.window = [] then ⟨.counting, r.allowance * 1000, 0⟩ else hd.overdue } := by
  have claim : hull hd.standing ((hd.window ++ [(⟨e, r, e.zones⟩ : WinEntry)]).map fun w => w.entry.seg) =
      ⟨min hd.claim.lo e.seg.xlo, max hd.claim.hi e.seg.xhi⟩ := by
    rw [List.map_append]
    exact Head.claimWith_eq hulls e
  have timer : (if hd.window.isEmpty = true then Overdue.start r.allowance else hd.overdue) =
      if hd.window = [] then ⟨.counting, r.allowance * 1000, 0⟩ else hd.overdue := if_congr List.isEmpty_iff rfl rfl
  rw [← claim, ← timer, Head.granted, queue]
  rfl

section Granted

variable {s g : State} {h : HeadId} {idle : Option Nat} {e : Entry} {q : List Entry} (ready : State.Readied s g h idle)

include ready

theorem State.Readied.governed : g.governed h e = s.governed h e := by
  obtain ⟨lapse, request, own⟩ := ready.own
  have job : g.job = s.job := by rw [ready.rest]
  rw [State.governed, own, job]
  rfl

theorem State.Readied.zone (k : Nat) : g.zone k = s.zone k := by
  rw [ready.rest]
  rfl

variable (queue : (s.head h).queue = e :: q) (hulls : (s.head h).ClaimIsHull)

include queue hulls

/-- The head of a grant before the event closes (R60, R64, R71, R82, R88). -/
theorem State.Readied.head : ∃ lapse, (g.grant h e).head h = { s.head h with
    queue := q, window := (s.head h).window ++ [⟨e, s.governed h e, e.zones⟩]
    claim := ⟨min (s.head h).claim.lo e.seg.xlo, max (s.head h).claim.hi e.seg.xhi⟩
    pendingReq := none, lapse := lapse, watch := Watch.empty
    blade := { (s.head h).blade with idleTimer := if e.seg.kind = .air then idle else none }
    overdue := if (s.head h).window = [] then ⟨.counting, (s.governed h e).allowance * 1000, 0⟩ else (s.head h).overdue } := by
  obtain ⟨lapse, request, own⟩ := ready.own
  have made := Head.granted_eq (hd := g.head h) (by rw [own]; exact queue) (by rw [own]; exact hulls) (g.governed h e)
  refine ⟨lapse, (State.reworked_self (s := g) (f := Head.granted e (g.governed h e)) (by rw [made])).trans ?_⟩
  rw [made, own, ready.governed]

/-- The zones under the cuts of the window after a grant (R64). -/
theorem State.Readied.cutsOver (k : Nat) : ((g.grant h e).head h).cutsOver k = ((s.head h).cutsOver k || rangeHas e.zones k) := by
  obtain ⟨lapse, head⟩ := ready.head queue hulls
  rw [Head.cutsOver, head, List.any_append, List.any_cons, List.any_nil, Bool.or_false]
  rfl

variable (covered : ∀ k < 16, rangeHas e.zones k = true → (s.zone k).st = .held)

include covered

theorem State.Readied.zoneHolds : (g.grant h e).zoneHolds h = s.zoneHolds h := by
  refine anyOf_congr fun k member => ?_
  have lt : k < 16 := List.mem_range.mp member
  have cuts := ready.cutsOver queue hulls k
  cases lies : ((g.grant h e).head h).cutsOver k with
  | false =>
    rw [lies] at cuts
    rw [(Bool.or_eq_false_iff.mp cuts.symm).1]
    rfl
  | true =>
    have held : ((g.grant h e).zone k).st = .held ↔ (s.zone k).st = .held := by
      rw [← ready.zone k]
      exact State.reworked_held (i := h) (.inl lies)
    cases before : (s.head h).cutsOver k with
    | true => rw [Bool.true_and, Bool.true_and, decide_eq_decide, not_iff_not, held]
    | false =>
      rw [lies, before, Bool.false_or] at cuts
      simp [held.mpr (covered k lt cuts.symm)]

theorem State.Readied.orphans (orphans : NoOrphans s) : NoOrphans (g.modHead h (Head.granted e (g.governed h e))) := by
  rw [noOrphans_iff] at orphans ⊢
  intro k lt i cuts
  have zone : (g.modHead h (Head.granted e (g.governed h e))).zone k = s.zone k := ready.zone k
  rw [zone]
  have told := (State.reworked_told g h (Head.granted e (g.governed h e))).window h
  obtain rfl | rfl := HeadId.eq_or_other h i
  · rw [← Head.cutsOver_of_window told] at cuts
    have cuts := (ready.cutsOver queue hulls k).symm.trans cuts
    obtain before | new := Bool.or_eq_true _ _ ▸ cuts
    · exact orphans k lt _ before
    · rw [covered k lt new]
      decide
  · rw [State.head_modHead_other, ready.other] at cuts
    exact orphans k lt _ cuts

theorem State.Readied.vents (orphans : NoOrphans s) : VentsUnneeded s (State.closeEvent s (g.grant h e)) := by
  have vents : VentsUnneeded g (g.grant h e) := State.reworked_vents (ready.orphans queue hulls covered orphans)
  have vents : VentsUnneeded s (g.grant h e) := fun k lt => by rw [vents k lt, ready.zone]
  exact vents.closed s

omit queue hulls covered in
theorem State.Readied.job : g.job = s.job := by rw [ready.rest]

omit queue hulls covered in
/-- The other head keeps all but its watch (R75, R134). -/
theorem State.Readied.closed_other (steady : s.Steady h.other) : SameHead s (State.closeEvent s (g.grant h e)) h.other := by
  have still : g.Steady h.other := steady.of_alike (by rw [ready.other]; exact .refl _) (.inl (by rw [ready.other]))
    (by rw [ready.job]) fun k _ _ => by rw [ready.zone]
  have kept : (g.grant h e).Steady h.other := State.reworked_other_steady (f := Head.granted e (g.governed h e)) still
  have job : (g.grant h e).job = s.job := (State.reworked_job g h (Head.granted e (g.governed h e))).trans ready.job
  obtain ⟨w, other, -⟩ := State.reworked_other_told (s := g) (h := h) (f := Head.granted e (g.governed h e))
  have other : (g.grant h e).head h.other = { g.head h.other with watch := w } := other
  rw [ready.other] at other
  have demand := kept.demandNow
  obtain ⟨holds, overdue, -, -, lapse⟩ := kept
  have closed := State.closeEvent_keeps (b := s) holds overdue.line demand lapse (by rw [other, job]; rfl)
  rw [SameHead]
  conv_lhs => rw [closed, other]

/-- The head after a grant that leaves it the channel `c`, with no reason added to its set (R64, R71, R82, R134). -/
theorem State.Readied.closed_head (steady : s.Steady h) {c : Channel}
    (work : (((g.grant h e).head h).reworkBlade ((s.head h).standsBy s.job.state.isOpen) s.job.state.isOpen).blade = c)
    (blade : ({ (g.grant h e).head h with blade := c } : Head).bladeHolds = (s.head h).bladeHolds) :
    (State.closeEvent s (g.grant h e)).head h = { s.head h with
      queue := q, window := (s.head h).window ++ [⟨e, s.governed h e, e.zones⟩]
      claim := ⟨min (s.head h).claim.lo e.seg.xlo, max (s.head h).claim.hi e.seg.xhi⟩
      pendingReq := none, lapse := none, watch := Watch.empty, blade := c
      overdue := if (s.head h).window = [] then
          ⟨if (s.head h).hold.held = true then .paused else .counting, (s.governed h e).allowance * 1000, 0⟩
        else (s.head h).overdue } := by
  obtain ⟨lapse, head⟩ := ready.head queue hulls
  have job : (g.grant h e).job = s.job := (State.reworked_job g h (Head.granted e (g.governed h e))).trans ready.job
  obtain ⟨holds, overdue, -⟩ := steady
  have worked : ((g.grant h e).head h).reworkBlade ((s.head h).standsBy s.job.state.isOpen) s.job.state.isOpen =
      { (g.grant h e).head h with blade := c } := by
    rw [← work]
    rfl
  have hold : ((State.closeEvent s (g.grant h e)).head h).hold = (s.head h).hold := by
    rw [State.closeEvent_hold, job, worked, blade, ready.zoneHolds queue hulls covered, head]
    exact holds.symm
  have line : ((g.grant h e).head h).overdue.follow (s.head h).hold.held = if (s.head h).window = [] then
      ⟨if (s.head h).hold.held = true then .paused else .counting, (s.governed h e).allowance * 1000, 0⟩
      else (s.head h).overdue := by
    rw [head]
    dsimp only
    split
    · exact Overdue.follow_running _ fun stopped => by cases stopped
    · exact overdue.line
  rw [State.closeEvent_head_eq, hold, line, job, work, State.closeEvent_watch_empty (by rw [head]),
    State.lapseNow_none (by rw [head]), head]

omit queue hulls covered in
theorem State.Readied.hears : State.Hears wakes s (g.grant h e) :=
  (State.Hears.of_links (by rw [ready.rest])).trans (State.reworked_hears g h (Head.granted e (g.governed h e)))

omit queue hulls covered in
/-- What a grant leaves of the rest (R71, R86, R91). -/
theorem State.Readied.closed_rest : State.closeEvent s (g.grant h e) = { s with
    heads := (State.closeEvent s (g.grant h e)).heads, links := (State.closeEvent s (g.grant h e)).links
    zones := (State.closeEvent s (g.grant h e)).zones, mark := s.markPassed h } := by
  have closed := State.closeEvent_reworked_rest g h (Head.granted e (g.governed h e)) s
  rw [← ready.passed]
  have made : g.reworked h (Head.granted e (g.governed h e)) = g.grant h e := rfl
  rw [made] at closed
  have rest := ready.rest
  generalize State.closeEvent s (g.grant h e) = t at closed ⊢
  generalize g.markPassed h = m at closed ⊢
  rw [rest] at closed
  exact closed

omit queue hulls covered in
theorem State.Readied.settings : SameSettings s (State.closeEvent s (g.grant h e)) := by
  obtain ⟨lapse, request, own⟩ := ready.own
  have granted : ((g.head h).granted e (g.governed h e)).cut = (s.head h).cut ∧
      ((g.head h).granted e (g.governed h e)).bladeParams = (s.head h).bladeParams ∧
      ((g.head h).granted e (g.governed h e)).guard = (s.head h).guard := by
    rw [own]
    exact ⟨rfl, rfl, rfl⟩
  have heads (i : HeadId) : (((g.grant h e)).head i).cut = (s.head i).cut ∧
      ((g.grant h e).head i).bladeParams = (s.head i).bladeParams ∧ ((g.grant h e).head i).guard = (s.head i).guard := by
    obtain ⟨w, told, -⟩ := State.reworked_told g h (Head.granted e (g.governed h e)) i
    have told : (g.grant h e).head i = _ := told
    rw [told]
    obtain rfl | rfl := HeadId.eq_or_other h i
    · rw [State.head_modHead_self]
      exact granted
    · rw [State.head_modHead_other, ready.other]
      exact ⟨rfl, rfl, rfl⟩
  have rest := State.reworked_rest g h (Head.granted e (g.governed h e))
  have rest : g.grant h e = _ := rest
  have same : SameSettings s (g.grant h e) := by
    refine ⟨?_, ?_, ?_, ?_, ?_, ?_, ?_, ?_, ?_, ?_, ?_, heads⟩ <;> rw [rest, ready.rest]
  exact same.closeEvent s

end Granted

/-! ### The request -/

/-- Closing an event in which no reason set changes can only end a watch (R75, R134). -/
theorem closes_quiet {b t : State} (hold : ∀ i, (t.head i).hold = (b.head i).hold) (l : LinkId) :
    (closes b t l).Below AttSet.ofWaitCleared := by
  cases l with
  | head i => simp [AttSet.below_iff, closes, hold i, AttSet.ofWaitCleared, AttSet.empty]
  | cell => exact AttSet.empty_below _

theorem State.grantRequest_made {s g : State} {h : HeadId} {e : Entry} (stop : s.grantStop h = .passes e)
    (hulls : (s.head h).ClaimIsHull) (clear : s.Clear h ⟨min (s.head h).claim.lo e.seg.xlo, max (s.head h).claim.hi e.seg.xhi⟩)
    (prepared : (s.grantTaken h).preparedFor h e = (g, WaitSet.empty)) :
    s.grantRequest h = (State.closeEvent s (g.grant h e), .accepted (.grant (grantRecord e (g.governed h e)))) := by
  have passes : s.clearFor h ((s.head h).claimWith e) = true := by
    rw [Head.claimWith_eq hulls, State.clearFor_iff]
    exact clear
  rw [State.grantRequest, stop]
  dsimp only
  rw [State.grantFor_eq, if_neg (by rw [State.clearFor_grantTaken, passes]; decide), prepared, if_pos rfl]

section Made

variable {s g : State} {h : HeadId} {idle : Option Nat} {e : Entry} {q : List Entry} (free : s.listens (.head h) = true)
  (opened : s.job.state.isOpen = true) (service : (s.head h).service = .inService) (queue : (s.head h).queue = e :: q)
  (room : (s.head h).window.length < 4) (released : (s.head h).hold.beyondBlade = false) (hulls : (s.head h).ClaimIsHull)
  (steady : ∀ i, s.Steady i) (clear : s.Clear h ⟨min (s.head h).claim.lo e.seg.xlo, max (s.head h).claim.hi e.seg.xhi⟩)

include free opened service queue room released hulls steady clear

/-- A GRANT that is made leaves the head with channel `c` (R64, R71). -/
theorem exec_grant_made (ready : State.Readied (s.toLead (.head h)) g h idle)
    (prepared : ((s.toLead (.head h)).grantTaken h).preparedFor h e = (g, WaitSet.empty))
    (covered : ∀ k < 16, rangeHas e.zones k = true → (s.zone k).st = .held) {c : Channel}
    (work : (((g.grant h e).head h).reworkBlade ((s.head h).standsBy s.job.state.isOpen) s.job.state.isOpen).blade = c)
    (blade : ({ (g.grant h e).head h with blade := c } : Head).bladeHolds = (s.head h).bladeHolds) :
    ∃ t : State, exec (.grant (.head h)) s = .next t ∧
      Answers s t (.head h) 0x12 (.accepted (.grant (grantRecord e (s.governed h e)))) ∧
      SameSettings s t ∧ t.job = s.job ∧ SamePieces s t ∧ t.mark = s.markPassed h ∧ SameHead s t h.other ∧
      (NoOrphans s → s.zones.length = 16 → VentsUnneeded s t) ∧ RaisesOnly s t AttSet.ofWaitCleared ∧
      t.head h = { s.head h with
        queue := q, window := (s.head h).window ++ [⟨e, s.governed h e, e.zones⟩]
        claim := ⟨min (s.head h).claim.lo e.seg.xlo, max (s.head h).claim.hi e.seg.xhi⟩
        pendingReq := none, lapse := none, watch := Watch.empty, blade := c
        overdue := if (s.head h).window = [] then
            ⟨if (s.head h).hold.held = true then .paused else .counting, (s.governed h e).allowance * 1000, 0⟩
          else (s.head h).overdue } := by
  have stop : (s.toLead (.head h)).grantStop h = .passes e := State.grantStop_ready (s := s.toLead (.head h)) opened service queue room released
  have run := State.grantRequest_made (s := s.toLead (.head h)) stop hulls clear prepared
  rw [ready.governed] at run
  have head := ready.closed_head (q := q) queue hulls covered (steady h) work blade
  have other := ready.closed_other (e := e) (steady h.other)
  have hold (i : HeadId) : ((State.closeEvent (s.toLead (.head h)) (g.grant h e)).head i).hold = ((s.toLead (.head h)).head i).hold := by
    obtain rfl | rfl := HeadId.eq_or_other h i
    · rw [head]
    · rw [other]
  have closed := (ready.hears (e := e)).taken (u := fun _ => AttSet.ofWaitCleared) wakes_below (closes_quiet hold)
  obtain ⟨t, next, took⟩ := exec_taken (c := .grant (.head h)) (r := .grant) rfl free (permitted_grant h) run closed
  have rest := took.rest
  rw [ready.closed_rest] at rest
  refine ⟨t, next, took.answers, ?_, by rw [rest]; rfl, ⟨by rw [rest]; rfl, by rw [rest]; rfl⟩, by rw [rest]; rfl, ?_, fun orphans _ => ?_,
    took.raisesOnly (closed.raisesOnly fun _ => AttSet.below_refl _), ?_⟩
  · rw [took.rest]
    exact ready.settings (e := e)
  · rw [SameHead, took.head]
    exact other
  · rw [took.rest]
    exact ready.vents (q := q) queue hulls covered orphans
  · rw [took.head]
    exact head

end Made

/-! ### AIR -/

/-- The channel of a head whose demand is what it was before an AIR segment joined its window (R103). -/
theorem State.Readied.work_air {s g : State} {h : HeadId} {e : Entry} {q : List Entry}
    (ready : State.Readied s g h (s.head h).blade.idleTimer) (queue : (s.head h).queue = e :: q) (hulls : (s.head h).ClaimIsHull)
    (air : e.seg.kind = .air) (steady : s.Steady h) :
    (((g.grant h e).head h).reworkBlade ((s.head h).standsBy s.job.state.isOpen) s.job.state.isOpen).blade = (s.head h).blade ∧
      ({ (g.grant h e).head h with blade := (s.head h).blade } : Head).bladeHolds = (s.head h).bladeHolds := by
  obtain ⟨lapse, head⟩ := ready.head queue hulls
  rw [if_pos air] at head
  have cuts : ((g.grant h e).head h).holdsCut = (s.head h).holdsCut := by
    rw [Head.holdsCut, head, List.any_append, List.any_cons, List.any_nil, Bool.or_false]
    simp [WinEntry.isCut, air, Head.holdsCut]
  have blade : ((g.grant h e).head h).blade = (s.head h).blade := by rw [head]
  have service : ((g.grant h e).head h).inService = (s.head h).inService := by rw [head]; rfl
  have overdue : ((g.grant h e).head h).hold = (s.head h).hold := by rw [head]
  have condition : ((g.grant h e).head h).cutCondition = (s.head h).cutCondition := by
    rw [Head.cutCondition, cuts, blade, Head.cutCondition]
  have stands (jobOpen : Bool) : ((g.grant h e).head h).standsBy jobOpen = (s.head h).standsBy jobOpen := by
    rw [Head.standsBy, condition, service, Head.standsBy]
  have demand (jobOpen : Bool) : ((g.grant h e).head h).demandOf jobOpen = (s.head h).demandOf jobOpen := by
    rw [Head.demandOf, condition, service, overdue, blade, Head.demandOf]
  obtain ⟨asked, timed⟩ := steady.demandNow
  refine ⟨?_, ?_⟩
  · rw [Head.reworkBlade_eq (stands _).symm (by rw [blade, demand, asked]) (by rw [blade, stands]; exact timed), blade]
  · rw [Head.bladeHolds, Head.bladeHolds, ← cuts]
    rfl

theorem State.governed_air {e : Entry} (air : e.seg.kind = .air) (s : State) (h : HeadId) :
    let feed := (s.head h).cut.fAir
    let expected := (e.seg.length * 6000 + feed - 1) / feed
    s.governed h e = ⟨feed, false, false, expected, min 600000 (2 * expected + (s.head h).cut.grace)⟩ := by
  rw [State.governed, govern, if_pos air]
  simp [allowanceOf, expectedTime, ceilDiv]

/-- Settles O32: a GRANT of an AIR segment that its turn allows is made. -/
theorem airIsGranted : Obligations.AirIsGranted := by
  intro s h e q free opened service queue room released air hulls steady claim feed expected r clear
  have zones : e.zones = none := by rw [Entry.zones_eq, if_pos air]
  have ready := State.readied_grantTaken (s.toLead (.head h)) h
  have prepared : ((s.toLead (.head h)).grantTaken h).preparedFor h e = ((s.toLead (.head h)).grantTaken h, WaitSet.empty) := by
    rw [State.preparedFor, zones]
  obtain ⟨work, blade⟩ := ready.work_air queue hulls air (steady h)
  have made := exec_grant_made (q := q) free opened service queue room released hulls steady clear ready prepared
    (fun k _ has => by rw [zones] at has; cases has) work blade
  rw [State.governed_air air, zones] at made
  exact made

/-! ### A cutting segment with blade and zones ready -/

theorem ZoneRange.mem_list (r : ZoneRange) (k : Nat) : k ∈ r.list ↔ k < 16 ∧ r.first ≤ k ∧ k ≤ r.last := by
  simp [ZoneRange.list, ZoneRange.has, Config.zoneCount]

/-- The re-worked blade: the stop-delay timer, and then the demand that follows (R103, R105, R109). -/
theorem Head.reworkBlade_of {hd : Head} {stood jobOpen : Bool} {timer : Option Nat} {d : Demand}
    (runs : hd.stopTimerAfter stood jobOpen = timer)
    (asked : ({ hd with blade := { hd.blade with stopTimer := timer } } : Head).demandOf jobOpen = d) :
    (hd.reworkBlade stood jobOpen).blade = ({ hd.blade with stopTimer := timer } : Channel).setDemand hd.bladeParams d := by
  subst runs
  subst asked
  rfl

/-- The blade of a head in service in an open job that holds a cut is asked for CUT, and no stop delay runs (R103, R105). -/
theorem Head.reworkBlade_asked {hd : Head} (stood : Bool) (serves : hd.inService = true) (cuts : hd.cutCondition = true)
    (quiet : hd.hold.overdue = false) :
    (hd.reworkBlade stood true).blade = ({ hd.blade with stopTimer := none } : Channel).setDemand hd.bladeParams .cut := by
  have timer : hd.stopTimerAfter stood true = none := if_neg (by simp [Head.standsBy, cuts])
  have asked : ({ hd with blade := { hd.blade with stopTimer := none } } : Head).demandOf true = .cut := by
    have serves : ({ hd with blade := { hd.blade with stopTimer := none } } : Head).inService = true := serves
    have cuts : ({ hd with blade := { hd.blade with stopTimer := none } } : Head).cutCondition = true := cuts
    rw [Head.demandOf, if_neg (by rw [serves]; decide), if_pos cuts]
    exact if_neg (by rw [quiet]; decide)
  exact Head.reworkBlade_of timer asked

/-- A channel that runs at CUT notes that it is asked for it (R109). -/
theorem Channel.setDemand_runAtCut (p : BladeParams) {c : Channel} (ready : c.runAtCut = true) :
    c.setDemand p .cut = { c with demand := .cut } := by
  simp only [Channel.runAtCut, Bool.and_eq_true, decide_eq_true_eq] at ready
  obtain ⟨run, target⟩ := ready
  rw [Channel.setDemand]
  split
  · next same => rw [same]
  · unfold Channel.act
    simp only [run, target]

theorem State.readied_asked (s : State) (h : HeadId) (r : ZoneRange) :
    State.Readied s (((s.grantTaken h).modHead h Head.startIdle).modHead h fun hd => { hd with pendingReq := some r }) h
      (some ((s.head h).bladeParams.idleDelay * 1000)) where
  rest := by
    rw [State.grantTaken_eq]
    cases h <;> rfl
  other := by rw [State.head_modHead_other, State.head_modHead_other, State.grantTaken_head_other]
  own := ⟨(s.head h).grantTaken.lapse, some r, by
    rw [State.head_modHead_self, State.head_modHead_self, State.grantTaken_head]
    rfl⟩
  passed := by rw [State.markPassed_modHead, State.markPassed_modHead, State.markPassed_grantTaken]

/-- The preparations of a segment whose blade and zones are ready add no reason to wait (R68 to R70). -/
theorem State.preparedFor_ready {s : State} {h : HeadId} {e : Entry} {r : ZoneRange} (zones : e.zones = some r)
    (blade : (s.head h).blade.runAtCut = true) (held : ∀ k ∈ r.list, (s.zone k).st = .held) :
    s.preparedFor h e = ((s.modHead h Head.startIdle).modHead h fun hd => { hd with pendingReq := some r }, WaitSet.empty) := by
  rw [State.preparedFor, zones]
  show s.prepare h r = _
  rw [State.prepare, State.zoneRequest_satisfied (s := s.modHead h Head.startIdle) held, blade]
  rfl

/-- The channel of a head that runs at CUT when a cutting segment joins its window (R103 to R105). -/
theorem State.Readied.work_cut {s g : State} {h : HeadId} {idle : Option Nat} {e : Entry} {q : List Entry}
    (ready : State.Readied s g h idle) (queue : (s.head h).queue = e :: q) (hulls : (s.head h).ClaimIsHull)
    (cuts : e.seg.kind ≠ .air) (opened : s.job.state.isOpen = true) (service : (s.head h).service = .inService)
    (quiet : (s.head h).hold.overdue = false) (blade : (s.head h).blade.runAtCut = true) :
    (((g.grant h e).head h).reworkBlade ((s.head h).standsBy s.job.state.isOpen) s.job.state.isOpen).blade =
        { (s.head h).blade with idleTimer := none, stopTimer := none, demand := .cut } ∧
      ({ (g.grant h e).head h with
          blade := { (s.head h).blade with idleTimer := none, stopTimer := none, demand := .cut } } : Head).bladeHolds =
        (s.head h).bladeHolds := by
  obtain ⟨lapse, head⟩ := ready.head queue hulls
  rw [if_neg cuts] at head
  have holds : ((g.grant h e).head h).holdsCut = true := by
    rw [Head.holdsCut, head]
    simp [WinEntry.isCut, cuts]
  have channel : ((g.grant h e).head h).blade = { (s.head h).blade with idleTimer := none } := by rw [head]
  have after : ({ (s.head h).blade with idleTimer := none, stopTimer := none, demand := .cut } : Channel).runAtCut = true := blade
  refine ⟨?_, ?_⟩
  · rw [opened, Head.reworkBlade_asked _ (by rw [Head.inService, head]; simp [service])
      (by rw [Head.cutCondition, holds]; rfl) (by rw [head, quiet]), channel]
    exact Channel.setDemand_runAtCut _ blade
  · rw [Head.bladeHolds, Head.bladeHolds, after, blade]
    simp

/-- Settles O33: a GRANT of a cutting segment with blade and zones ready is made. -/
theorem cutIsGranted : Obligations.CutIsGranted := by
  intro s h e q free opened service queue room released cuts hulls steady run target under claim r clear
  have zones : e.zones = some ⟨e.seg.xlo / 2000, e.seg.xhi / 2000⟩ := by rw [Entry.zones_eq, if_neg cuts]
  have atCut : (s.head h).blade.runAtCut = true := by rw [Channel.runAtCut, run, target]; rfl
  have quiet : (s.head h).hold.overdue = false := by
    simp only [HoldSet.beyondBlade, Bool.or_eq_false_iff] at released
    exact released.2
  have ready := State.readied_asked (s.toLead (.head h)) h ⟨e.seg.xlo / 2000, e.seg.xhi / 2000⟩
  have blade : (((s.toLead (.head h)).grantTaken h).head h).blade.runAtCut = true := by
    rw [State.grantTaken_head]
    exact atCut
  have held (k : Nat) (member : k ∈ (⟨e.seg.xlo / 2000, e.seg.xhi / 2000⟩ : ZoneRange).list) :
      (((s.toLead (.head h)).grantTaken h).zone k).st = .held := by
    obtain ⟨lt, first, last⟩ := (ZoneRange.mem_list _ k).mp member
    exact under k lt first last
  obtain ⟨work, holds⟩ := ready.work_cut queue hulls cuts opened service quiet atCut
  have made := exec_grant_made (q := q) free opened service queue room released hulls steady clear ready
    (State.preparedFor_ready zones blade held) (fun k lt has => by
      rw [zones] at has
      have inside : k ∈ (⟨e.seg.xlo / 2000, e.seg.xhi / 2000⟩ : ZoneRange).list :=
        List.mem_filter.mpr ⟨List.mem_range.mpr lt, has⟩
      obtain ⟨-, first, last⟩ := (ZoneRange.mem_list _ k).mp inside
      exact under k lt first last) work holds
  rw [zones] at made
  exact made

end Sys2Proof.Machine

/-! PROOFS. A GRANT that prepares its blade and zones and waits for them (R68 to R70, R87, R88, R90, R107 to R109). -/

namespace Sys2Proof.Machine

/-! ### The zone request -/

theorem State.startZones_zone (ks : List Nat) (s : State) {j : Nat} (lt : j < s.zones.length) :
    (ks.foldl State.startZone s).zone j = if j ∈ ks then (s.zone j).start s.zoneSettings else s.zone j := by
  induction ks generalizing s with
  | nil => rfl
  | cons k ks ih =>
    rw [List.foldl_cons, ih _ (by rwa [State.startZone, State.setZone_length])]
    by_cases e : j = k
    · subst e
      have zone : (s.startZone j).zone j = (s.zone j).start s.zoneSettings := State.zone_setZone_self s _ lt
      rw [zone, if_pos (List.mem_cons_self ..)]
      exact ite_self (c := j ∈ ks) ((s.zone j).start s.zoneSettings)
    · have zone : (s.startZone k).zone j = s.zone j := State.zone_setZone_ne s _ e
      rw [zone]
      exact if_congr (by simp [e]) rfl rfl

theorem State.startZones_rest (ks : List Nat) (s : State) :
    ks.foldl State.startZone s = { s with zones := (ks.foldl State.startZone s).zones } := by
  induction ks generalizing s with
  | nil => rfl
  | cons k ks ih => exact ih (s.startZone k)

section ZoneRequest

variable (s : State) (h : HeadId) (r : ZoneRange)

/-- The state of a zone request before its zones are looked at (R88). -/
def State.requesting : State := s.modHead h fun hd => { hd with pendingReq := some r }

/-- The reasons to wait that a zone request brings (R70, R87, R90). -/
theorem State.zoneRequest_reasons : (s.zoneRequest h r).2.reasons =
    let faulted := r.list.any fun k => decide ((s.zone k).st = .fault)
    let room := (s.requesting h r).budgetTest h r
    { WaitSet.empty with
      zoneFaulted := faulted
      zoneBudget := !faulted && !s.allHeld r && !(s.offIn r).isEmpty && !room
      zonesSettling := !faulted && !s.allHeld r && ((s.offIn r).isEmpty || room) } := by
  have held : (s.requesting h r).allHeld r = s.allHeld r := rfl
  have off : (s.requesting h r).offIn r = s.offIn r := rfl
  have zone (k : Nat) : (s.requesting h r).zone k = s.zone k := rfl
  unfold State.zoneRequest
  rw [← State.requesting]
  dsimp only
  simp only [held, off, zone]
  split
  · next faulted => simp [faulted, ZoneOutcome.reasons, WaitSet.empty]
  · next sound =>
    have sound := Bool.eq_false_iff.mpr sound
    split
    · next held => simp [sound, held, ZoneOutcome.reasons, WaitSet.empty]
    · next lacks =>
      have lacks := Bool.eq_false_iff.mpr lacks
      split
      · next none => simp [sound, lacks, none, ZoneOutcome.reasons, WaitSet.empty]
      · next some =>
        have some := Bool.eq_false_iff.mpr some
        split
        · next fits => simp [sound, lacks, some, fits, ZoneOutcome.reasons, WaitSet.empty]
        · next full =>
          have full := Bool.eq_false_iff.mpr full
          split <;> simp [sound, lacks, some, full, ZoneOutcome.reasons, WaitSet.empty]

/-- What a zone request leaves: it starts every OFF zone of its range where it waits for zones to settle, and takes the free mark
where the budget is short (R87, R90). -/
theorem State.zoneRequest_eq : (s.zoneRequest h r).1 = { s.requesting h r with
    zones := if (s.zoneRequest h r).2.reasons.zonesSettling = true then ((s.offIn r).foldl State.startZone (s.requesting h r)).zones
      else s.zones
    mark := if (s.zoneRequest h r).2.reasons.zoneBudget = true ∧ s.mark = none then some ⟨h, 2000000⟩ else s.mark } := by
  have off : (s.requesting h r).offIn r = s.offIn r := rfl
  unfold State.zoneRequest
  rw [← State.requesting]
  dsimp only
  simp only [off]
  split
  · rfl
  · split
    · rfl
    · split
      · next none =>
        rw [List.isEmpty_iff.mp none]
        rfl
      · split
        · exact State.startZones_rest _ _
        · split
          · next free =>
            have free : s.mark = none := Option.isNone_iff_eq_none.mp free
            simp only [ZoneOutcome.reasons, free, and_self, if_true]
            rfl
          · next taken =>
            have taken : s.mark ≠ none := fun free => taken (Option.isNone_iff_eq_none.mpr free)
            simp only [ZoneOutcome.reasons, taken, and_false, if_false]
            rfl

end ZoneRequest

/-! ### The preparations -/

/-- What the budget test of head h over range r reserves for the other head (R90). -/
def State.reserveFor (s : State) (h : HeadId) (r : ZoneRange) : Nat :=
  match s.mark with
  | none => 0
  | some m => if m.holder = h then 0 else match (s.head m.holder).pendingReq with
    | none => 0
    | some x => (x.list.filter fun k => (s.zone k).st = .off ∧ r.has k = false).length

/-- The state whose zones a GRANT on head h asks for. -/
def State.asking (s : State) (h : HeadId) : State := (s.grantTaken h).modHead h Head.startIdle

section Asking

variable (s : State) (h : HeadId) (r : ZoneRange)

theorem State.asking_head_other (i : HeadId) (ne : i ≠ h) : ((s.asking h).requesting h r).head i = s.head i := by
  obtain rfl | rfl := HeadId.eq_or_other h i
  · exact absurd rfl ne
  · rw [State.requesting, State.asking, State.head_modHead_other, State.head_modHead_other, State.grantTaken_head_other]

theorem State.asking_mark : ((s.asking h).requesting h r).mark = s.mark.map fun m => if m.holder = h then ⟨h, 2000000⟩ else m := by
  rw [State.requesting, State.asking, State.grantTaken_eq]
  cases h <;> rfl

/-- The budget test of a GRANT (R90). -/
theorem State.asking_budgetTest : ((s.asking h).requesting h r).budgetTest h r =
    decide (s.activeCount + (s.offIn r).length + s.reserveFor h r ≤ s.zoneSettings.budget) := by
  have zone (k : Nat) : ((s.asking h).requesting h r).zone k = s.zone k := rfl
  have reserve : s.reserveFor h r = if (s.mark.map fun m => decide (m.holder = h)) = some false then
      (((s.asking h).requesting h r).reservedZones.filter fun k => !r.has k).length else 0 := by
    have mark := s.asking_mark h r
    unfold State.reserveFor State.reservedZones
    rw [mark]
    cases s.mark with
    | none => rfl
    | some m =>
      dsimp only [Option.map_some]
      by_cases holds : m.holder = h
      · rw [if_pos holds, if_neg (by simp [holds])]
      · rw [if_neg holds, if_pos (by simp [holds]), if_neg holds, s.asking_head_other h r m.holder holds]
        cases (s.head m.holder).pendingReq with
        | none => rfl
        | some x =>
          dsimp only
          rw [State.offIn, List.filter_filter]
          congr 1
          refine List.filter_congr fun k _ => ?_
          rw [zone, Bool.decide_and, Bool.and_comm]
          cases r.has k <;> rfl
  have mark := s.asking_mark h r
  unfold State.budgetTest
  rw [mark, reserve]
  cases s.mark with
  | none => rfl
  | some m =>
    dsimp only [Option.map_some]
    by_cases holds : m.holder = h
    · simp only [holds, if_true, decide_true, Option.some.injEq, Bool.true_eq_false, if_false]
      rfl
    · simp only [holds, if_false, decide_false, if_true]
      rfl

/-- The reasons for which a GRANT of zones r waits, its blade apart (R70). -/
def State.zoneWait : WaitSet :=
  let faulted := r.list.any fun k => decide ((s.zone k).st = .fault)
  let room := decide (s.activeCount + (s.offIn r).length + s.reserveFor h r ≤ s.zoneSettings.budget)
  { WaitSet.empty with
    zoneFaulted := faulted
    zoneBudget := !faulted && !s.allHeld r && !(s.offIn r).isEmpty && !room
    zonesSettling := !faulted && !s.allHeld r && ((s.offIn r).isEmpty || room) }

theorem State.asking_reasons : ((s.asking h).zoneRequest h r).2.reasons = s.zoneWait h r := by
  rw [State.zoneRequest_reasons, State.asking_budgetTest]
  rfl

/-- The state that the preparations of a GRANT leave before need is re-evaluated (R68, R69). -/
def State.askedFor : State := ((s.asking h).zoneRequest h r).1

theorem State.preparedFor_asked {e : Entry} (zones : e.zones = some r) : (s.grantTaken h).preparedFor h e =
    (s.askedFor h r, { s.zoneWait h r with bladeNotReady := !(s.head h).blade.runAtCut }) := by
  have blade : ((s.grantTaken h).head h).blade = (s.head h).blade := by rw [State.grantTaken_head]; rfl
  rw [State.preparedFor, zones, ← State.asking_reasons, ← blade]
  rfl

theorem State.askedFor_head : ∃ lapse, (s.askedFor h r).head h = { s.head h with
    lapse := lapse, pendingReq := some r
    blade := { (s.head h).blade with idleTimer := some ((s.head h).bladeParams.idleDelay * 1000) } } := by
  refine ⟨(s.head h).grantTaken.lapse, ?_⟩
  rw [State.askedFor, State.zoneRequest_head, State.head_modHead_self, State.asking, State.head_modHead_self, State.grantTaken_head]
  rfl

theorem State.askedFor_other : (s.askedFor h r).head h.other = s.head h.other := by
  rw [State.askedFor, State.zoneRequest_head, State.head_modHead_other, State.asking, State.head_modHead_other,
    State.grantTaken_head_other]

theorem State.askedFor_rest : s.askedFor h r =
    { s with heads := (s.askedFor h r).heads, zones := (s.askedFor h r).zones, mark := (s.askedFor h r).mark } := by
  rw [State.askedFor, State.zoneRequest_eq, State.requesting, State.asking, State.grantTaken_eq]
  cases h <;> rfl

theorem State.askedFor_mark : (s.askedFor h r).mark =
    if (s.zoneWait h r).zoneBudget = true ∧ s.mark = none then some ⟨h, 2000000⟩
    else s.mark.map fun m => if m.holder = h then ⟨h, 2000000⟩ else m := by
  have mark := s.asking_mark h r
  have mark : (s.asking h).mark = _ := mark
  rw [State.askedFor, State.zoneRequest_eq, State.asking_reasons]
  dsimp only
  rw [mark]
  exact if_congr (and_congr_right fun _ => Option.map_eq_none_iff) rfl rfl

/-- The zones that the preparations of a GRANT start (R87). -/
theorem State.askedFor_zone {k : Nat} (lt : k < s.zones.length) : (s.askedFor h r).zone k =
    if (s.zoneWait h r).zonesSettling = true ∧ k ∈ s.offIn r then (s.zone k).start s.zoneSettings else s.zone k := by
  have started := State.startZones_zone (s.offIn r) ((s.asking h).requesting h r) lt
  have off : (s.asking h).offIn r = s.offIn r := rfl
  have zones : (s.askedFor h r).zones = if (s.zoneWait h r).zonesSettling = true then
      ((s.offIn r).foldl State.startZone ((s.asking h).requesting h r)).zones else s.zones := by
    rw [State.askedFor, State.zoneRequest_eq, State.asking_reasons, off]
    rfl
  by_cases settles : (s.zoneWait h r).zonesSettling = true
  · rw [if_pos settles] at zones
    rw [State.zone_of_zones zones k, started]
    exact if_congr (by simp [settles]) rfl rfl
  · rw [if_neg settles] at zones
    rw [State.zone_of_zones zones k, if_neg fun starts => settles starts.1]

theorem State.askedFor_links : (s.askedFor h r).links = s.links := by rw [State.askedFor_rest]

end Asking

/-! ### Need after the preparations -/

theorem State.restarts_on (ks : List Nat) (s : State) {j : Nat} (on : (s.zone j).st.on = true) :
    (ks.foldl State.restartZone s).zone j = s.zone j := by
  induction ks generalizing s with
  | nil => rfl
  | cons k ks ih =>
    have zone : (s.restartZone k).zone j = s.zone j := by
      unfold State.restartZone
      split
      · next starts =>
        refine State.zone_setZone_ne s _ ?_
        rintro rfl
        rw [starts.1] at on
        cases on
      · rfl
    rw [List.foldl_cons, ih _ (by rwa [zone]), zone]

/-- A zone that is on and needed is as it was after a re-evaluation (R86, R95). -/
theorem State.reevaluate_on {s : State} {j : Nat} (need : s.needed j = true) (on : (s.zone j).st.on = true) :
    s.reevaluate.zone j = s.zone j := by
  have vented : ((List.range Config.zoneCount).foldl State.ventIfUnneeded s).zone j = s.zone j := by
    rw [State.vents_zone, if_neg (by simp [need])]
  unfold State.reevaluate
  dsimp only
  generalize (List.range Config.zoneCount).foldl State.ventIfUnneeded s = t at vented ⊢
  rw [← vented] at on
  split
  · exact (State.restarts_on _ t on).trans vented
  · exact vented

section Waiting

variable {s : State} {h : HeadId} {r : ZoneRange} (w : WaitSet)

/-- The body of a GRANT that waits after its preparations (R74, R86). -/
def State.preparing (s : State) (h : HeadId) (r : ZoneRange) (w : WaitSet) : State :=
  (s.askedFor h r).reevaluate.setWatch h w (some r)

theorem State.preparing_head : ∃ lapse, (s.preparing h r w).head h = { s.head h with
    lapse := lapse, pendingReq := some r, watch := ⟨w, some r⟩
    blade := { (s.head h).blade with idleTimer := some ((s.head h).bladeParams.idleDelay * 1000) } } := by
  obtain ⟨lapse, own⟩ := s.askedFor_head h r
  obtain ⟨v, told, -⟩ := State.reevaluate_told (s.askedFor h r) h
  refine ⟨lapse, ?_⟩
  rw [State.preparing, State.setWatch, State.head_modHead_self, told, own]

theorem State.preparing_other : ∃ v, (s.preparing h r w).head h.other = { s.head h.other with watch := v } ∧
    (v = (s.head h.other).watch ∨ v = Watch.empty) := by
  obtain ⟨v, told, from'⟩ := State.reevaluate_told (s.askedFor h r) h.other
  rw [State.askedFor_other] at told from'
  exact ⟨v, by rw [State.preparing, State.setWatch, State.head_modHead_other, told], from'⟩

theorem State.preparing_rest : s.preparing h r w = { s with
    heads := (s.preparing h r w).heads, links := (s.preparing h r w).links, zones := (s.preparing h r w).zones
    mark := (s.askedFor h r).mark } := by
  have asked := s.askedFor_rest h r
  have vented := State.reevaluate_rest (s.askedFor h r)
  have watched : s.preparing h r w = { (s.askedFor h r).reevaluate with heads := (s.preparing h r w).heads } := rfl
  rw [watched]
  generalize (s.preparing h r w).heads = heads
  generalize (s.askedFor h r).reevaluate = t at vented ⊢
  rw [vented]
  generalize (s.askedFor h r).mark = mark at asked ⊢
  rw [asked]

theorem State.preparing_hears : State.Hears wakes s (s.preparing h r w) :=
  ((State.Hears.of_links (s.askedFor_links h r)).trans (State.reevaluate_hears _)).trans (.of_links rfl)

theorem State.askedFor_needed {k : Nat} (member : k ∈ r.list) : (s.askedFor h r).needed k = true := by
  obtain ⟨lapse, own⟩ := s.askedFor_head h r
  have asks : rangeHas (some r) k = true := (List.mem_filter.mp member).2
  exact State.needed_of_head (h := h) (.inr (by rw [own]; exact asks))

/-- The zones that a GRANT starts pull (R87). -/
theorem State.preparing_started {k : Nat} (lt : k < s.zones.length) (member : k ∈ s.offIn r)
    (settles : (s.zoneWait h r).zonesSettling = true) : (s.preparing h r w).zone k = (s.zone k).start s.zoneSettings := by
  have zone : (s.askedFor h r).zone k = (s.zone k).start s.zoneSettings := by
    rw [State.askedFor_zone s h r lt, if_pos ⟨settles, member⟩]
  have kept := State.reevaluate_on (State.askedFor_needed (s := s) (h := h) (List.mem_filter.mp member).1) (by rw [zone]; rfl)
  rw [← zone, ← kept]
  rfl

/-- Of the zones it asks for a GRANT leaves those alone that it does not start (R86, R87). -/
theorem State.preparing_unstarted (sixteen : s.zones.length = 16) (orphans : NoOrphans s) {k : Nat} (member : k ∈ r.list)
    (stays : (s.zoneWait h r).zonesSettling = true → k ∉ s.offIn r) : (s.preparing h r w).zone k = s.zone k := by
  have zone {j : Nat} (lt : j < 16) := s.askedFor_zone h r (by rwa [sixteen] : j < s.zones.length)
  have asked : NoOrphans (s.askedFor h r) := by
    refine orphans.of_windows (fun i j cuts => ?_) fun j lt _ off => ?_
    · obtain ⟨lapse, own⟩ := s.askedFor_head h r
      obtain rfl | rfl := HeadId.eq_or_other h i
      · rw [own] at cuts
        exact cuts
      · rwa [State.askedFor_other] at cuts
    · rw [zone lt] at off
      split at off
      · cases off
      · exact off
  have lt : k < 16 := ((ZoneRange.mem_list r k).mp member).1
  have kept := State.reevaluate_zone asked lt
  rw [State.askedFor_needed member, if_neg (by simp), zone lt, if_neg fun starts => stays starts.1 starts.2] at kept
  exact kept

end Waiting

/-! ### The rise to CUT -/

/-- The first step above f_idle (R108). -/
theorem BladeParams.joinStep_eq_some {p : BladeParams} {i : Nat} (most : i < 9) (least : 1 ≤ i) (above : p.fIdle < p.stepRate .cut i)
    (first : ∀ j < i, 1 ≤ j → p.stepRate .cut j ≤ p.fIdle) : p.joinStep = some i := by
  have steps : [1, 2, 3, 4, 5, 6, 7, 8] = List.range' 1 8 := rfl
  rw [BladeParams.joinStep, steps, List.find?_range'_eq_some]
  refine ⟨decide_eq_true above, List.mem_range'_1.mpr ⟨least, by omega⟩, fun j pos lt => ?_⟩
  simpa using first j lt pos

theorem BladeParams.joinStep_eq_none {p : BladeParams} (none : ∀ i < 9, 1 ≤ i → p.stepRate .cut i ≤ p.fIdle) :
    p.joinStep = Option.none := by
  have steps : [1, 2, 3, 4, 5, 6, 7, 8] = List.range' 1 8 := rfl
  rw [BladeParams.joinStep, steps, List.find?_range'_eq_none]
  intro i least most
  simpa using none i (by omega) least

section Rise

variable (p : BladeParams) {c : Channel}

theorem Channel.setDemand_rises (rises : c.demand ≠ .cut) : c.setDemand p .cut = { c.act p .cut with demand := .cut } :=
  if_neg rises.symm

theorem Channel.act_cut_stopped (st : c.st = .stopped) : c.act p .cut = c.spinUp p .cut := by
  unfold Channel.act
  simp only [st]

theorem Channel.act_cut_spinup (st : c.st = .spinup) (target : c.target = .idle) :
    c.act p .cut = { c with target := .cut, commanded := p.stepRate .cut c.step } := by
  unfold Channel.act
  simp only [st, target]

theorem Channel.act_cut_raised (st : c.st = .run ∨ c.st = .settling) (target : c.target = .idle) :
    c.act p .cut = c.raiseToCut p := by
  unfold Channel.act
  obtain st | st := st <;> simp only [st, target]

end Rise

/-! ### The request -/

theorem State.zoneWait_ne_empty {s : State} {h : HeadId} {r : ZoneRange} (ready : Bool) (lacks : ready = false ∨ s.allHeld r = false) :
    ({ s.zoneWait h r with bladeNotReady := !ready } : WaitSet) ≠ WaitSet.empty := by
  intro none
  have blade := congrArg WaitSet.bladeNotReady none
  have faulted := congrArg WaitSet.zoneFaulted none
  have budget := congrArg WaitSet.zoneBudget none
  have settling := congrArg WaitSet.zonesSettling none
  simp only [State.zoneWait, WaitSet.empty] at blade faulted budget settling
  have ready : ready = true := by simpa using blade
  have unheld : s.allHeld r = false := lacks.resolve_left (by simp [ready])
  rw [faulted, unheld] at budget settling
  cases none : (s.offIn r).isEmpty with
  | true => rw [none] at settling; cases settling
  | false =>
    rw [none] at budget settling
    generalize decide (s.activeCount + (s.offIn r).length + s.reserveFor h r ≤ s.zoneSettings.budget) = room at budget settling
    cases room
    · cases budget
    · cases settling

theorem State.grantRequest_prepares {s : State} {h : HeadId} {e : Entry} {r : ZoneRange} (stop : s.grantStop h = .passes e)
    (hulls : (s.head h).ClaimIsHull) (clear : s.Clear h ⟨min (s.head h).claim.lo e.seg.xlo, max (s.head h).claim.hi e.seg.xhi⟩)
    (zones : e.zones = some r) (lacks : (s.head h).blade.runAtCut = false ∨ s.allHeld r = false) :
    let w : WaitSet := { s.zoneWait h r with bladeNotReady := !(s.head h).blade.runAtCut }
    s.grantRequest h = (State.closeEvent s (s.preparing h r w), .wait w e.seg.number) := by
  have passes : s.clearFor h ((s.head h).claimWith e) = true := by
    rw [Head.claimWith_eq hulls, State.clearFor_iff]
    exact clear
  rw [State.grantRequest, stop]
  dsimp only
  rw [State.grantFor_eq, if_neg (by rw [State.clearFor_grantTaken, passes]; decide), State.preparedFor_asked s h r zones,
    if_neg (State.zoneWait_ne_empty _ lacks), zones]
  rfl

section Prepared

variable {s : State} {h : HeadId} {r : ZoneRange} (w : WaitSet)

theorem State.preparing_job : (s.preparing h r w).job = s.job := by rw [State.preparing_rest]

theorem State.closeEvent_preparing_rest : State.closeEvent s (s.preparing h r w) = { s with
    heads := (State.closeEvent s (s.preparing h r w)).heads, links := (State.closeEvent s (s.preparing h r w)).links
    zones := (s.preparing h r w).zones, mark := (s.askedFor h r).mark } := by
  have closed := State.closeEvent_rest s (s.preparing h r w)
  have rest := State.preparing_rest (s := s) (h := h) (r := r) w
  generalize State.closeEvent s (s.preparing h r w) = t at closed ⊢
  generalize (s.preparing h r w).zones = zones at rest ⊢
  rw [rest] at closed
  exact closed

theorem State.closeEvent_preparing_path (i : HeadId) : SamePath s (State.closeEvent s (s.preparing h r w)) i := by
  simp only [SamePath, SameNumbering, SamePlace, State.closeEvent_head_queue, State.closeEvent_head_window,
    State.closeEvent_head_nextSeq, State.closeEvent_head_floor, State.closeEvent_head_service, State.closeEvent_head_standing,
    State.closeEvent_head_claim, State.closeEvent_head_runs, State.closeEvent_head_ref]
  obtain ⟨lapse, own⟩ := State.preparing_head (s := s) (h := h) (r := r) w
  obtain ⟨v, other, -⟩ := State.preparing_other (s := s) (h := h) (r := r) w
  obtain rfl | rfl := HeadId.eq_or_other h i
  · rw [own]
    exact ⟨rfl, rfl, rfl, rfl, ⟨rfl, rfl, rfl⟩, rfl, rfl⟩
  · rw [other]
    exact ⟨rfl, rfl, rfl, rfl, ⟨rfl, rfl, rfl⟩, rfl, rfl⟩

theorem State.closeEvent_preparing_settings : SameSettings s (State.closeEvent s (s.preparing h r w)) := by
  have heads (i : HeadId) : ((s.preparing h r w).head i).cut = (s.head i).cut ∧
      ((s.preparing h r w).head i).bladeParams = (s.head i).bladeParams ∧ ((s.preparing h r w).head i).guard = (s.head i).guard := by
    obtain ⟨lapse, own⟩ := State.preparing_head (s := s) (h := h) (r := r) w
    obtain ⟨v, other, -⟩ := State.preparing_other (s := s) (h := h) (r := r) w
    obtain rfl | rfl := HeadId.eq_or_other h i
    · rw [own]
      exact ⟨rfl, rfl, rfl⟩
    · rw [other]
      exact ⟨rfl, rfl, rfl⟩
  have rest := State.preparing_rest (s := s) (h := h) (r := r) w
  have same : SameSettings s (s.preparing h r w) := by
    refine ⟨?_, ?_, ?_, ?_, ?_, ?_, ?_, ?_, ?_, ?_, ?_, heads⟩ <;> rw [rest]
  exact same.closeEvent s

/-- The other head keeps all but its watch (R75, R134). -/
theorem State.closeEvent_preparing_other (sixteen : s.zones.length = 16) (steady : s.Steady h.other) :
    SameHead s (State.closeEvent s (s.preparing h r w)) h.other := by
  obtain ⟨v, other, from'⟩ := State.preparing_other (s := s) (h := h) (r := r) w
  have kept : (s.preparing h r w).Steady h.other := by
    refine steady.of_alike (by rw [other]; exact Head.alike_watch _ v) (by rw [other]; exact from') (by rw [State.preparing_job]) ?_
    intro k lt looks
    have need : (s.askedFor h r).needed k = true :=
      State.needed_of_head (h := h.other) (by rw [State.askedFor_other]; exact looks)
    have zone : ((s.askedFor h r).zone k).st = .held ↔ (s.zone k).st = .held := by
      rw [State.askedFor_zone s h r (by rw [sixteen]; exact lt)]
      split
      · next starts =>
        have off : (s.zone k).st = .off := by simpa using (List.mem_filter.mp starts.2).2
        rw [off]
        exact iff_of_false (by simp [Zone.start]) (by simp)
      · exact Iff.rfl
    rw [← zone, ← State.reevaluate_held need]
    rfl
  have demand := kept.demandNow
  obtain ⟨holds, overdue, -, -, lapse⟩ := kept
  have closed := State.closeEvent_keeps (b := s) holds overdue.line demand lapse (by rw [other, State.preparing_job]; rfl)
  rw [SameHead]
  conv_lhs => rw [closed, other]

/-- The channel of a head whose GRANT waits after its preparations is asked for CUT (R69, R103). -/
theorem State.closeEvent_preparing_blade (opened : s.job.state.isOpen = true) (service : (s.head h).service = .inService)
    (quiet : (s.head h).hold.overdue = false) : ((State.closeEvent s (s.preparing h r w)).head h).blade =
      ({ (s.head h).blade with idleTimer := some ((s.head h).bladeParams.idleDelay * 1000), stopTimer := none } : Channel).setDemand
        (s.head h).bladeParams .cut := by
  obtain ⟨lapse, own⟩ := State.preparing_head (s := s) (h := h) (r := r) w
  rw [State.closeEvent_blade, State.preparing_job, opened, Head.reworkBlade_asked _ (by rw [Head.inService, own]; simp [service])
    (by simp [Head.cutCondition, own]) (by rw [own, quiet]), own]

end Prepared

/-- What a demand that rises to CUT makes of a channel, state by state (R107 to R109). -/
theorem Channel.setDemand_cut {c c' : Channel} {p : BladeParams} (is : c' = c.setDemand p .cut) :
    (c.demand = .cut → c'.st = c.st ∧ c'.target = c.target ∧ c'.commanded = c.commanded) ∧
    (c.demand ≠ .cut →
      (c.st = .stopped → c'.st = .spinup ∧ c'.target = .cut ∧ c'.step = 1 ∧ c'.stepCount = 0 ∧ c'.brake = false ∧
        c'.pulseSeen = false ∧ c'.watchLeft = some 1000000 ∧ c'.commanded = p.stepRate .cut 1) ∧
      (c.st = .spinup → c.target = .idle → c'.st = .spinup ∧ c'.target = .cut ∧ c'.step = c.step ∧
        c'.stepCount = c.stepCount ∧ c'.commanded = p.stepRate .cut c.step) ∧
      ((c.st = .run ∨ c.st = .settling) → c.target = .idle →
        (∀ i < 9, 1 ≤ i → p.fIdle < p.stepRate .cut i → (∀ j < i, 1 ≤ j → p.stepRate .cut j ≤ p.fIdle) →
          c'.st = .spinup ∧ c'.target = .cut ∧ c'.step = i ∧ c'.stepCount = 0 ∧ c'.commanded = p.stepRate .cut i ∧
            c'.watchLeft = some 1000000) ∧
        ((∀ i < 9, 1 ≤ i → p.stepRate .cut i ≤ p.fIdle) →
          c'.st = .settling ∧ c'.target = .cut ∧ c'.commanded = p.fCut ∧ c'.settleCount = 0 ∧ c'.settleStrokes = 0)) ∧
      ((c.st = .retryWait ∨ c.st = .faulted) → c'.st = c.st ∧ c'.brake = c.brake)) := by
  subst is
  refine ⟨fun same => ?_, fun rises => ?_⟩
  · rw [Channel.setDemand, if_pos same.symm]
    exact ⟨rfl, rfl, rfl⟩
  · rw [Channel.setDemand_rises p rises]
    refine ⟨fun st => ?_, fun st target => ?_, fun st target => ⟨fun i most least above first => ?_, fun none => ?_⟩, fun out => ?_⟩
    · rw [Channel.act_cut_stopped p st]
      exact ⟨rfl, rfl, rfl, rfl, rfl, rfl, rfl, rfl⟩
    · rw [Channel.act_cut_spinup p st target]
      exact ⟨st, rfl, rfl, rfl, rfl⟩
    · rw [Channel.act_cut_raised p st target, Channel.raiseToCut, BladeParams.joinStep_eq_some most least above first]
      exact ⟨rfl, rfl, rfl, rfl, rfl, rfl⟩
    · rw [Channel.act_cut_raised p st target, Channel.raiseToCut, BladeParams.joinStep_eq_none none]
      exact ⟨rfl, rfl, rfl, rfl, rfl⟩
    · rw [Channel.act_of_out p .cut out]
      exact ⟨rfl, rfl⟩

/-- Settles O35: a GRANT that lacks its blade or a zone prepares them and waits. -/
theorem preparationsAreMade : Obligations.PreparationsAreMade := by
  intro s h e q free opened service queue room released cuts hulls sixteen clear r ready faulted held off reserved fits lacks
  have zones : e.zones = some r := by rw [Entry.zones_eq, if_neg cuts]
  have quiet : (s.head h).hold.overdue = false := by
    simp only [HoldSet.beyondBlade, Bool.or_eq_false_iff] at released
    exact released.2
  have stop : (s.toLead (.head h)).grantStop h = .passes e := State.grantStop_ready (s := s.toLead (.head h)) opened service queue room released
  have run := State.grantRequest_prepares (s := s.toLead (.head h)) stop hulls clear zones lacks
  generalize is : ({ (s.toLead (.head h)).zoneWait h r with bladeNotReady := !((s.toLead (.head h)).head h).blade.runAtCut } : WaitSet) = w
    at run
  have hears := State.preparing_hears (s := s.toLead (.head h)) (h := h) (r := r) w
  have closed := hears.taken (u := fun _ => AttSet.ofHoldChanged.union AttSet.ofWaitCleared) wakes_below_closes
    (closes_below _ _)
  obtain ⟨t, next, took⟩ := exec_taken (c := .grant (.head h)) (r := .grant) rfl free (permitted_grant h) run closed
  have rest := took.rest
  rw [State.closeEvent_preparing_rest] at rest
  have blade := State.closeEvent_preparing_blade (s := s.toLead (.head h)) (h := h) (r := r) w opened service quiet
  obtain ⟨lapse, own⟩ := State.preparing_head (s := s.toLead (.head h)) (h := h) (r := r) w
  have settles : w.zonesSettling = ((s.toLead (.head h)).zoneWait h r).zonesSettling := by rw [← is]
  have budget : w.zoneBudget = ((s.toLead (.head h)).zoneWait h r).zoneBudget := by rw [← is]
  have zone (k : Nat) : t.zone k = ((s.toLead (.head h)).preparing h r w).zone k := by rw [rest]; rfl
  refine ⟨t, w, next, took.answers, ?_, by rw [rest]; rfl, ⟨by rw [rest]; rfl, by rw [rest]; rfl⟩, fun i => ?_, ?_, ?_, ?_, ?_,
    took.raisesOnly (closed.raisesOnly fun _ => AttSet.below_refl _), fun steady => ?_, ?_, ?_, fun settling k member => ?_,
    fun orphans k member stays => ?_, ?_⟩
  · rw [took.rest]
    exact State.closeEvent_preparing_settings (s := s.toLead (.head h)) w
  · rw [took.rest]
    exact State.closeEvent_preparing_path (s := s.toLead (.head h)) w i
  · rw [took.head, State.closeEvent_watch, own, ← is]
    rfl
  · rw [took.head, State.closeEvent_head_pendingReq, own]
  · rw [took.head, State.closeEvent_idleTimer, own]
    rfl
  · rw [took.head, blade]
    exact Channel.setDemand_demand ..
  · rw [SameHead, took.head]
    exact State.closeEvent_preparing_other (s := s.toLead (.head h)) w sixteen (steady h.other)
  · rw [← is, decide_not]
    rfl
  · rw [budget, rest]
    exact State.askedFor_mark (s.toLead (.head h)) h r
  · have lt : k < s.zones.length := by
      rw [sixteen]
      exact ((ZoneRange.mem_list r k).mp (List.mem_filter.mp member).1).1
    rw [zone, State.preparing_started (s := s.toLead (.head h)) w lt member (settles ▸ settling)]
    exact ⟨rfl, rfl, rfl⟩
  · rw [zone]
    exact State.preparing_unstarted (s := s.toLead (.head h)) w sixteen orphans member fun settling => stays (settles.trans settling)
  · exact Channel.setDemand_cut
      (c := { (s.head h).blade with idleTimer := some ((s.head h).bladeParams.idleDelay * 1000), stopTimer := none })
      ((congrArg Head.blade (took.head h)).trans blade)

end Sys2Proof.Machine

/-! PROOFS. Timers that run out: what every expiry shares, and the lapse of a request and of the budget mark (R88, R91). -/

namespace Sys2Proof.Machine

/-! ### Time, and one event -/

theorem State.elapse_zone_st (s : State) (d k : Nat) : ((s.elapse d).zone k).st = (s.zone k).st := State.zone_elapse_st d s k

/-- Time keeps a head at its rules (log 1). -/
theorem State.Steady.elapse {s : State} {h : HeadId} (steady : s.Steady h) (d : Nat) : (s.elapse d).Steady h := by
  have demandNow := steady.demandNow
  have rests := steady.offRests
  obtain ⟨holds, overdue, watch, -, lapse⟩ := steady
  obtain ⟨holds', demand'⟩ := State.Settled.elapse (s := s) (h := h) ⟨holds, demandNow⟩ d
  refine ⟨holds', ?_, ?_, (State.demandFollows_iff ..).mpr ⟨demand', ?_⟩, ?_⟩
  · rw [State.head_elapse]
    exact overdue.elapse d
  · rw [State.head_elapse]
    exact watch
  · rw [State.head_elapse]
    exact rests
  · rw [State.lapseRunsWhenHeld_iff] at lapse ⊢
    rw [State.head_elapse, Head.elapse_lapse, Head.elapse_pendingReq, timerAfter_isSome, lapse]
    cases (s.head h).pendingReq with
    | none => rfl
    | some r => simp [State.allHeld_of_states (s.elapse_states d)]

/-- Closing an event leaves a head's path as the body left it. -/
theorem State.closeEvent_samePath {s b : State} {i : HeadId} (a : State) (path : SamePath s b i) :
    SamePath s (State.closeEvent a b) i := by
  simp only [SamePath, SameNumbering, SamePlace, State.closeEvent_head_queue, State.closeEvent_head_window,
    State.closeEvent_head_nextSeq, State.closeEvent_head_floor, State.closeEvent_head_service, State.closeEvent_head_standing,
    State.closeEvent_head_claim, State.closeEvent_head_runs, State.closeEvent_head_ref]
  exact path

theorem State.samePath_elapse (s : State) (d : Nat) (i : HeadId) : SamePath s (s.elapse d) i := by
  rw [SamePath, SameNumbering, SamePlace, State.head_elapse]
  exact ⟨rfl, rfl, rfl, rfl, ⟨rfl, rfl, rfl⟩, rfl, rfl⟩

theorem State.markPassed_elapse (s : State) (d : Nat) {m : Mark} (mark : s.mark = some m) :
    (s.elapse d).markPassed m.holder = s.markPassed m.holder := by
  have after : (s.elapse d).mark = some { m with left := m.left - d } := by
    rw [State.elapse, mark]
    rfl
  unfold State.markPassed
  rw [after, mark, State.head_elapse]
  dsimp only
  rw [if_pos rfl, if_pos rfl]
  rfl

section Expired

variable {s b : State} {left : Nat} {v u : LinkId → AttSet} (body : State.Hears v (s.elapse left) b)

include body

/-- The lines are quiet at an expiry (log 2). -/
theorem State.expired_quiet : LinesQuiet s (State.closeEvent (s.elapse left) b) := fun l =>
  (((State.Hears.of_links (u := fun _ => ⟨true, true, true, true, true, true, true⟩) (s := s) (t := s.elapse left) rfl).trans
    (body.mono fun _ => by simp [AttSet.below_iff])).trans
      ((State.closeEvent_hears (s.elapse left) b).mono fun _ => by simp [AttSet.below_iff])).sameLine l

theorem State.expired_hears (more : ∀ l, (v l).Below (u l))
    (closing : ∀ l, (closes (s.elapse left) (State.closeEvent (s.elapse left) b) l).Below (u l)) :
    State.Hears u s (State.closeEvent (s.elapse left) b) :=
  (State.Hears.of_links (s := s) (t := s.elapse left) rfl).trans (body.taken more closing)

end Expired

/-- An expiry of head h leaves the other head as the time leaves it. -/
theorem State.expired_other {a b : State} {h : HeadId} (steady : a.Steady h.other) (other : b.head h.other = a.head h.other)
    (job : b.job = a.job) (zones : b.zones = a.zones) (claim : (b.head h).claim = (a.head h).claim) :
    (State.closeEvent a b).head h.other = a.head h.other := by
  have still : b.Steady h.other := steady.of_alike (by rw [other]; exact .refl _) (.inl (by rw [other])) (by rw [job])
    (Head.sameHeld_of_states _ (State.zoneStates_of_zones zones))
  have back : h.other.other = h := by cases h <;> rfl
  rw [State.closeEvent_steady still (by rw [other, job]) (fun _ => by rw [back, claim]), other]

/-! ### The lapse of a request -/

section Lapse

variable (a : State) (h : HeadId)

theorem State.lapseRequest_head (i : HeadId) : ∃ w, (State.lapseRequest h a).head i =
    { (a.modHead h fun hd => { hd with pendingReq := none }).head i with watch := w } := by
  obtain ⟨w, e, -⟩ := State.reevaluate_told (a.modHead h fun hd => { hd with pendingReq := none }) i
  exact ⟨w, e⟩

theorem State.lapseRequest_hears : State.Hears wakes a (State.lapseRequest h a) :=
  (State.Hears.of_links (s := a) (t := a.modHead h fun hd => { hd with pendingReq := none }) rfl).trans (State.reevaluate_hears _)

theorem State.lapseRequest_path (i : HeadId) : SamePath a (State.lapseRequest h a) i := by
  obtain ⟨w, e⟩ := a.lapseRequest_head h i
  rw [SamePath, SameNumbering, SamePlace, e]
  obtain rfl | rfl := HeadId.eq_or_other h i
  · rw [State.head_modHead_self]
    exact ⟨rfl, rfl, rfl, rfl, ⟨rfl, rfl, rfl⟩, rfl, rfl⟩
  · rw [State.head_modHead_other]
    exact ⟨rfl, rfl, rfl, rfl, ⟨rfl, rfl, rfl⟩, rfl, rfl⟩

theorem State.lapseRequest_vents (orphans : NoOrphans a) : VentsUnneeded a (State.closeEvent a (State.lapseRequest h a)) := by
  have still : NoOrphans (a.modHead h fun hd => { hd with pendingReq := none }) := orphans.modHead fun _ cuts => cuts
  have told := State.reevaluate_told (a.modHead h fun hd => { hd with pendingReq := none })
  have vents : VentsUnneeded a (State.lapseRequest h a) := by
    intro k lt
    have needed : (State.lapseRequest h a).needed k = (a.modHead h fun hd => { hd with pendingReq := none }).needed k :=
      State.needed_congr (fun i => told.window i) (fun i => (told.alike i).request) (State.reevaluate_pieces (a.modHead h fun hd => { hd with pendingReq := none })) k
    rw [needed]
    exact State.reevaluate_zone still lt
  exact vents.closed a

end Lapse

theorem NoOrphans.elapse {s : State} (orphans : NoOrphans s) (d : Nat) : NoOrphans (s.elapse d) := by
  refine orphans.of_windows (fun i k cuts => ?_) fun k _ _ off => ?_
  · rwa [State.head_elapse] at cuts
  · rwa [State.elapse_zone_st] at off

theorem SamePath.trans {s t u : State} {i : HeadId} (one : SamePath s t i) (two : SamePath t u i) : SamePath s u i := by
  obtain ⟨queue, window, ref, service, ⟨next, runs, floor⟩, standing, claim⟩ := one
  obtain ⟨queue', window', ref', service', ⟨next', runs', floor'⟩, standing', claim'⟩ := two
  exact ⟨queue'.trans queue, window'.trans window, ref'.trans ref, service'.trans service,
    ⟨next'.trans next, runs'.trans runs, floor'.trans floor⟩, standing'.trans standing, claim'.trans claim⟩

/-! ### The mark's expiry -/

/-- A watch that ends is empty, and WAIT-CLEARED is raised on its head's link (R75). -/
theorem State.wake_ends (s : State) (h : HeadId) :
    ((s.wake h).head h).watch = Watch.empty ∧ ((s.wake h).link (.head h)).attention.waitCleared = true := by
  have link : (s.wake h).link (.head h) = (s.raise (.head h) AttSet.ofWaitCleared).link (.head h) := rfl
  refine ⟨by rw [State.head_wake_self], ?_⟩
  rw [link, State.link_raise_self]
  simp [AttSet.union, AttSet.ofWaitCleared]

/-- Where the mark passes, the watch it passes to ends (R75, R91). -/
theorem State.dropMark_passes {a : State} {h : HeadId} {m : Mark} (mark : a.mark = some m) (holds : m.holder = h)
    (passes : a.markPassed h ≠ none) :
    ((a.dropMark h).head h.other).watch = Watch.empty ∧ ((a.dropMark h).link (.head h.other)).attention.waitCleared = true := by
  unfold State.markPassed at passes
  rw [mark] at passes
  dsimp only at passes
  rw [if_pos holds] at passes
  by_cases watched : (a.head h.other).watch.reasons.zoneBudget = true
  · unfold State.dropMark
    rw [mark]
    dsimp only
    rw [if_pos holds, if_pos watched]
    exact State.wake_ends _ h.other
  · rw [if_neg watched] at passes
    exact absurd rfl passes

/-- Settles O41: the lapse of a pending request, and the expiry of the budget mark. -/
theorem requestsLapseAndMarksExpire : Obligations.RequestsLapseAndMarksExpire := by
  intro s
  refine ⟨fun h none => ?_, fun h left runs => ?_, fun none => ?_, fun m mark => ?_⟩
  · show Host.Outcome.next (s.lapseExpiry h) = _
    rw [State.lapseExpiry, none]
    rfl
  · have taken : exec (.pendingRequestLapse h) s =
        .next (State.closeEvent (s.elapse left) (State.lapseRequest h (s.elapse left))) := by
      show Host.Outcome.next (s.lapseExpiry h) = _
      rw [State.lapseExpiry, runs]
      rfl
    have body := State.lapseRequest_hears (s.elapse left) h
    have hears := State.expired_hears body (u := fun _ => AttSet.ofHoldChanged.union AttSet.ofWaitCleared) wakes_below_closes
      (closes_below _ _)
    obtain ⟨w, own⟩ := (s.elapse left).lapseRequest_head h h
    obtain ⟨v, other⟩ := (s.elapse left).lapseRequest_head h h.other
    rw [State.head_modHead_self] at own
    rw [State.head_modHead_other, State.head_elapse] at other
    refine ⟨_, taken, State.closeEvent_reevaluate_rest _ _, State.expired_quiet body,
      hears.raisesOnly fun _ => AttSet.below_refl _,
      fun i => State.closeEvent_samePath _ ((s.samePath_elapse left i).trans ((s.elapse left).lapseRequest_path h i)), ?_, ?_, ?_,
      fun orphans _ => (s.elapse left).lapseRequest_vents h (orphans.elapse left)⟩
    · rw [State.closeEvent_head_pendingReq, own]
    · rw [State.closeEvent_lapse, State.lapseNow_none (by rw [own])]
    · rw [State.closeEvent_head_pendingReq, other]
      rfl
  · show Host.Outcome.next s.markExpiry = _
    rw [State.markExpiry, none]
  · have taken : exec .budgetMarkExpiry s =
        .next (State.closeEvent (s.elapse m.left) ((s.elapse m.left).dropMark m.holder)) := by
      show Host.Outcome.next s.markExpiry = _
      rw [State.markExpiry, mark]
      rfl
    have after : (s.elapse m.left).mark = some { m with left := m.left - m.left } := by
      rw [State.elapse, mark]
      rfl
    have body := State.dropMark_hears (s.elapse m.left) m.holder
    have hears := State.expired_hears body (u := fun _ => AttSet.ofHoldChanged.union AttSet.ofWaitCleared) wakes_below_closes
      (closes_below _ _)
    have told := State.dropMark_told (s.elapse m.left) m.holder
    have rest := State.closeEvent_rest (s.elapse m.left) ((s.elapse m.left).dropMark m.holder)
    have dropped := State.dropMark_rest (s.elapse m.left) m.holder
    have passed : (State.closeEvent (s.elapse m.left) ((s.elapse m.left).dropMark m.holder)).mark = s.markPassed m.holder := by
      rw [rest, dropped, State.markPassed_elapse s m.left mark]
    refine ⟨_, taken, ?_, State.expired_quiet body, hears.raisesOnly fun _ => AttSet.below_refl _, fun i => ?_, passed,
      fun i => ?_, fun passes => ?_⟩
    · generalize State.closeEvent (s.elapse m.left) ((s.elapse m.left).dropMark m.holder) = t at rest ⊢
      rw [dropped] at rest
      rw [rest]
    · obtain ⟨w, e, -⟩ := told i
      refine State.closeEvent_samePath _ ((s.samePath_elapse m.left i).trans ?_)
      rw [SamePath, SameNumbering, SamePlace, e]
      exact ⟨rfl, rfl, rfl, rfl, ⟨rfl, rfl, rfl⟩, rfl, rfl⟩
    · obtain ⟨w, e, -⟩ := told i
      rw [State.closeEvent_head_pendingReq, e, State.head_elapse]
      rfl
    · rw [passed, ← State.markPassed_elapse s m.left mark] at passes
      obtain ⟨watch, cleared⟩ := State.dropMark_passes after rfl passes
      exact ⟨State.closeEvent_watch_empty watch,
        (State.closeEvent_hears _ _).stays (.head m.holder.other) AttSet.waitCleared (fun _ _ => rfl) cleared⟩

end Sys2Proof.Machine

/-! PROOFS. The overdue timer and the delays of a blade run out (R103 to R105, R109, R117, R137). -/

namespace Sys2Proof.Machine

/-! ### The frame of an expiry -/

/-- What an expiry of head h leaves alone: its body touches no more than that head, off its path, and the links (log 2). -/
theorem State.expired_frame {s b : State} {left : Nat} {h : HeadId} {v : LinkId → AttSet} (body : State.Hears v (s.elapse left) b)
    (rest : b = { s.elapse left with heads := b.heads, links := b.links }) (other : b.head h.other = (s.elapse left).head h.other)
    (path : SamePath (s.elapse left) b h) :
    let t := State.closeEvent (s.elapse left) b
    t = { s.elapse left with heads := t.heads, links := t.links } ∧ LinesQuiet s t ∧ (∀ i, SamePath s t i) ∧
      (s.Steady h.other → t.head h.other = (s.head h.other).elapse left) := by
  refine ⟨?_, State.expired_quiet body, fun i => State.closeEvent_samePath _ ((s.samePath_elapse left i).trans ?_), fun steady => ?_⟩
  · have closed := State.closeEvent_rest (s.elapse left) b
    generalize State.closeEvent (s.elapse left) b = t at closed ⊢
    rw [rest] at closed
    exact closed
  · obtain rfl | rfl := HeadId.eq_or_other h i
    · exact path
    · rw [SamePath, SameNumbering, SamePlace, other]
      exact ⟨rfl, rfl, rfl, rfl, ⟨rfl, rfl, rfl⟩, rfl, rfl⟩
  · obtain ⟨-, -, -, -, -, -, claim⟩ := path
    rw [← State.head_elapse]
    exact State.expired_other (steady.elapse left) other (by rw [rest]) (by rw [rest]) claim

/-! ### A demand that falls -/

theorem Head.demandOf_cut {hd : Head} {jobOpen : Bool} (cut : hd.demandOf jobOpen = .cut) :
    jobOpen = true ∧ hd.inService = true ∧ hd.cutCondition = true := by
  unfold Head.demandOf at cut
  split at cut
  · cases cut
  · next serves =>
    rw [Bool.or_eq_true, not_or] at serves
    obtain ⟨opened, inService⟩ := serves
    split at cut
    · next holds => exact ⟨by simpa using opened, by simpa using inService, holds⟩
    · split at cut <;> cases cut

/-- The blade of a suspended head that would demand CUT is asked for IDLE, and no stop delay runs (R103, R105). -/
theorem Head.reworkBlade_forced {hd : Head} (stood : Bool) (serves : hd.inService = true) (cuts : hd.cutCondition = true)
    (suspended : hd.hold.overdue = true) :
    (hd.reworkBlade stood true).blade = ({ hd.blade with stopTimer := none } : Channel).setDemand hd.bladeParams .idle := by
  have timer : hd.stopTimerAfter stood true = none := if_neg (by simp [Head.standsBy, cuts])
  have asked : ({ hd with blade := { hd.blade with stopTimer := none } } : Head).demandOf true = .idle := by
    have serves : ({ hd with blade := { hd.blade with stopTimer := none } } : Head).inService = true := serves
    have cuts : ({ hd with blade := { hd.blade with stopTimer := none } } : Head).cutCondition = true := cuts
    rw [Head.demandOf, if_neg (by rw [serves]; decide), if_pos cuts]
    exact if_pos suspended
  exact Head.reworkBlade_of timer asked

/-- A demand that falls from CUT to IDLE lowers a channel that runs at CUT (R109). -/
theorem Channel.setDemand_lowers (p : BladeParams) {c : Channel} (demand : c.demand = .cut) (runs : c.runAtCut = true) :
    c.setDemand p .idle = { c.settle p .idle with demand := .idle } := by
  simp only [Channel.runAtCut, Bool.and_eq_true, decide_eq_true_eq] at runs
  obtain ⟨run, target⟩ := runs
  rw [Channel.setDemand, if_neg (by rw [demand]; decide)]
  unfold Channel.act
  simp only [run, target]

/-! ### The overdue timer -/

theorem Head.OverdueFollows.counting {hd : Head} (follows : hd.OverdueFollows) (counts : hd.overdue.st = .counting) :
    hd.hold.overdue = false := by
  unfold Head.OverdueFollows at follows
  split at follows
  · exact follows.2
  · split at follows
    · rw [counts] at follows
      cases follows
    · next quiet => exact Bool.eq_false_iff.mpr quiet

section Suspend

variable (a : State) (h : HeadId)

theorem State.suspend_head : (State.suspend h a).head h =
    { a.head h with hold := { (a.head h).hold with overdue := true }, overdue := ⟨.stopped, 0, 0⟩ } := by
  cases h <;> rfl

theorem State.suspend_other : (State.suspend h a).head h.other = a.head h.other := by
  cases h <;> rfl

theorem State.suspend_rest :
    State.suspend h a = { a with heads := (State.suspend h a).heads, links := (State.suspend h a).links } := by
  cases h <;> rfl

theorem State.suspend_hears : State.Hears (fun _ => AttSet.ofHeadSuspended) a (State.suspend h a) :=
  ((State.Hears.of_links (s := a) rfl).trans (State.raise_hears _ (.head h) (AttSet.below_refl _))).trans
    (State.raise_hears _ .cell (AttSet.below_refl _))

theorem State.suspend_raises : ((State.suspend h a).link (.head h)).attention.headSuspended = true ∧
    ((State.suspend h a).link .cell).attention.headSuspended = true := by
  refine ⟨?_, ?_⟩
  · rw [State.suspend, State.link_raise_ne _ _ (fun same => by cases same), State.link_raise_self]
    simp [AttSet.union, AttSet.ofHeadSuspended]
  · rw [State.suspend, State.link_raise_self]
    simp [AttSet.union, AttSet.ofHeadSuspended]

end Suspend

theorem Head.elapse_cutCondition (d : Nat) (hd : Head) : (hd.elapse d).cutCondition = hd.cutCondition := by
  rw [Head.cutCondition, Head.cutCondition, Head.elapse_blade]
  exact congrArg (_ || ·) (timerAfter_isSome d hd.blade.idleTimer)

/-- The channel of a suspended head whose demand was CUT is asked for IDLE (R103, R137). -/
theorem State.Steady.closeEvent_suspend {s : State} {h : HeadId} (steady : s.Steady h) {left : Nat}
    (cut : (s.head h).blade.demand = .cut) :
    ((State.closeEvent (s.elapse left) (State.suspend h (s.elapse left))).head h).blade =
      ({ (s.head h).blade.elapse left with stopTimer := none } : Channel).setDemand (s.head h).bladeParams .idle := by
  have own := (s.elapse left).suspend_head h
  have job : (State.suspend h (s.elapse left)).job = s.job := by
    rw [(s.elapse left).suspend_rest h]
    rfl
  obtain ⟨opened, serves, cuts⟩ := Head.demandOf_cut (steady.demandNow.1.symm.trans cut)
  have condition : ((s.head h).elapse left).cutCondition = true := by rw [Head.elapse_cutCondition, cuts]
  rw [State.head_elapse] at own
  rw [State.closeEvent_blade, job, opened, Head.reworkBlade_forced _ (by rw [own]; exact serves) (by rw [own]; exact condition)
    (by rw [own]), own]
  rfl

theorem closes_below_suspended (b t : State) (l : LinkId) :
    (closes b t l).Below ((AttSet.ofWaitCleared.union AttSet.ofHoldChanged).union AttSet.ofHeadSuspended) := by
  cases l <;>
    simp [AttSet.below_iff, closes, AttSet.union, AttSet.ofHoldChanged, AttSet.ofWaitCleared, AttSet.ofHeadSuspended, AttSet.empty]

/-- Settles O42: a COUNTING overdue timer that runs out suspends the head. -/
theorem overdueSuspendsTheHead : Obligations.OverdueSuspendsTheHead := by
  refine fun s h => ⟨fun still => ?_, fun counts steady => ?_⟩
  · have none : (s.head h).overdue.left = none := by
      unfold Overdue.left
      cases st : (s.head h).overdue.st with
      | counting => exact absurd st still
      | stopped | paused => rfl
    show Host.Outcome.next (s.overdueExpiry h) = _
    rw [State.overdueExpiry, none]
    rfl
  · intro left
    have taken : exec (.overdueExpiry h) s = .next (State.closeEvent (s.elapse left) (State.suspend h (s.elapse left))) := by
      have runs : (s.head h).overdue.left = some left := by rw [Overdue.left, counts]
      show Host.Outcome.next (s.overdueExpiry h) = _
      rw [State.overdueExpiry, runs]
      rfl
    have body := State.suspend_hears (s.elapse left) h
    have hears := State.expired_hears body
      (u := fun _ => (AttSet.ofWaitCleared.union AttSet.ofHoldChanged).union AttSet.ofHeadSuspended)
      (fun _ => by simp [AttSet.below_iff, AttSet.union, AttSet.ofHoldChanged, AttSet.ofWaitCleared, AttSet.ofHeadSuspended, AttSet.empty])
      (closes_below_suspended _ _)
    have own := (s.elapse left).suspend_head h
    rw [State.head_elapse] at own
    obtain ⟨rest, quiet, path, others⟩ := State.expired_frame body ((s.elapse left).suspend_rest h) ((s.elapse left).suspend_other h)
      (by rw [SamePath, SameNumbering, SamePlace, own, State.head_elapse]; exact ⟨rfl, rfl, rfl, rfl, ⟨rfl, rfl, rfl⟩, rfl, rfl⟩)
    have raised := (s.elapse left).suspend_raises h
    have closing := State.closeEvent_hears (s.elapse left) (State.suspend h (s.elapse left))
    have suspended : ((State.closeEvent (s.elapse left) (State.suspend h (s.elapse left))).head h).hold.overdue = true := by
      rw [State.closeEvent_overdueReason, own]
    have falls := fun cut => steady.closeEvent_suspend (left := left) cut
    refine ⟨_, taken, rest, quiet, hears.raisesOnly fun _ => AttSet.below_refl _, path, others, ?_, suspended, ?_, ?_, ?_,
      closing.stays (.head h) AttSet.headSuspended (fun _ _ => rfl) raised.1,
      closing.stays .cell AttSet.headSuspended (fun _ _ => rfl) raised.2, ?_, fun cut => ?_, fun cut runs cuts => ?_⟩
    · rw [State.closeEvent_overdue, own]
      exact Overdue.follow_stopped _ rfl
    · rw [State.fhold, HoldSet.held, suspended, Bool.or_true]
    · rw [State.closeEvent_cellHold, own]
      rfl
    · rw [State.closeEvent_head_pendingReq, own]
      rfl
    · refine State.closeEvent_raises (s.elapse left) _ h fun same => ?_
      rw [same, State.head_elapse] at suspended
      have quiet : ((s.head h).elapse left).hold.overdue = false := steady.2.1.counting counts
      rw [quiet] at suspended
      cases suspended
    · rw [falls cut]
      exact Channel.setDemand_demand ..
    · have lowered := (falls cut).trans (Channel.setDemand_lowers _ (c := { (s.head h).blade.elapse left with stopTimer := none }) cut runs)
      have cuts' : ((State.closeEvent (s.elapse left) (State.suspend h (s.elapse left))).head h).holdsCut = true := by
        rw [Head.holdsCut, State.closeEvent_head_window, own]
        exact cuts
      have holds := State.HoldFollows.blade (State.closeEvent_holds (s.elapse left) (State.suspend h (s.elapse left)) h)
      rw [Head.bladeHolds, cuts', lowered] at holds
      rw [lowered]
      exact ⟨rfl, rfl, rfl, holds⟩

end Sys2Proof.Machine

/-! PROOFS. The idle delay and the stop delay run out (R75, R103 to R105, R109). -/

namespace Sys2Proof.Machine

/-! ### The blade of a head without a cut -/

section Standing

variable {hd : Head} (serves : hd.inService = true) (quiet : hd.cutCondition = false)

include serves quiet

/-- Where the CUT condition has just ended the stop-delay timer starts and the demand is IDLE (R103, R105). -/
theorem Head.reworkBlade_stands : (hd.reworkBlade false true).blade =
    ({ hd.blade with stopTimer := some (hd.bladeParams.stopDelay * 1000000) } : Channel).setDemand hd.bladeParams .idle := by
  have stands : hd.standsBy true = true := by rw [Head.standsBy, serves, quiet]; rfl
  refine Head.reworkBlade_of (if_pos stands) ?_
  have serves : ({ hd with blade := { hd.blade with stopTimer := some (hd.bladeParams.stopDelay * 1000000) } } : Head).inService =
    true := serves
  have quiet : ({ hd with blade := { hd.blade with stopTimer := some (hd.bladeParams.stopDelay * 1000000) } } : Head).cutCondition =
    false := quiet
  rw [Head.demandOf, if_neg (by rw [serves]; decide), if_neg (by rw [quiet]; decide)]
  rfl

/-- Where the stop-delay timer has run out the demand is OFF (R103, R105). -/
theorem Head.reworkBlade_stops (stopped : hd.blade.stopTimer = none) :
    (hd.reworkBlade true true).blade = hd.blade.setDemand hd.bladeParams .off := by
  have stands : hd.standsBy true = true := by rw [Head.standsBy, serves, quiet]; rfl
  have runs : hd.stopTimerAfter true true = none := (if_pos stands).trans ((if_pos rfl).trans stopped)
  have same : ({ hd.blade with stopTimer := none } : Channel) = hd.blade := by rw [← stopped]
  refine (Head.reworkBlade_of (d := .off) runs ?_).trans (by rw [same])
  have serves : ({ hd with blade := { hd.blade with stopTimer := none } } : Head).inService = true := serves
  have quiet : ({ hd with blade := { hd.blade with stopTimer := none } } : Head).cutCondition = false := quiet
  rw [Head.demandOf, if_neg (by rw [serves]; decide), if_neg (by rw [quiet]; decide)]
  rfl

end Standing

/-! ### The idle delay -/

section EndIdleDelay

variable (a : State) (h : HeadId)

theorem State.endIdleDelay_head : (State.endIdleDelay h a).head h = { a.head h with
    blade := { (a.head h).blade with idleTimer := none }
    watch := if (a.head h).watch.reasons.bladeNotReady = true then Watch.empty else (a.head h).watch } := by
  obtain ⟨w, e, -⟩ := State.tell_told (a.modHead h fun hd => { hd with blade := { hd.blade with idleTimer := none } }) h
    (fun w => w.reasons.bladeNotReady) h
  have watch := State.tell_watch (a.modHead h fun hd => { hd with blade := { hd.blade with idleTimer := none } }) h
    fun w => w.reasons.bladeNotReady
  rw [State.head_modHead_self] at e watch
  rw [e] at watch
  exact e.trans (by rw [← watch])

theorem State.endIdleDelay_other : (State.endIdleDelay h a).head h.other = a.head h.other := by
  unfold State.endIdleDelay State.tell
  split
  · cases h <;> rfl
  · exact State.head_modHead_other ..

theorem State.endIdleDelay_rest : State.endIdleDelay h a =
    { a with heads := (State.endIdleDelay h a).heads, links := (State.endIdleDelay h a).links } :=
  State.tell_rest (a.modHead h fun hd => { hd with blade := { hd.blade with idleTimer := none } }) h fun w => w.reasons.bladeNotReady

theorem State.endIdleDelay_hears : State.Hears wakes a (State.endIdleDelay h a) :=
  (State.Hears.of_links (s := a) rfl).trans (State.tell_hears _ h _)

/-- A watched BLADE-NOT-READY ceases (R75, R104). -/
theorem State.endIdleDelay_wakes (watched : (a.head h).watch.reasons.bladeNotReady = true) :
    ((State.endIdleDelay h a).head h).watch = Watch.empty ∧
      ((State.endIdleDelay h a).link (.head h)).attention.waitCleared = true := by
  unfold State.endIdleDelay State.tell
  rw [if_pos (by rw [State.head_modHead_self]; exact watched)]
  exact State.wake_ends _ h

end EndIdleDelay

section IdleDelay

variable {s : State} {h : HeadId} (steady : s.Steady h) {left : Nat} (runs : (s.head h).blade.idleTimer = some left)
  (opened : s.job.state.isOpen = true) (service : (s.head h).service = .inService)

include steady runs opened service

omit runs service in
/-- With a cut in the window the demand stands without the idle-delay timer (R103). -/
theorem State.closeEvent_endIdleDelay_holds (cuts : (s.head h).holdsCut = true) :
    ((State.closeEvent (s.elapse left) (State.endIdleDelay h (s.elapse left))).head h).blade =
      { (s.head h).blade.elapse left with idleTimer := none } := by
  have own := (s.elapse left).endIdleDelay_head h
  have job : (State.endIdleDelay h (s.elapse left)).job = s.job := by
    rw [(s.elapse left).endIdleDelay_rest h]
    rfl
  rw [State.head_elapse] at own
  have before : (s.head h).cutCondition = true := by rw [Head.cutCondition, cuts]; rfl
  have after : ((State.endIdleDelay h (s.elapse left)).head h).cutCondition = true := by
    rw [Head.cutCondition, own]
    exact congrArg (· || false) cuts
  have serves : ((State.endIdleDelay h (s.elapse left)).head h).inService = (s.head h).inService := by rw [own]; rfl
  have suspended : ((State.endIdleDelay h (s.elapse left)).head h).hold.overdue = (s.head h).hold.overdue := by rw [own]; rfl
  have stopped : (s.head h).blade.stopTimer = none := by
    cases timer : (s.head h).blade.stopTimer with
    | none => rfl
    | some d =>
      have stands := steady.demandNow.2 (by rw [timer]; rfl)
      simp [Head.standsBy, before] at stands
  have asked : ((State.endIdleDelay h (s.elapse left)).head h).demandOf true = (s.head h).demandOf true := by
    rw [Head.demandOf, Head.demandOf, after, before, serves, suspended]
    rfl
  rw [State.closeEvent_blade, job, opened, Head.reworkBlade_eq]
  · rw [own]
    rfl
  · rw [State.head_elapse, Head.standsBy, Head.standsBy, Head.elapse_cutCondition, before, after]
    simp
  · rw [asked, own, ← opened, ← steady.demandNow.1]
    rfl
  · rw [own]
    intro timed
    have timed : (timerAfter left (s.head h).blade.stopTimer).isSome = true := timed
    rw [stopped] at timed
    cases timed

omit steady in
/-- Without one the demand falls to IDLE, and the stop-delay timer starts (R103 to R105). -/
theorem State.closeEvent_endIdleDelay_stands (none : (s.head h).holdsCut = false) :
    ((State.closeEvent (s.elapse left) (State.endIdleDelay h (s.elapse left))).head h).blade =
      ({ (s.head h).blade.elapse left with
          idleTimer := Option.none, stopTimer := some ((s.head h).bladeParams.stopDelay * 1000000) } : Channel).setDemand
        (s.head h).bladeParams .idle := by
  have own := (s.elapse left).endIdleDelay_head h
  have job : (State.endIdleDelay h (s.elapse left)).job = s.job := by
    rw [(s.elapse left).endIdleDelay_rest h]
    rfl
  rw [State.head_elapse] at own
  have before : (s.head h).cutCondition = true := by rw [Head.cutCondition, runs]; simp
  have stood : ((s.elapse left).head h).standsBy (s.elapse left).job.state.isOpen = false := by
    rw [State.head_elapse, Head.standsBy, Head.elapse_cutCondition, before]
    simp
  have quiet : ((State.endIdleDelay h (s.elapse left)).head h).cutCondition = false := by
    rw [Head.cutCondition, own]
    exact congrArg (· || false) none
  rw [State.closeEvent_blade, job, opened, stood, Head.reworkBlade_stands (by rw [own]; simp [Head.inService, service]) quiet, own]
  rfl

end IdleDelay

/-! ### The stop delay -/

/-- The stop-delay timer's expiry takes the demand to OFF (R103, R105). -/
theorem State.Steady.closeEvent_endStopDelay {s : State} {h : HeadId} (steady : s.Steady h) {left : Nat}
    (runs : (s.head h).blade.stopTimer = some left) : (s.head h).blade.demand = .idle ∧
      ((State.closeEvent (s.elapse left) (State.endStopDelay h (s.elapse left))).head h).blade =
        ({ (s.head h).blade.elapse left with stopTimer := none } : Channel).setDemand (s.head h).bladeParams .off := by
  have own : (State.endStopDelay h (s.elapse left)).head h =
      { (s.head h).elapse left with blade := { (s.head h).blade.elapse left with stopTimer := none } } := by
    rw [State.endStopDelay, State.head_modHead_self, State.head_elapse]
    rfl
  have job : (State.endStopDelay h (s.elapse left)).job = s.job := rfl
  obtain ⟨demand, timed⟩ := steady.demandNow
  have stands := timed (by rw [runs]; rfl)
  simp only [Head.standsBy, Bool.and_eq_true, Bool.not_eq_true'] at stands
  obtain ⟨⟨opened, serves⟩, quiet⟩ := stands
  have stood : ((s.elapse left).head h).standsBy (s.elapse left).job.state.isOpen = true := by
    rw [State.head_elapse, Head.standsBy, Head.elapse_cutCondition, quiet]
    show (s.job.state.isOpen && (s.head h).inService && !false) = true
    rw [opened, serves]
    rfl
  have condition : ((State.endStopDelay h (s.elapse left)).head h).cutCondition = false := by
    rw [own]
    exact (Head.elapse_cutCondition left (s.head h)).trans quiet
  refine ⟨?_, ?_⟩
  · rw [demand, Head.demandOf, if_neg (by rw [opened, serves]; decide), if_neg (by rw [quiet]; decide), if_pos (by rw [runs]; rfl)]
  · rw [State.closeEvent_blade, job, opened, stood, Head.reworkBlade_stops (by rw [own]; exact serves) condition (by rw [own]), own]
    rfl

/-- A demand that falls from IDLE to OFF stops a channel that runs, brake off (R109). -/
theorem Channel.setDemand_off (p : BladeParams) {c : Channel} (demand : c.demand = .idle) : c.setDemand p .off =
    { (if c.st.accepts = true then c.stop false else c) with demand := .off } := by
  rw [Channel.setDemand, if_neg (by rw [demand]; decide), Channel.act_off_eq]

/-- Settles O43: the idle delay and the stop delay run out. -/
theorem delaysExpire : Obligations.DelaysExpire := by
  intro s h frame
  refine ⟨fun none => ?_, fun none => ?_, fun left runs steady opened service => ?_, fun left runs steady => ?_⟩
  · show Host.Outcome.next (s.idleDelayExpiry h) = _
    rw [State.idleDelayExpiry, none]
    rfl
  · show Host.Outcome.next (s.stopDelayExpiry h) = _
    rw [State.stopDelayExpiry, none]
    rfl
  · have taken : exec (.idleDelayExpiry h) s = .next (State.closeEvent (s.elapse left) (State.endIdleDelay h (s.elapse left))) := by
      show Host.Outcome.next (s.idleDelayExpiry h) = _
      rw [State.idleDelayExpiry, runs]
      rfl
    have body := State.endIdleDelay_hears (s.elapse left) h
    have hears := State.expired_hears body (u := fun _ => AttSet.ofHoldChanged.union AttSet.ofWaitCleared) wakes_below_closes
      (closes_below _ _)
    have own := (s.elapse left).endIdleDelay_head h
    obtain ⟨rest, quiet, path, others⟩ := State.expired_frame body ((s.elapse left).endIdleDelay_rest h)
      ((s.elapse left).endIdleDelay_other h)
      (by rw [SamePath, SameNumbering, SamePlace, own]; exact ⟨rfl, rfl, rfl, rfl, ⟨rfl, rfl, rfl⟩, rfl, rfl⟩)
    refine ⟨_, taken, ⟨rest, quiet, hears.raisesOnly fun _ => AttSet.below_refl _, path, others⟩, ?_, fun watched => ?_,
      fun cuts => ?_, fun none => ?_⟩
    · rw [State.closeEvent_idleTimer, own]
    · have watched : ((s.elapse left).head h).watch.reasons.bladeNotReady = true := by
        rw [State.head_elapse]
        exact watched
      obtain ⟨watch, cleared⟩ := (s.elapse left).endIdleDelay_wakes h watched
      exact ⟨State.closeEvent_watch_empty watch,
        (State.closeEvent_hears _ _).stays (.head h) AttSet.waitCleared (fun _ _ => rfl) cleared⟩
    · rw [State.closeEvent_endIdleDelay_holds steady opened cuts]
      exact ⟨rfl, rfl, rfl⟩
    · rw [State.closeEvent_endIdleDelay_stands runs opened service none]
      refine ⟨Channel.setDemand_demand .., Channel.setDemand_stopTimer .., fun cut atCut => ?_⟩
      rw [Channel.setDemand_lowers _ (by exact cut) (by exact atCut)]
      exact ⟨rfl, rfl, rfl, rfl⟩
  · have taken : exec (.stopDelayExpiry h) s = .next (State.closeEvent (s.elapse left) (State.endStopDelay h (s.elapse left))) := by
      show Host.Outcome.next (s.stopDelayExpiry h) = _
      rw [State.stopDelayExpiry, runs]
      rfl
    have body : State.Hears wakes (s.elapse left) (State.endStopDelay h (s.elapse left)) := .of_links rfl
    have hears := State.expired_hears body (u := fun _ => AttSet.ofHoldChanged.union AttSet.ofWaitCleared) wakes_below_closes
      (closes_below _ _)
    obtain ⟨rest, quiet, path, others⟩ := State.expired_frame (h := h) body rfl (State.head_modHead_other ..)
      (by
        rw [SamePath, SameNumbering, SamePlace, State.endStopDelay, State.head_modHead_self]
        exact ⟨rfl, rfl, rfl, rfl, ⟨rfl, rfl, rfl⟩, rfl, rfl⟩)
    obtain ⟨demand, blade⟩ := steady.closeEvent_endStopDelay runs
    rw [Channel.setDemand_off _ (by exact demand)] at blade
    refine ⟨_, taken, ⟨rest, quiet, hears.raisesOnly fun _ => AttSet.below_refl _, path, others⟩, ?_, ?_, fun accepts => ?_,
      fun still => ?_⟩
    · rw [blade]
      split <;> rfl
    · rw [blade]
    · rw [blade, if_pos (by exact accepts)]
      exact ⟨rfl, rfl, rfl, rfl, rfl⟩
    · rw [blade, if_neg (by exact Bool.eq_false_iff.mp still)]
      exact ⟨rfl, rfl⟩

end Sys2Proof.Machine

/-! PROOFS. The retry time runs out, and FAULT CLEAR (R107, R128, R129). -/

namespace Sys2Proof.Machine

/-! ### A channel that starts again -/

/-- The channel has just entered SPINUP toward a level (R107). -/
def Channel.Climbs (p : BladeParams) (lvl : Level) (d : Channel) : Prop :=
  d.st = .spinup ∧ d.target = lvl ∧ d.step = 1 ∧ d.stepCount = 0 ∧ d.brake = false ∧ d.pulseSeen = false ∧ d.strokes = 0 ∧
    d.watchLeft = some 1000000 ∧ d.commanded = p.stepRate lvl 1

/-- Channel d is what a restart makes of channel c: it climbs to the level c demands, or stops with the brake as given (R128, R129). -/
structure Channel.Restarted (p : BladeParams) (brake : Bool) (c d : Channel) : Prop where
  demand : d.demand = c.demand
  trim : d.trim = c.trim
  record : d.record = c.record
  idle : d.idleTimer = c.idleTimer
  stop : d.stopTimer = c.stopTimer
  off : c.demand = .off → d.st = .stopped ∧ d.brake = brake ∧ d.commanded = 0
  climbsIdle : c.demand = .idle → Channel.Climbs p .idle d
  climbsCut : c.demand = .cut → Channel.Climbs p .cut d
  out : d.runAtCut = false
  pause : c.runAtCut = false → d.pause = c.pause

theorem Channel.stop_restarted (p : BladeParams) (brake : Bool) {c : Channel} (off : c.demand = .off) :
    Channel.Restarted p brake c (c.stop brake) where
  demand := rfl
  trim := rfl
  record := rfl
  idle := rfl
  stop := rfl
  off _ := ⟨rfl, rfl, rfl⟩
  climbsIdle wanted := by rw [off] at wanted; cases wanted
  climbsCut wanted := by rw [off] at wanted; cases wanted
  out := rfl
  pause quiet := by rw [Channel.stop, Channel.depart, quiet]; rfl

theorem Channel.spinUp_restarted (p : BladeParams) (brake : Bool) {lvl : Level} {c : Channel}
    (wanted : c.demand = (if lvl = .idle then .idle else .cut)) : Channel.Restarted p brake c (c.spinUp p lvl) where
  demand := rfl
  trim := rfl
  record := rfl
  idle := rfl
  stop := rfl
  off off := by rw [off] at wanted; cases lvl <;> cases wanted
  climbsIdle idle := by
    cases lvl with
    | idle => exact ⟨rfl, rfl, rfl, rfl, rfl, rfl, rfl, rfl, rfl⟩
    | cut => rw [idle] at wanted; cases wanted
  climbsCut cut := by
    cases lvl with
    | cut => exact ⟨rfl, rfl, rfl, rfl, rfl, rfl, rfl, rfl, rfl⟩
    | idle => rw [cut] at wanted; cases wanted
  out := rfl
  pause quiet := by rw [Channel.spinUp, Channel.depart, quiet]; rfl

theorem Channel.endRetry_restarted (p : BladeParams) (c : Channel) : Channel.Restarted p c.brake c (c.endRetry p) := by
  unfold Channel.endRetry
  cases wanted : c.demand with
  | off => exact Channel.stop_restarted p c.brake wanted
  | idle => exact Channel.spinUp_restarted p c.brake (lvl := .idle) wanted
  | cut => exact Channel.spinUp_restarted p c.brake (lvl := .cut) wanted

theorem Channel.endRetry_retries (p : BladeParams) (c : Channel) : (c.endRetry p).retries = c.retries := by
  unfold Channel.endRetry
  cases c.demand <;> rfl

/-- A stopped channel is as a restart makes of it before it climbs. -/
theorem Channel.clearFault_restarted (p : BladeParams) {c : Channel} (faulted : c.st = .faulted) :
    Channel.Restarted p false c (c.clearFault p) := by
  have out : c.runAtCut = false := by rw [Channel.runAtCut, faulted]; rfl
  have pause : (c.stop false).pause = c.pause := by rw [Channel.stop, Channel.depart, out]; rfl
  have climbed {lvl : Level} (wanted : c.demand = (if lvl = .idle then .idle else .cut)) :
      Channel.Restarted p false c (({ c.stop false with retries := 0 } : Channel).spinUp p lvl) := by
    have climbs := Channel.spinUp_restarted p false (lvl := lvl) (c := { c.stop false with retries := 0 }) wanted
    exact ⟨rfl, rfl, rfl, rfl, rfl, climbs.off, climbs.climbsIdle, climbs.climbsCut, rfl, fun _ => (climbs.pause rfl).trans pause⟩
  unfold Channel.clearFault Channel.climb
  have same : ({ c.stop false with retries := 0 } : Channel).demand = c.demand := rfl
  rw [same]
  cases wanted : c.demand with
  | off =>
    have stops := Channel.stop_restarted p false wanted
    exact ⟨rfl, rfl, rfl, rfl, rfl, stops.off, fun idle => (by cases wanted.symm.trans idle),
      fun cut => (by cases wanted.symm.trans cut), rfl, fun _ => pause⟩
  | idle => exact climbed (lvl := .idle) wanted
  | cut => exact climbed (lvl := .cut) wanted

theorem Channel.clearFault_retries (p : BladeParams) (c : Channel) : (c.clearFault p).retries = 0 := by
  unfold Channel.clearFault Channel.climb
  split <;> rfl

theorem Channel.Restarted.climbs {p : BladeParams} {brake : Bool} {c d : Channel} (restarted : Channel.Restarted p brake c d)
    (lvl : Level) (wanted : c.demand = (if lvl = .idle then .idle else .cut)) : Channel.Climbs p lvl d := by
  cases lvl with
  | idle => exact restarted.climbsIdle wanted
  | cut => exact restarted.climbsCut wanted

/-! ### A head whose channel starts again -/

section Restart

variable {a : State} {h : HeadId} {brake : Bool} {d : Channel} (restarted : Channel.Restarted (a.head h).bladeParams brake (a.head h).blade d)

include restarted

theorem Channel.Restarted.demandNow (now : a.DemandNow h) : (a.setBlade h d).DemandNow h :=
  now.of_same rfl (by rw [State.setBlade_head_self]) (by rw [State.setBlade_head_self]) (by rw [State.setBlade_head_self])
    (by rw [State.setBlade_head_self, restarted.demand]) (by rw [State.setBlade_head_self, restarted.idle])
    (by rw [State.setBlade_head_self, restarted.stop])

theorem Channel.Restarted.standsBy (jobOpen : Bool) :
    ((a.setBlade h d).head h).standsBy jobOpen = (a.head h).standsBy jobOpen := by
  rw [State.setBlade_head_self, Head.standsBy, Head.standsBy, Head.cutCondition, Head.cutCondition, restarted.idle]
  rfl

/-- Closing the event leaves the restarted channel (R103, R105). -/
theorem Channel.Restarted.closed (now : a.DemandNow h) : ((State.closeEvent a (a.setBlade h d)).head h).blade = d := by
  rw [State.closeEvent_undemanding (restarted.demandNow now) (restarted.standsBy _).symm, State.setBlade_head_self]

/-- A restart out of RUN at CUT keeps the head at its rules (R117, R128). -/
theorem Channel.Restarted.steady (steady : a.Steady h) (out : (a.head h).blade.runAtCut = false) : (a.setBlade h d).Steady h := by
  have now := restarted.demandNow steady.demandNow
  have blade : ((a.setBlade h d).head h).bladeHolds = (a.head h).bladeHolds := by
    rw [State.setBlade_head_self, Head.bladeHolds, Head.bladeHolds, restarted.out, out, restarted.pause out]
    rfl
  have own : (a.setBlade h d).head h = { a.head h with blade := d } := State.setBlade_head_self ..
  obtain ⟨holds, overdue, watch, -, lapse⟩ := steady
  have zones : (a.setBlade h d).zoneHolds h = a.zoneHolds h :=
    State.zoneHolds_of rfl (by rw [own])
  refine ⟨?_, ?_, ?_, (State.demandFollows_iff ..).mpr ⟨now, ?_⟩, ?_⟩
  · rw [State.HoldFollows, State.holdNow, blade, zones, own]
    exact holds
  · rw [own]
    exact overdue
  · rw [own]
    exact watch
  · rw [own]
    intro off
    rw [(restarted.off (restarted.demand.symm.trans off)).1]
    rfl
  · rw [State.lapseRunsWhenHeld_iff] at lapse ⊢
    rw [own]
    exact lapse

end Restart

/-! ### The events -/

/-- FAULT CLEAR of a latched channel changes the channel alone (R129). -/
theorem State.closeEvent_clearFault {s : State} {h : HeadId} (steady : ∀ i, s.Steady i) (faulted : (s.head h).blade.st = .faulted) :
    State.closeEvent s (s.setBlade h ((s.head h).blade.clearFault (s.head h).bladeParams)) =
      s.setBlade h ((s.head h).blade.clearFault (s.head h).bladeParams) := by
  have restarted := Channel.clearFault_restarted (s.head h).bladeParams faulted
  have out : (s.head h).blade.runAtCut = false := by rw [Channel.runAtCut, faulted]; rfl
  have other (i : HeadId) (ne : i = h.other) :
      (s.setBlade h ((s.head h).blade.clearFault (s.head h).bladeParams)).head i = s.head i := by
    rw [ne, State.setBlade_head_other]
  refine State.closeEvent_same (fun i => ?_) (fun i => ?_) (fun i => ?_) fun i _ => ?_
  · obtain rfl | rfl := HeadId.eq_or_other h i
    · exact restarted.steady (steady _) out
    · exact (steady h.other).of_alike (by rw [other _ rfl]; exact .refl _) (.inl (by rw [other _ rfl])) rfl
        (Head.sameHeld_of_states _ rfl)
  · obtain rfl | rfl := HeadId.eq_or_other h i
    · rw [State.setBlade_head_self]
    · rw [other _ rfl]
  · obtain rfl | rfl := HeadId.eq_or_other h i
    · exact (restarted.standsBy _).symm
    · rw [other _ rfl]
      rfl
  · obtain same | same := HeadId.eq_or_other h i.other
    · rw [same, State.setBlade_head_self]
    · rw [other _ same]

/-- An accepted FAULT CLEAR (R129). -/
theorem State.faultClearRequest_latched {s : State} {h : HeadId} (steady : ∀ i, s.Steady i) (faulted : (s.head h).blade.st = .faulted) :
    s.faultClearRequest (headCode h) = (s.setBlade h ((s.head h).blade.clearFault (s.head h).bladeParams),
      .accepted (.blade ((s.head h).blade.clearFault (s.head h).bladeParams).st (s.head h).blade.demand)) := by
  have closed := State.closeEvent_clearFault steady faulted
  have restarted := Channel.clearFault_restarted (s.head h).bladeParams faulted
  have body : (s.modHead h fun hd => { hd with blade := hd.blade.clearFault hd.bladeParams }) =
      s.setBlade h ((s.head h).blade.clearFault (s.head h).bladeParams) := rfl
  rw [State.faultClearRequest, headOf_headCode]
  dsimp only
  rw [if_neg (not_not_intro faulted), body, closed, State.setBlade_head_self, restarted.demand]

/-- Settles O44: the retry time runs out, and FAULT CLEAR. -/
theorem retryAndClearRestart : Obligations.RetryAndClearRestart := by
  intro s h steady climbs keeps
  refine ⟨fun left runs => ?_, fun none => ?_, fun free => ⟨fun code bad => ?_, fun healthy => ?_, fun faulted steady' => ?_⟩⟩
  · have taken : exec (.retryTimeExpiry h) s = .next (State.closeEvent (s.elapse left) (State.endRetry h (s.elapse left))) := by
      show Host.Outcome.next (s.retryExpiry h) = _
      rw [State.retryExpiry, runs]
      rfl
    have body : State.Hears wakes (s.elapse left) (State.endRetry h (s.elapse left)) := .of_links rfl
    have hears := State.expired_hears body (u := fun _ => AttSet.ofHoldChanged.union AttSet.ofWaitCleared) wakes_below_closes
      (closes_below _ _)
    obtain ⟨rest, quiet, path, others⟩ := State.expired_frame (h := h) body rfl (State.head_modHead_other ..)
      (by
        rw [SamePath, SameNumbering, SamePlace, State.endRetry, State.head_modHead_self]
        exact ⟨rfl, rfl, rfl, rfl, ⟨rfl, rfl, rfl⟩, rfl, rfl⟩)
    have restarted := Channel.endRetry_restarted ((s.elapse left).head h).bladeParams ((s.elapse left).head h).blade
    have blade : ((State.closeEvent (s.elapse left) (State.endRetry h (s.elapse left))).head h).blade = _ :=
      restarted.closed (steady.elapse left).demandNow
    have retries := Channel.endRetry_retries ((s.elapse left).head h).bladeParams ((s.elapse left).head h).blade
    rw [State.head_elapse] at restarted blade retries
    refine ⟨_, taken, rest, quiet, hears.raisesOnly fun _ => AttSet.below_refl _, path, others, ?_, ?_, ?_, ?_⟩
    · rw [blade]
      exact ⟨restarted.demand, restarted.trim, restarted.record⟩
    · rw [blade]
      exact fun lvl wanted => restarted.climbs lvl (by cases lvl <;> exact wanted)
    · rw [blade, retries]
      rfl
    · rw [blade]
      intro off
      obtain ⟨st, brake, commanded⟩ := restarted.off off
      exact ⟨st, commanded, brake⟩
  · show Host.Outcome.next (s.retryExpiry h) = _
    rw [State.retryExpiry, none]
    rfl
  · have run : (s.toLead .cell).faultClearRequest code = (s.toLead .cell, .refused .badValue .none) := by
      rw [State.faultClearRequest, headOf_eq_none bad]
    exact exec_run (c := .faultClear .cell code) (r := .faultClear code) rfl free rfl run
  · have run : (s.toLead .cell).faultClearRequest (headCode h) = (s.toLead .cell, .refused .bladeNotLatched .none) := by
      rw [State.faultClearRequest, headOf_headCode]
      exact if_pos healthy
    exact exec_run (c := .faultClear .cell (headCode h)) (r := .faultClear (headCode h)) rfl free rfl run
  · have restarted := Channel.clearFault_restarted (s.head h).bladeParams faulted
    have each (i : HeadId) : s.Steady i := by
      obtain rfl | rfl := HeadId.eq_or_other h i
      · exact steady
      · exact steady'
    have blade : ((s.setBlade h ((s.head h).blade.clearFault (s.head h).bladeParams)).head h).blade =
        (s.head h).blade.clearFault (s.head h).bladeParams := by rw [State.setBlade_head_self]
    have run : (s.toLead .cell).faultClearRequest (headCode h) =
        ((s.setBlade h ((s.head h).blade.clearFault (s.head h).bladeParams)).toLead .cell,
          .accepted (.blade ((s.head h).blade.clearFault (s.head h).bladeParams).st (s.head h).blade.demand)) := by
      refine (State.faultClearRequest_latched (s := s.toLead .cell) (h := h) each faulted).trans ?_
      cases h <;> rfl
    refine ⟨s.setBlade h ((s.head h).blade.clearFault (s.head h).bladeParams), ?_, ?_, ?_, ?_, ?_, ?_⟩
    · rw [blade]
      exact exec_run (c := .faultClear .cell (headCode h)) (r := .faultClear (headCode h)) rfl free rfl run
    · rw [blade]
      rfl
    · rw [blade]
      exact ⟨restarted.demand, restarted.trim, restarted.record⟩
    · rw [blade]
      exact fun lvl wanted => restarted.climbs lvl (by cases lvl <;> exact wanted)
    · rw [blade]
      exact Channel.clearFault_retries ..
    · rw [blade]
      intro off
      obtain ⟨st, brake, commanded⟩ := restarted.off off
      exact ⟨st, brake, commanded⟩

end Sys2Proof.Machine

/-! PROOFS. A detection and the response of the guard, and a stroke watch that runs out (R111, R120, R125, R127, R131). -/

namespace Sys2Proof.Machine

/-! ### The response of the guard -/

theorem PerKind.get_count (v : PerKind Nat) (k : FaultKind) : (v.count k).get k = min 255 (v.get k + 1) := by
  cases k <;> rfl

/-- A channel is as a response makes of it by its state, brake, rate and retries alone (Table 7-1). -/
theorem RespondsTo.congr {mode : FaultMode} {g : GuardSettings} {c d x y : Channel} (responds : RespondsTo mode g c d)
    (before : x.st = c.st ∧ x.brake = c.brake ∧ x.retries = c.retries)
    (after : y.st = d.st ∧ y.brake = d.brake ∧ y.commanded = d.commanded ∧ y.retries = d.retries ∧ y.retryTimer = d.retryTimer) :
    RespondsTo mode g x y := by
  obtain ⟨st, brake, retries⟩ := before
  obtain ⟨st', brake', commanded', retries', timer'⟩ := after
  unfold RespondsTo at responds ⊢
  rwa [st, brake, retries, st', brake', commanded', retries', timer']

theorem Channel.retry_to (g : GuardSettings) (brake : Bool) (c : Channel) :
    (c.retry g brake).brake = brake ∧ (c.retry g brake).commanded = 0 ∧
      (if retryAllowed g.retryLimit c.retries = true then (c.retry g brake).st = .retryWait ∧
          (c.retry g brake).retries = min 255 (c.retries + 1) ∧ (c.retry g brake).retryTimer = some (g.retryTime * 1000)
        else (c.retry g brake).st = .faulted ∧ (c.retry g brake).retries = c.retries) := by
  unfold Channel.retry
  split <;> exact ⟨rfl, rfl, by simp [Channel.setAside, Channel.depart]⟩

/-- The guard answers a detection by the kind's mode (R125). -/
theorem Channel.respond_to (g : GuardSettings) (k : FaultKind) (c : Channel) : RespondsTo (g.modes.get k) g c (c.respond g k) := by
  unfold Channel.respond
  cases g.modes.get k with
  | latchCoast | latchBrake => exact ⟨rfl, rfl, rfl⟩
  | retryCoast => exact (c.recordFault k).retry_to g false
  | retryBrake => exact (c.recordFault k).retry_to g true
  | report | ignore => exact ⟨rfl, rfl⟩

/-- What no response touches of a channel (R125). -/
structure Channel.KeepsCourse (c d : Channel) : Prop where
  demand : d.demand = c.demand
  trim : d.trim = c.trim
  lastAvg : d.lastAvg = c.lastAvg
  strokes : d.strokes = c.strokes
  idle : d.idleTimer = c.idleTimer
  stop : d.stopTimer = c.stopTimer

theorem Channel.KeepsCourse.refl (c : Channel) : Channel.KeepsCourse c c := ⟨rfl, rfl, rfl, rfl, rfl, rfl⟩

theorem Channel.Responds.keepsCourse {g : GuardSettings} {c d : Channel} (responds : Channel.Responds g c d) :
    Channel.KeepsCourse c d := by
  cases responds <;> exact ⟨rfl, rfl, rfl, rfl, rfl, rfl⟩

/-- A kind that is tested is recorded (R131). -/
theorem Channel.respond_records {g : GuardSettings} {k : FaultKind} (tested : g.modes.get k ≠ .ignore) (c : Channel) :
    Records k c (c.respond g k) := by
  have recorded : Records k c (c.recordFault k) := ⟨rfl, PerKind.get_count ..⟩
  have retried (brake : Bool) : ((c.recordFault k).retry g brake).record = (c.recordFault k).record := by
    unfold Channel.retry
    split <;> rfl
  unfold Channel.respond
  cases mode : g.modes.get k with
  | latchCoast | latchBrake | report => exact recorded
  | retryCoast | retryBrake =>
    rw [Records, retried]
    exact recorded
  | ignore => exact absurd mode tested

/-! ### STROKE-LOST -/

section StrokeLost

variable (g : GuardSettings) (c : Channel)

theorem Channel.strokeLost_to : RespondsTo g.modes.strokeLost g c (c.strokeLost g) := by
  have answered : RespondsTo g.modes.strokeLost g c (c.respond g .strokeLost) := c.respond_to g .strokeLost
  unfold Channel.strokeLost
  cases mode : g.modes.strokeLost with
  | report | latchCoast | latchBrake | retryCoast | retryBrake =>
    rw [mode] at answered
    exact answered
  | ignore => exact ⟨rfl, rfl⟩

theorem Channel.strokeLost_keepsCourse : Channel.KeepsCourse c (c.strokeLost g) := by
  obtain ⟨d, watch, responds, e⟩ := c.strokeLost_responds g
  rw [e]
  obtain ⟨demand, trim, lastAvg, strokes, idle, stop⟩ := responds.keepsCourse
  exact ⟨demand, trim, lastAvg, strokes, idle, stop⟩

theorem Channel.strokeLost_records (tested : g.modes.strokeLost ≠ .ignore) : Records .strokeLost c (c.strokeLost g) := by
  have recorded : Records .strokeLost c (c.respond g .strokeLost) := Channel.respond_records (k := .strokeLost) tested c
  unfold Channel.strokeLost
  cases mode : g.modes.strokeLost with
  | report | latchCoast | latchBrake | retryCoast | retryBrake => exact recorded
  | ignore => exact absurd mode tested

theorem Channel.strokeLost_ignored (ignored : g.modes.strokeLost = .ignore) : c.strokeLost g = { c with watchLeft := none } := by
  unfold Channel.strokeLost
  rw [ignored]

theorem Channel.strokeLost_reported (reported : g.modes.strokeLost = .report) :
    (c.strokeLost g).watchLeft = some (if c.st = .spinup then 1000000 else 3 * (60000000 / c.commanded)) := by
  unfold Channel.strokeLost
  rw [reported]
  rfl

/-- A channel whose state a lost stroke changes runs no more (R120, R125). -/
theorem Channel.strokeLost_leaves (moved : (c.strokeLost g).st ≠ c.st) : (c.strokeLost g).runAtCut = false := by
  obtain ⟨d, watch, responds, e⟩ := c.strokeLost_responds g
  rw [e] at moved ⊢
  cases responds with
  | stays => exact absurd rfl moved
  | latches | retries => rfl

end StrokeLost

/-! ### The news of a blade -/

section BladeNews

variable (s : State) (h : HeadId) (ready bladeFault : Bool)

theorem State.bladeNews_quiet : State.bladeNews h ready false s = if ready = true then s.tell h fun w => w.reasons.bladeNotReady else s := rfl

theorem State.bladeNews_heads :
    (State.bladeNews h ready bladeFault s).heads = (State.bladeNews h ready false s).heads := by
  cases bladeFault <;> rfl

theorem State.bladeNews_rest : State.bladeNews h ready bladeFault s = { s with
    heads := (State.bladeNews h ready bladeFault s).heads, links := (State.bladeNews h ready bladeFault s).links } := by
  have told (u : State) (is : (if ready = true then s.tell h fun w => w.reasons.bladeNotReady else s) = u) :
      u = { s with heads := u.heads, links := u.links } := by
    subst is
    split
    · exact State.tell_rest s h fun w => w.reasons.bladeNotReady
    · rfl
  unfold State.bladeNews
  dsimp only
  generalize is : (if ready = true then s.tell h fun w => w.reasons.bladeNotReady else s) = u
  have told := told u is
  split
  · conv_lhs => rw [told]
    rfl
  · exact told

/-- The head whose blade has news keeps all but its watch, which may cease (R112). -/
theorem State.bladeNews_own : (State.bladeNews h ready bladeFault s).head h = { s.head h with
    watch := if ready = true ∧ (s.head h).watch.reasons.bladeNotReady = true then Watch.empty else (s.head h).watch } := by
  have heads : (State.bladeNews h ready bladeFault s).head h = (State.bladeNews h ready false s).head h := by
    rw [State.head, State.bladeNews_heads]
    rfl
  rw [heads, State.bladeNews_quiet]
  cases ready with
  | false => rfl
  | true =>
    obtain ⟨w, e, -⟩ := State.tell_told s h (fun w => w.reasons.bladeNotReady) h
    have watch := State.tell_watch s h fun w => w.reasons.bladeNotReady
    rw [if_pos rfl, e]
    rw [e] at watch
    have watch : w = _ := watch
    rw [watch]
    simp

theorem State.bladeNews_other : (State.bladeNews h ready bladeFault s).head h.other = s.head h.other := by
  have heads : (State.bladeNews h ready bladeFault s).head h.other = (State.bladeNews h ready false s).head h.other := by
    rw [State.head, State.bladeNews_heads]
    rfl
  rw [heads, State.bladeNews_quiet]
  split
  · unfold State.tell
    split
    · cases h <;> rfl
    · rfl
  · rfl

theorem State.bladeNews_hears_news : State.Hears (fun _ => AttSet.ofWaitCleared.union AttSet.ofBladeFault) s
    (State.bladeNews h ready bladeFault s) := by
  have told : State.Hears (fun _ => AttSet.ofWaitCleared.union AttSet.ofBladeFault) s
      (if ready = true then s.tell h fun w => w.reasons.bladeNotReady else s) := by
    split
    · refine (State.tell_hears s h _).mono fun l => ?_
      cases l <;> simp [AttSet.below_iff, wakes, AttSet.union, AttSet.ofWaitCleared, AttSet.ofBladeFault, AttSet.empty]
    · exact .refl s
  have fault : AttSet.ofBladeFault.Below (AttSet.ofWaitCleared.union AttSet.ofBladeFault) := by
    simp [AttSet.below_iff, AttSet.union, AttSet.ofWaitCleared, AttSet.ofBladeFault, AttSet.empty]
  unfold State.bladeNews
  dsimp only
  split
  · exact (told.trans (State.raise_hears _ _ fault)).trans (State.raise_hears _ _ fault)
  · exact told

theorem news_below : (AttSet.ofWaitCleared.union AttSet.ofBladeFault).Below
    ((AttSet.ofWaitCleared.union AttSet.ofHoldChanged).union AttSet.ofBladeFault) := by
  simp [AttSet.below_iff, AttSet.union, AttSet.ofWaitCleared, AttSet.ofHoldChanged, AttSet.ofBladeFault, AttSet.empty]

theorem closes_below_fault (b t : State) (l : LinkId) :
    (closes b t l).Below ((AttSet.ofWaitCleared.union AttSet.ofHoldChanged).union AttSet.ofBladeFault) := by
  cases l <;>
    simp [AttSet.below_iff, closes, AttSet.union, AttSet.ofHoldChanged, AttSet.ofWaitCleared, AttSet.ofBladeFault, AttSet.empty]

end BladeNews

/-! ### An event that gives a head a new channel -/

/-- State a with channel d at head h, and the news of it. -/
def State.struck (a : State) (h : HeadId) (free : Nat) (d : Channel) (ready bladeFault : Bool) : State :=
  State.bladeNews h ready bladeFault (({ a with free := free } : State).setBlade h d)

section Struck

variable {a : State} {h : HeadId} {free : Nat} {d : Channel} {ready bladeFault : Bool}

theorem State.struck_own : (a.struck h free d ready bladeFault).head h = { a.head h with
    blade := d
    watch := if ready = true ∧ (a.head h).watch.reasons.bladeNotReady = true then Watch.empty else (a.head h).watch } := by
  have own := State.bladeNews_own (({ a with free := free } : State).setBlade h d) h ready bladeFault
  rw [State.setBlade_head_self] at own
  exact own

theorem State.struck_other : (a.struck h free d ready bladeFault).head h.other = a.head h.other :=
  (State.bladeNews_other ..).trans (State.setBlade_head_other ..)

theorem State.struck_rest : a.struck h free d ready bladeFault = { a with
    heads := (a.struck h free d ready bladeFault).heads, links := (a.struck h free d ready bladeFault).links, free := free } :=
  State.bladeNews_rest (({ a with free := free } : State).setBlade h d) h ready bladeFault

theorem State.struck_hears : State.Hears (fun _ => AttSet.ofWaitCleared.union AttSet.ofBladeFault) a
    (a.struck h free d ready bladeFault) :=
  (State.Hears.of_links (s := a) (t := ({ a with free := free } : State).setBlade h d) rfl).trans
    (State.bladeNews_hears_news _ h ready bladeFault)

theorem State.struck_path (i : HeadId) : SamePath a (a.struck h free d ready bladeFault) i := by
  rw [SamePath, SameNumbering, SamePlace]
  obtain rfl | rfl := HeadId.eq_or_other h i
  · rw [State.struck_own]
    exact ⟨rfl, rfl, rfl, rfl, ⟨rfl, rfl, rfl⟩, rfl, rfl⟩
  · rw [State.struck_other]
    exact ⟨rfl, rfl, rfl, rfl, ⟨rfl, rfl, rfl⟩, rfl, rfl⟩

theorem State.closeEvent_struck_rest : State.closeEvent a (a.struck h free d ready bladeFault) = { a with
    heads := (State.closeEvent a (a.struck h free d ready bladeFault)).heads
    links := (State.closeEvent a (a.struck h free d ready bladeFault)).links, free := free } := by
  have closed := State.closeEvent_rest a (a.struck h free d ready bladeFault)
  have rest := State.struck_rest (a := a) (h := h) (free := free) (d := d) (ready := ready) (bladeFault := bladeFault)
  generalize State.closeEvent a (a.struck h free d ready bladeFault) = t at closed ⊢
  rw [rest] at closed
  exact closed

theorem State.closeEvent_struck_other (steady : a.Steady h.other) :
    (State.closeEvent a (a.struck h free d ready bladeFault)).head h.other = a.head h.other :=
  State.expired_other steady State.struck_other (by rw [State.struck_rest]) (by rw [State.struck_rest]) (by rw [State.struck_own])

section Demanded

variable (now : a.DemandNow h) (demand : d.demand = (a.head h).blade.demand) (idle : d.idleTimer = (a.head h).blade.idleTimer)
  (stop : d.stopTimer = (a.head h).blade.stopTimer)

include now demand idle stop

/-- Closing the event leaves the channel, and brings the set up to date (R103, R134). -/
theorem State.closeEvent_struck_head :
    ((State.closeEvent a (a.struck h free d ready bladeFault)).head h).blade = d ∧
      ((State.closeEvent a (a.struck h free d ready bladeFault)).head h).hold =
        { a.holdNow h with blade := ({ a.head h with blade := d } : Head).bladeHolds } := by
  have own := State.struck_own (a := a) (h := h) (free := free) (d := d) (ready := ready) (bladeFault := bladeFault)
  have job : (a.struck h free d ready bladeFault).job = a.job := by rw [State.struck_rest]
  have zones : (a.struck h free d ready bladeFault).zones = a.zones := by rw [State.struck_rest]
  have after : (a.struck h free d ready bladeFault).DemandNow h :=
    now.of_same (by rw [job]) (by rw [own]) (by rw [own]) (by rw [own]) (by rw [own, demand]) (by rw [own, idle]) (by rw [own, stop])
  have stood : (a.head h).standsBy a.job.state.isOpen =
      ((a.struck h free d ready bladeFault).head h).standsBy (a.struck h free d ready bladeFault).job.state.isOpen := by
    rw [job, own, Head.standsBy, Head.standsBy, Head.cutCondition, Head.cutCondition, idle]
    rfl
  have closed := State.closeEvent_undemanding (b := a) after stood
  have held : (a.struck h free d ready bladeFault).holdNow h =
      { a.holdNow h with blade := ({ a.head h with blade := d } : Head).bladeHolds } := by
    have zone : (a.struck h free d ready bladeFault).zoneHolds h = a.zoneHolds h :=
      State.zoneHolds_of (State.zoneStates_of_zones zones) (by rw [own])
    rw [State.holdNow, job, zone, own]
    rfl
  rw [closed, held, own]
  exact ⟨rfl, rfl⟩

end Demanded

end Struck

/-! ### The stroke watch -/

/-- Settles O45: a stroke watch that runs out is STROKE-LOST. -/
theorem strokeWatchRunsOut : Obligations.StrokeWatchRunsOut := by
  refine fun s h => ⟨fun none => ?_, fun left runs accepts steady => ?_⟩
  · show Host.Outcome.next (s.strokeWatchExpiry h) = _
    rw [State.strokeWatchExpiry, none]
    rfl
  · intro mode
    let c := ((s.elapse left).head h).blade
    let g := ((s.elapse left).head h).guard
    have taken : exec (.strokeWatchExpiry h) s = .next (State.closeEvent (s.elapse left)
        ((s.elapse left).struck h s.free (c.strokeLost g) false (!(c.strokeLost g).st.accepts))) := by
      show Host.Outcome.next (s.strokeWatchExpiry h) = _
      rw [State.strokeWatchExpiry, runs]
      rfl
    have before : c = (s.head h).blade.elapse left := by
      show ((s.elapse left).head h).blade = _
      rw [State.head_elapse]
      rfl
    have guards : g = (s.head h).guard := by
      show ((s.elapse left).head h).guard = _
      rw [State.head_elapse]
      rfl
    have body := State.struck_hears (a := s.elapse left) (h := h) (free := s.free) (d := c.strokeLost g) (ready := false)
      (bladeFault := !(c.strokeLost g).st.accepts)
    have hears := State.expired_hears body (u := fun _ => (AttSet.ofWaitCleared.union AttSet.ofHoldChanged).union AttSet.ofBladeFault)
      (fun _ => news_below) (closes_below_fault _ _)
    have keeps := c.strokeLost_keepsCourse g
    obtain ⟨blade, hold⟩ := State.closeEvent_struck_head (free := s.free) (ready := false)
      (bladeFault := !(c.strokeLost g).st.accepts) (steady.elapse left).demandNow keeps.demand keeps.idle keeps.stop
    refine ⟨_, taken, State.closeEvent_struck_rest, State.expired_quiet body, hears.raisesOnly fun _ => AttSet.below_refl _,
      fun i => State.closeEvent_samePath _ ((s.samePath_elapse left i).trans (State.struck_path i)), fun steady' => ?_, ?_, ?_, ?_, ?_, ?_,
      fun tested => ?_, fun ignored => ?_, fun reported => ?_, fun moved cuts => ?_⟩
    · rw [← State.head_elapse]
      exact State.closeEvent_struck_other (steady'.elapse left)
    · have answered := c.strokeLost_to g
      rw [blade]
      rw [guards] at answered ⊢
      rw [before] at answered ⊢
      exact answered.congr ⟨rfl, rfl, rfl⟩ ⟨rfl, rfl, rfl, rfl, rfl⟩
    · rw [blade, keeps.demand, before]
      rfl
    · rw [blade, keeps.trim, before]
      rfl
    · rw [blade, keeps.lastAvg, before]
      rfl
    · rw [blade, keeps.strokes, before]
      rfl
    · have recorded := c.strokeLost_records (g := g) (by rw [guards]; exact tested)
      rw [blade]
      rw [before] at recorded ⊢
      exact recorded
    · have unwatched := c.strokeLost_ignored g (by rw [guards]; exact ignored)
      rw [blade, unwatched, before]
      exact ⟨rfl, rfl⟩
    · rw [blade, Channel.strokeLost_reported g c (by rw [guards]; exact reported), before]
      rfl
    · rw [blade] at moved
      have out := c.strokeLost_leaves g (by rw [before] at moved ⊢; exact moved)
      have holds : ({ (s.elapse left).head h with blade := c.strokeLost g } : Head).holdsCut = true := by
        rw [State.head_elapse]
        exact cuts
      rw [hold]
      show ({ (s.elapse left).head h with blade := c.strokeLost g } : Head).bladeHolds = true
      rw [Head.bladeHolds, holds, out]
      rfl

end Sys2Proof.Machine

/-! PROOFS. Which index pulses count, and the rows that name what a pulse brings about (R110, R113, R120). -/

namespace Sys2Proof.Machine

/-! ### What stays of an accepted pulse -/

/-- Channel d is what came of channel c after its pulse was accepted: demand and delays, and the stroke's count and measurements,
stand (R110, R113). -/
structure Channel.SameStroke (c d : Channel) : Prop where
  demand : d.demand = c.demand
  idle : d.idleTimer = c.idleTimer
  stop : d.stopTimer = c.stopTimer
  seen : d.pulseSeen = c.pulseSeen
  since : d.since = c.since
  strokes : d.strokes = c.strokes
  period : d.period = c.period
  lastAvg : d.lastAvg = c.lastAvg
  lastPeak : d.lastPeak = c.lastPeak
  going : d.st.accepts = true → c.st.accepts = true ∧ d.measured = c.measured

theorem Channel.SameStroke.refl (c : Channel) : Channel.SameStroke c c :=
  ⟨rfl, rfl, rfl, rfl, rfl, rfl, rfl, rfl, rfl, fun going => ⟨going, rfl⟩⟩

theorem Channel.SameStroke.trans {c d e : Channel} (one : Channel.SameStroke c d) (two : Channel.SameStroke d e) :
    Channel.SameStroke c e :=
  ⟨two.demand.trans one.demand, two.idle.trans one.idle, two.stop.trans one.stop, two.seen.trans one.seen,
    two.since.trans one.since, two.strokes.trans one.strokes, two.period.trans one.period, two.lastAvg.trans one.lastAvg,
    two.lastPeak.trans one.lastPeak, fun going =>
      have ⟨went, measured⟩ := two.going going
      have ⟨accepts, measured'⟩ := one.going went
      ⟨accepts, measured.trans measured'⟩⟩

theorem Channel.respond_sameStroke (g : GuardSettings) (k : FaultKind) (c : Channel) : Channel.SameStroke c (c.respond g k) := by
  have responds := c.respond_responds g k
  generalize c.respond g k = d at responds ⊢
  cases responds with
  | stays => exact ⟨rfl, rfl, rfl, rfl, rfl, rfl, rfl, rfl, rfl, fun going => ⟨going, rfl⟩⟩
  | latches | retries => exact ⟨rfl, rfl, rfl, rfl, rfl, rfl, rfl, rfl, rfl, fun going => by cases going⟩

theorem Channel.judgeTrim_sameStroke (p : BladeParams) (k : Stroke) (c : Channel) :
    Channel.SameStroke c (c.judgeTrim p k).1 := by
  unfold Channel.judgeTrim
  repeat' split
  all_goals exact ⟨rfl, rfl, rfl, rfl, rfl, rfl, rfl, rfl, rfl, fun going => ⟨going, rfl⟩⟩

theorem Channel.relieve_sameStroke (g : GuardSettings) (k : Stroke) (ce : Channel × StrokeEvents) :
    Channel.SameStroke ce.1 (Channel.relieve g k ce).1 := by
  unfold Channel.relieve
  dsimp only
  repeat' split
  all_goals exact ⟨rfl, rfl, rfl, rfl, rfl, rfl, rfl, rfl, rfl, fun going => ⟨going, rfl⟩⟩

theorem Channel.ownWork_sameStroke (p : BladeParams) (g : GuardSettings) (k : Stroke) (c : Channel) :
    Channel.SameStroke c (c.ownWork p g k).1 := by
  unfold Channel.ownWork
  split
  · exact ⟨rfl, rfl, rfl, rfl, rfl, rfl, rfl, rfl, rfl, fun going => ⟨going, rfl⟩⟩
  · exact ⟨rfl, rfl, rfl, rfl, rfl, rfl, rfl, rfl, rfl, fun going => ⟨going, rfl⟩⟩
  · split
    · exact (c.judgeTrim_sameStroke p k).trans (Channel.relieve_sameStroke g k _)
    · exact .refl c
  · exact .refl c
  · exact .refl c
  · exact .refl c

section Tests

variable (g : GuardSettings) (k : Stroke) (ce : Channel × StrokeEvents)

theorem testRough_sameStroke : Channel.SameStroke ce.1 (testRough g k ce).1 := by
  have noted : Channel.SameStroke ce.1 { ce.1 with lastRunPeriod := some k.period } :=
    ⟨rfl, rfl, rfl, rfl, rfl, rfl, rfl, rfl, rfl, fun going => ⟨going, rfl⟩⟩
  unfold testRough
  dsimp only
  split
  · split
    · exact noted.trans (Channel.respond_sameStroke ..)
    · exact noted
  · exact .refl _

theorem testNoSettle_sameStroke : Channel.SameStroke ce.1 (testNoSettle g k ce).1 := by
  have noted : Channel.SameStroke ce.1 { ce.1 with settleStrokes := 0 } :=
    ⟨rfl, rfl, rfl, rfl, rfl, rfl, rfl, rfl, rfl, fun going => ⟨going, rfl⟩⟩
  unfold testNoSettle
  split
  · exact noted.trans (Channel.respond_sameStroke ..)
  · exact .refl _

theorem testOverload_sameStroke : Channel.SameStroke ce.1 (testOverload g k ce).1 := by
  have counted (n : Nat) : Channel.SameStroke ce.1 { ce.1 with lockRun := n } :=
    ⟨rfl, rfl, rfl, rfl, rfl, rfl, rfl, rfl, rfl, fun going => ⟨going, rfl⟩⟩
  unfold testOverload
  dsimp only
  generalize (if g.lockLimit < k.average then ce.1.lockRun + 1 else 0) = n
  generalize (if decide (g.lockStrokes ≤ n) = true then 0 else n) = m
  split
  · split
    · exact (counted m).trans (Channel.respond_sameStroke ..)
    · exact counted m
  · exact .refl _

theorem testMissing_sameStroke : Channel.SameStroke ce.1 (testMissing g k ce).1 := by
  have counted (n : Nat) : Channel.SameStroke ce.1 { ce.1 with missRun := n } :=
    ⟨rfl, rfl, rfl, rfl, rfl, rfl, rfl, rfl, rfl, fun going => ⟨going, rfl⟩⟩
  unfold testMissing
  split
  · split
    · split
      · exact (counted 0).trans (Channel.respond_sameStroke ..)
      · exact counted _
    · exact counted 0
  · exact .refl _

theorem countClean_sameStroke : Channel.SameStroke ce.1 (countClean k ce).1 := by
  unfold countClean
  repeat' split
  all_goals exact ⟨rfl, rfl, rfl, rfl, rfl, rfl, rfl, rfl, rfl, fun going => ⟨going, rfl⟩⟩

theorem unlessOut_sameStroke {test : Channel × StrokeEvents → Channel × StrokeEvents}
    (keeps : ∀ ce, Channel.SameStroke ce.1 (test ce).1) : Channel.SameStroke ce.1 (unlessOut test ce).1 := by
  unfold unlessOut
  split
  · exact .refl _
  · exact keeps ce

/-- The guard's tests leave the stroke's count and measurements (R124). -/
theorem guardTests_sameStroke : Channel.SameStroke ce.1 (guardTests g k ce).1 :=
  ((((testRough_sameStroke g k ce).trans (unlessOut_sameStroke _ (testNoSettle_sameStroke g k))).trans
    (unlessOut_sameStroke _ (testOverload_sameStroke g k))).trans (unlessOut_sameStroke _ (testMissing_sameStroke g k))).trans
      (unlessOut_sameStroke _ (countClean_sameStroke k))

end Tests

/-- The move of a channel's own work leaves the stroke's count and measurements (R107, R112). -/
theorem ownMove_sameStroke (p : BladeParams) {st : ChState} (runs : st.accepts = true) {ce : Channel × StrokeEvents}
    (tracks : Tracks st ce) : Channel.SameStroke ce.1 (ownMove p ce).1 := by
  unfold ownMove
  split
  · exact .refl _
  · next going =>
    have same : ce.1.st = st := tracks.elim And.right fun out => absurd out.1 going
    have accepts : ce.1.st.accepts = true := by rw [same, runs]
    split
    · unfold Channel.nextStep
      split <;> exact ⟨rfl, rfl, rfl, rfl, rfl, rfl, rfl, rfl, rfl, fun _ => ⟨accepts, rfl⟩⟩
    · split
      · exact ⟨rfl, rfl, rfl, rfl, rfl, rfl, rfl, rfl, rfl, fun _ => ⟨accepts, rfl⟩⟩
      · exact .refl _

/-! ### An accepted pulse -/

/-- The channel whose pulse has been accepted, with the stroke measured where it ends one (R110, R113). -/
def Head.accepted (samples : List Sample) (noAvg noPeak : Nat) (hd : Head) : Channel :=
  if hd.blade.pulseSeen = true then
    (hd.blade.addSamples samples).measure (({ hd with blade := hd.blade.addSamples samples } : Head).strokeEnded noAvg noPeak)
  else (hd.blade.addSamples samples).acceptPulse

/-- Count and measurements of the stroke stand to the end of the pulse's work (R124). -/
theorem Head.pulsed_sameStroke (samples : List Sample) (noAvg noPeak : Nat) {hd : Head} (runs : hd.blade.st.accepts = true) :
    Channel.SameStroke (hd.accepted samples noAvg noPeak) (hd.pulsed samples noAvg noPeak).1 := by
  unfold Head.pulsed Head.pulseWork Head.accepted
  have seen : ({ hd with blade := hd.blade.addSamples samples } : Head).blade.pulseSeen = hd.blade.pulseSeen := rfl
  dsimp only
  rw [seen]
  split
  · obtain ⟨same, going⟩ := Channel.ownWork_st hd.bladeParams hd.guard
      (({ hd with blade := hd.blade.addSamples samples } : Head).strokeEnded noAvg noPeak)
      (Channel.measure (({ hd with blade := hd.blade.addSamples samples } : Head).strokeEnded noAvg noPeak)
        (hd.blade.addSamples samples))
    exact ((Channel.ownWork_sameStroke ..).trans (guardTests_sameStroke ..)).trans
      (ownMove_sameStroke _ runs (guardTests_tracks runs hd.guard _ (.inl ⟨going, same⟩) going))
  · split
    · refine .trans ?_ (ownMove_sameStroke _ runs (.inl ⟨rfl, rfl⟩))
      exact ⟨rfl, rfl, rfl, rfl, rfl, rfl, rfl, rfl, rfl, fun going => ⟨going, rfl⟩⟩
    · exact .refl _

/-- What an index pulse makes of the channel of head h, and the events it brings about, where it is accepted (R110, R124). -/
def State.pulsed (s : State) (h : HeadId) (p : Pulse) : Channel × StrokeEvents :=
  ((s.elapse p.after).head h).pulsed p.samples (Config.noSampleAverage s.free).toNat (Config.noSamplePeak s.free).toNat

/-- The free values left after a pulse: a stroke without samples uses one up (log 11). -/
def State.pulsedFree (s : State) (h : HeadId) (p : Pulse) : Nat :=
  if ((s.head h).blade.pulseSeen && decide ((s.head h).blade.sampleCount + p.samples.length = 0)) = true then s.free + 1 else s.free

section Accepted

variable {s : State} {h : HeadId} {p : Pulse}

theorem State.elapse_blade (s : State) (d : Nat) (h : HeadId) : ((s.elapse d).head h).blade = (s.head h).blade.elapse d := by
  rw [State.head_elapse]
  rfl

theorem Channel.elapse_since {c : Channel} (accepts : c.st.accepts = true) (d : Nat) : (c.elapse d).since = c.since + d :=
  if_pos accepts

/-- A channel blanks a pulse within half the expected period of the last (R110). -/
theorem Channel.blanks_elapse {c : Channel} (accepts : c.st.accepts = true) (p : Pulse) : ((c.elapse p.after).addSamples p.samples).blanks = true ↔
    c.pulseSeen = true ∧ 2 * (c.since + p.after) < 60000000 / c.commanded := by
  have since := Channel.elapse_since accepts p.after
  rw [Channel.blanks, Bool.and_eq_true, decide_eq_true_iff, Channel.addSamples, since]
  rfl

variable (accepts : (s.head h).blade.st.accepts = true) (inTime : (s.head h).InTime p)

include accepts inTime

theorem State.pulse_blanked (seen : (s.head h).blade.pulseSeen = true)
    (soon : 2 * ((s.head h).blade.since + p.after) < 60000000 / (s.head h).blade.commanded) :
    s.pulse h p = (s.elapse p.after).setBlade h (((s.head h).blade.elapse p.after).addSamples p.samples) := by
  have going : ¬ ((s.elapse p.after).head h).blade.st.accepts = false := by
    rw [State.elapse_blade]
    simpa using accepts
  have blanks : (((s.elapse p.after).head h).blade.addSamples p.samples).blanks = true := by
    rw [State.elapse_blade]
    exact (Channel.blanks_elapse accepts p).mpr ⟨seen, soon⟩
  rw [State.pulse, State.beforePulse_inTime inTime]
  dsimp only
  rw [if_neg going, if_pos blanks, State.elapse_blade]

variable (unblanked : (s.head h).blade.pulseSeen = false ∨
  60000000 / (s.head h).blade.commanded ≤ 2 * ((s.head h).blade.since + p.after))

include unblanked

omit inTime in
theorem State.not_blanks : (((s.elapse p.after).head h).blade.addSamples p.samples).blanks = false := by
  rw [State.elapse_blade, Bool.eq_false_iff, ne_eq, Channel.blanks_elapse accepts]
  rintro ⟨seen, soon⟩
  obtain unseen | late := unblanked
  · rw [seen] at unseen
    cases unseen
  · omega

/-- An accepted pulse gives the head a new channel (R110, R124). -/
theorem State.pulse_accepted : s.pulse h p = State.closeEvent (s.elapse p.after)
    ((s.elapse p.after).struck h (s.pulsedFree h p) (s.pulsed h p).1 (s.pulsed h p).2.ready (s.pulsed h p).2.bladeFault) := by
  have going : ¬ ((s.elapse p.after).head h).blade.st.accepts = false := by
    rw [State.elapse_blade]
    simpa using accepts
  have blanks := State.not_blanks accepts unblanked
  have free : (if (((s.elapse p.after).head h).blade.pulseSeen &&
      decide ((((s.elapse p.after).head h).blade.addSamples p.samples).sampleCount = 0)) = true then s.free + 1 else s.free) =
      s.pulsedFree h p := by
    rw [State.elapse_blade]
    rfl
  rw [State.pulse, State.beforePulse_inTime inTime]
  dsimp only
  rw [if_neg going, if_neg (by rw [blanks]; exact Bool.false_ne_true), free]
  rfl

theorem State.pulseEvents_accepted : s.pulseEvents h p = (s.pulsed h p).2 := by
  have going : ((s.elapse p.after).head h).blade.st.accepts = true := by
    rw [State.elapse_blade]
    exact accepts
  have blanks := State.not_blanks accepts unblanked
  rw [State.pulseEvents, State.beforePulse_inTime inTime]
  exact if_pos (by rw [going, blanks]; rfl)

end Accepted

/-! ### A stroke watch that runs out before the pulse -/

/-- Demand, rate and stroke watch of a head as the time before a pulse needs them: a watch that runs starts afresh with a
length no shorter than two microseconds (R106, R111). -/
structure State.Watched (s : State) (h : HeadId) : Prop where
  now : s.DemandNow h
  rate : (s.head h).blade.st.accepts = true → 300 ≤ (s.head h).blade.commanded ∧ (s.head h).blade.commanded ≤ 3000
  long : ∀ left ∈ (s.head h).blade.watchLeft, 2 ≤ left

theorem State.DemandNow.elapse {s : State} {h : HeadId} (now : s.DemandNow h) (d : Nat) : (s.elapse d).DemandNow h := by
  refine now.of_same rfl ?_ ?_ ?_ ?_ ?_ ?_ <;> rw [State.head_elapse]
  · rfl
  · rfl
  · rfl
  · rfl
  · exact timerAfter_isSome d _
  · exact timerAfter_isSome d _

/-- A lost stroke that leaves a channel running leaves its rate, and any watch it starts is long (R111, R120). -/
theorem Channel.strokeLost_watched (g : GuardSettings) {c : Channel} (rate : 300 ≤ c.commanded ∧ c.commanded ≤ 3000) :
    ((c.strokeLost g).st.accepts = true → (c.strokeLost g).commanded = c.commanded) ∧
      ∀ left ∈ (c.strokeLost g).watchLeft, 2 ≤ left := by
  obtain ⟨low, high⟩ := rate
  have period : 2 ≤ 3 * (60000000 / c.commanded) := by
    have : 20000 ≤ 60000000 / c.commanded := (Nat.le_div_iff_mul_le (by omega)).mpr (by omega)
    omega
  have retried (brake : Bool) : (((c.recordFault .strokeLost).retry g brake).st.accepts = false) ∧
      ((c.recordFault .strokeLost).retry g brake).watchLeft = none := by
    unfold Channel.retry
    split <;> exact ⟨rfl, rfl⟩
  unfold Channel.strokeLost Channel.respond
  have kind : g.modes.get .strokeLost = g.modes.strokeLost := rfl
  rw [kind]
  cases g.modes.strokeLost with
  | latchCoast | latchBrake =>
    refine ⟨fun going => ?_, fun left runs => ?_⟩
    · cases going
    · cases runs
  | retryCoast | retryBrake =>
    dsimp only
    rw [(retried _).1, (retried _).2]
    exact ⟨fun going => (by cases going), fun left runs => (by cases runs)⟩
  | ignore => exact ⟨fun _ => rfl, fun left runs => by cases runs⟩
  | report =>
    refine ⟨fun _ => rfl, fun left runs => ?_⟩
    obtain rfl := Option.some.inj runs
    split
    · decide
    · exact period

/-- The expiry of a running watch, which leaves the head watched (R120). -/
theorem State.strokeWatchExpiry_watched {s : State} {h : HeadId} {left : Nat} (now : s.DemandNow h)
    (runs : (s.head h).blade.watchLeft = some left)
    (rate : 300 ≤ (s.head h).blade.commanded ∧ (s.head h).blade.commanded ≤ 3000) :
    (s.strokeWatchExpiry h).Watched h ∧ (s.strokeWatchExpiry h).free = s.free := by
  let c := ((s.elapse left).head h).blade
  let g := ((s.elapse left).head h).guard
  have taken : s.strokeWatchExpiry h = State.closeEvent (s.elapse left)
      ((s.elapse left).struck h s.free (c.strokeLost g) false (!(c.strokeLost g).st.accepts)) := by
    rw [State.strokeWatchExpiry, runs]
    rfl
  have keeps := c.strokeLost_keepsCourse g
  obtain ⟨blade, -⟩ := State.closeEvent_struck_head (free := s.free) (ready := false)
    (bladeFault := !(c.strokeLost g).st.accepts) (now.elapse left) keeps.demand keeps.idle keeps.stop
  have rated : 300 ≤ c.commanded ∧ c.commanded ≤ 3000 := by
    show 300 ≤ ((s.elapse left).head h).blade.commanded ∧ ((s.elapse left).head h).blade.commanded ≤ 3000
    rw [State.elapse_blade]
    exact rate
  obtain ⟨commanded, long⟩ := Channel.strokeLost_watched g rated
  rw [taken]
  refine ⟨⟨State.closeEvent_demandNow .., ?_, ?_⟩, by rw [State.closeEvent_struck_rest]⟩
  · rw [blade]
    intro going
    rw [commanded going]
    exact rated
  · rw [blade]
    exact long

/-- Where every watch is long, half the time is fuel enough, and more changes nothing (R120). -/
theorem State.awaitPulse_fuel {h : HeadId} {f f' d : Nat} {s : State} (watched : s.Watched h) (enough : d ≤ 2 * f + 1)
    (enough' : d ≤ 2 * f' + 1) : State.awaitPulse h f d s = State.awaitPulse h f' d s := by
  induction f generalizing f' d s with
  | zero =>
    have inTime : ∀ left ∈ (s.head h).blade.watchLeft, d ≤ left := fun left runs => by
      have := watched.long left runs
      omega
    rw [State.awaitPulse_inTime h 0 inTime, State.awaitPulse_inTime h f' inTime]
  | succ n ih =>
    by_cases out : ∃ left, (s.head h).blade.watchLeft = some left ∧ (s.head h).blade.st.accepts = true ∧ left < d
    · obtain ⟨left, runs, accepts, late⟩ := out
      have long := watched.long left runs
      obtain ⟨m, rfl⟩ : ∃ m, f' = m + 1 := ⟨f' - 1, by omega⟩
      have next (k : Nat) : State.awaitPulse h (k + 1) d s = State.awaitPulse h k (d - left) (s.strokeWatchExpiry h) := by
        rw [State.awaitPulse, runs]
        exact if_pos ⟨accepts, late⟩
      rw [next, next]
      exact ih (State.strokeWatchExpiry_watched watched.now runs (watched.rate accepts)).1 (by omega) (by omega)
    · by_cases accepts : (s.head h).blade.st.accepts = true
      · have inTime : ∀ left ∈ (s.head h).blade.watchLeft, d ≤ left := fun left runs =>
          Nat.not_lt.mp fun late => out ⟨left, runs, accepts, late⟩
        rw [State.awaitPulse_inTime h _ inTime, State.awaitPulse_inTime h f' inTime]
      · have off : (s.head h).blade.st.accepts = false := by simpa using accepts
        rw [State.awaitPulse_off h _ d off, State.awaitPulse_off h f' d off]

/-- A pulse works on what the time before it left (R120). -/
theorem State.pulse_of_before {s t : State} {h : HeadId} {p q : Pulse} (before : s.beforePulse h p = t.beforePulse h q)
    (samples : q.samples = p.samples) (free : t.free = s.free) : s.pulse h p = t.pulse h q := by
  rw [State.pulse, State.pulse, before, samples, free]

/-- A watch that runs out before the pulse is STROKE-LOST first (R120). -/
theorem State.pulse_late {s : State} {h : HeadId} {p : Pulse} {left : Nat} (now : s.DemandNow h)
    (accepts : (s.head h).blade.st.accepts = true) (runs : (s.head h).blade.watchLeft = some left) (late : left < p.after)
    (rate : 300 ≤ (s.head h).blade.commanded ∧ (s.head h).blade.commanded ≤ 3000) :
    s.pulse h p = (s.strokeWatchExpiry h).pulse h ⟨p.after - left, p.samples⟩ := by
  obtain ⟨watched, free⟩ := State.strokeWatchExpiry_watched now runs rate
  refine State.pulse_of_before ?_ rfl free
  obtain ⟨n, e⟩ : ∃ n, p.after = n + 1 := ⟨p.after - 1, by omega⟩
  have next : s.beforePulse h p = State.awaitPulse h n (p.after - left) (s.strokeWatchExpiry h) := by
    rw [State.beforePulse, e, State.awaitPulse, runs]
    exact if_pos ⟨accepts, by omega⟩
  rw [next]
  refine State.awaitPulse_fuel watched (by omega) ?_
  show p.after - left ≤ 2 * (p.after - left) + 1
  omega

/-! ### The measurements of a pulse -/

/-- Channel d has a stroke begun: its pulse has been accepted (R110, R113). -/
structure Channel.Begun (c d : Channel) : Prop where
  demand : d.demand = c.demand
  idle : d.idleTimer = c.idleTimer
  stop : d.stopTimer = c.stopTimer
  seen : d.pulseSeen = true
  since : d.since = 0
  strokes : d.strokes = min 65535 (c.strokes + 1)

theorem Head.accepted_begun (samples : List Sample) (x y : Nat) (hd : Head) :
    Channel.Begun hd.blade (hd.accepted samples x y) := by
  unfold Head.accepted
  split <;> exact ⟨rfl, rfl, rfl, rfl, rfl, rfl⟩

section Measured

variable {s : State} {h : HeadId} {p : Pulse}

/-- The channel whose pulse has been accepted, as its measurements stand to the end of the pulse's work (R110, R113). -/
theorem State.pulsed_sameStroke (accepts : (s.head h).blade.st.accepts = true) :
    Channel.SameStroke (((s.elapse p.after).head h).accepted p.samples (Config.noSampleAverage s.free).toNat
      (Config.noSamplePeak s.free).toNat) (s.pulsed h p).1 :=
  Head.pulsed_sameStroke _ _ _ (by rw [State.elapse_blade]; exact accepts)

/-- The channel and the reason set that an accepted pulse leaves (R110, R134). -/
theorem State.pulse_head (accepts : (s.head h).blade.st.accepts = true) (inTime : (s.head h).InTime p)
    (unblanked : (s.head h).blade.pulseSeen = false ∨
      60000000 / (s.head h).blade.commanded ≤ 2 * ((s.head h).blade.since + p.after)) (now : s.DemandNow h) :
    ((s.pulse h p).head h).blade = (s.pulsed h p).1 ∧ ((s.pulse h p).head h).hold =
      { (s.elapse p.after).holdNow h with
        blade := ({ (s.elapse p.after).head h with blade := (s.pulsed h p).1 } : Head).bladeHolds } := by
  have keeps := State.pulsed_sameStroke (p := p) accepts
  have begun := ((s.elapse p.after).head h).accepted_begun p.samples (Config.noSampleAverage s.free).toNat
    (Config.noSamplePeak s.free).toNat
  rw [State.pulse_accepted accepts inTime unblanked]
  exact State.closeEvent_struck_head (now.elapse p.after) (keeps.demand.trans begun.demand) (keeps.idle.trans begun.idle)
    (keeps.stop.trans begun.stop)

variable (x y : Nat)

theorem Head.accepted_first {hd : Head} (first : hd.blade.pulseSeen = false) (samples : List Sample) :
    hd.accepted samples x y = (hd.blade.addSamples samples).acceptPulse :=
  if_neg (by rw [first]; exact Bool.false_ne_true)

/-- The stroke that a pulse ends, where a sample was taken in it (R113). -/
def Head.ended (hd : Head) (p : Pulse) : Stroke :=
  ⟨hd.blade.st, hd.blade.target, hd.feeding, hd.strokePeriod p, hd.strokeAverage p, hd.strokePeak p⟩

theorem Head.strokeEnded_sampled {hd : Head} (accepts : hd.blade.st.accepts = true) (sampled : hd.blade.sampleCount + p.samples.length ≠ 0) :
    ({ hd.elapse p.after with blade := (hd.elapse p.after).blade.addSamples p.samples } : Head).strokeEnded x y = hd.ended p := by
  have since : (hd.elapse p.after).blade.since = hd.strokePeriod p := Channel.elapse_since accepts p.after
  unfold Head.strokeEnded
  dsimp only
  rw [if_neg (by exact sampled), if_neg (by exact sampled), Channel.addSamples]
  dsimp only
  rw [since]
  rfl

theorem Head.accepted_ended {hd : Head} (ends : hd.EndsStroke p) : (hd.elapse p.after).accepted p.samples x y =
    ((hd.blade.elapse p.after).addSamples p.samples).measure (hd.ended p) := by
  obtain ⟨accepts, seen, -, -, sampled⟩ := ends
  refine (if_pos seen).trans ?_
  rw [Head.strokeEnded_sampled x y accepts sampled]
  rfl

/-- A pulse that ends a stroke is not blanked (R110). -/
theorem Head.EndsStroke.unblanked {hd : Head} (ends : hd.EndsStroke p) :
    hd.blade.pulseSeen = false ∨ 60000000 / hd.blade.commanded ≤ 2 * (hd.blade.since + p.after) := by
  obtain ⟨-, -, -, period, -⟩ := ends
  exact .inr period

theorem State.pulsedFree_first (first : (s.head h).blade.pulseSeen = false) : s.pulsedFree h p = s.free :=
  if_neg (by rw [first]; exact Bool.false_ne_true)

theorem State.pulsedFree_ended (ends : (s.head h).EndsStroke p) : s.pulsedFree h p = s.free := by
  obtain ⟨-, -, -, -, sampled⟩ := ends
  refine if_neg ?_
  simpa using fun _ empty => by simpa [empty] using sampled

end Measured

/-! ### The rows that name an outcome -/

/-- A row that names what a pulse brings about is that pulse where it does, and nothing where it does not (log 5, log 28). -/
theorem exec_named (flag : StrokeEvents → Bool) (s : State) (h : HeadId) (p : Pulse) :
    Host.Outcome.next (State.pulseThat flag s h p) =
      if flag (s.pulseEvents h p) = true then exec (.indexPulse h p) s else (.next s : Host.Outcome State Fault Refusal) := by
  unfold State.pulseThat
  split <;> rfl

/-- Settles O46: which index pulses count. -/
theorem indexPulsesCount : Obligations.IndexPulsesCount := by
  intro s h p
  refine ⟨fun off => ?_, fun left steady accepts runs late low high => ?_, fun accepts inTime seen soon => ?_,
    fun accepts inTime unblanked steady => ?_, fun row flag named => ?_⟩
  · exact congrArg Host.Outcome.next (State.pulse_off p off)
  · exact ⟨_, rfl, congrArg Host.Outcome.next (State.pulse_late steady.demandNow accepts runs late ⟨low, high⟩)⟩
  · refine congrArg Host.Outcome.next ((State.pulse_blanked accepts inTime seen soon).trans ?_)
    rw [State.setBlade, State.modHead, State.modHead, State.elapse_blade]
    rfl
  · have taken : exec (.indexPulse h p) s = .next (State.closeEvent (s.elapse p.after)
        ((s.elapse p.after).struck h (s.pulsedFree h p) (s.pulsed h p).1 (s.pulsed h p).2.ready (s.pulsed h p).2.bladeFault)) :=
      congrArg Host.Outcome.next (State.pulse_accepted accepts inTime unblanked)
    have body := State.struck_hears (a := s.elapse p.after) (h := h) (free := s.pulsedFree h p) (d := (s.pulsed h p).1)
      (ready := (s.pulsed h p).2.ready) (bladeFault := (s.pulsed h p).2.bladeFault)
    have hears := State.expired_hears body (u := fun _ => (AttSet.ofWaitCleared.union AttSet.ofHoldChanged).union AttSet.ofBladeFault)
      (fun _ => news_below) (closes_below_fault _ _)
    have keeps := State.pulsed_sameStroke (p := p) accepts
    have begun := ((s.elapse p.after).head h).accepted_begun p.samples (Config.noSampleAverage s.free).toNat
      (Config.noSamplePeak s.free).toNat
    rw [State.head_elapse] at keeps begun
    have blade := (State.pulse_head accepts inTime unblanked steady.demandNow).1
    rw [State.pulse_accepted accepts inTime unblanked] at blade
    refine ⟨_, taken, ?_, State.expired_quiet body, hears.raisesOnly fun _ => AttSet.below_refl _,
      fun i => State.closeEvent_samePath _ ((s.samePath_elapse p.after i).trans (State.struck_path i)), fun steady' => ?_,
      ?_, ?_, ?_, ?_, ?_, fun first => ⟨?_, ?_, ?_⟩, fun ends => ⟨?_, ?_, ?_, ?_, fun going => ?_⟩⟩
    · have rest := State.closeEvent_struck_rest (a := s.elapse p.after) (h := h) (free := s.pulsedFree h p) (d := (s.pulsed h p).1)
        (ready := (s.pulsed h p).2.ready) (bladeFault := (s.pulsed h p).2.bladeFault)
      generalize State.closeEvent _ _ = t at rest ⊢
      have free : t.free = s.pulsedFree h p := by rw [rest]
      rw [free]
      exact rest
    · rw [← State.head_elapse]
      exact State.closeEvent_struck_other (steady'.elapse p.after)
    · rw [State.closeEvent_head_eq]
      show (State.head _ h).pendingReq = _
      rw [State.struck_own, State.head_elapse]
      rfl
    · rw [blade, keeps.demand, begun.demand]
      rfl
    · rw [blade, keeps.seen, begun.seen]
    · rw [blade, keeps.since, begun.since]
    · rw [blade, keeps.strokes, begun.strokes]
      rfl
    · rw [State.closeEvent_struck_rest]
      exact State.pulsedFree_first first
    · rw [blade, keeps.lastAvg, Head.accepted_first _ _ (by exact first)]
      rfl
    · rw [blade, keeps.lastPeak, Head.accepted_first _ _ (by exact first)]
      rfl
    · rw [State.closeEvent_struck_rest]
      exact State.pulsedFree_ended ends
    · rw [blade, keeps.period, Head.accepted_ended _ _ ends]
      rfl
    · rw [blade, keeps.lastAvg, Head.accepted_ended _ _ ends]
      rfl
    · rw [blade, keeps.lastPeak, Head.accepted_ended _ _ ends]
      rfl
    · rw [blade] at going ⊢
      rw [(keeps.going going).2, Head.accepted_ended _ _ ends]
      rfl
  · simp only [List.mem_cons, Prod.mk.injEq, List.not_mem_nil, or_false] at named
    obtain ⟨rfl, rfl⟩ | ⟨rfl, rfl⟩ | ⟨rfl, rfl⟩ | ⟨rfl, rfl⟩ | ⟨rfl, rfl⟩ | ⟨rfl, rfl⟩ | ⟨rfl, rfl⟩ | ⟨rfl, rfl⟩ | ⟨rfl, rfl⟩ := named
    all_goals exact exec_named _ s h p

end Sys2Proof.Machine

/-! PROOFS. The guard's tests of a stroke: which pass, what a detection leaves, and the stroke that a pulse ends (R119 to R125). -/

namespace Sys2Proof.Machine

/-! ### The channel's own work -/

/-- Channel d is channel c but for what its own work on a stroke counts (R107, R112, R114, R115). -/
structure Channel.Worked (c d : Channel) : Prop where
  st : d.st = c.st
  target : d.target = c.target
  brake : d.brake = c.brake
  retries : d.retries = c.retries
  lockRun : d.lockRun = c.lockRun
  missRun : d.missRun = c.missRun
  cleanRun : d.cleanRun = c.cleanRun
  lastRunPeriod : d.lastRunPeriod = c.lastRunPeriod
  last : d.record.last = c.record.last
  counts : d.record.counts = c.record.counts

theorem Channel.Worked.refl (c : Channel) : Channel.Worked c c := ⟨rfl, rfl, rfl, rfl, rfl, rfl, rfl, rfl, rfl, rfl⟩

theorem Channel.Worked.trans {c d e : Channel} (one : Channel.Worked c d) (two : Channel.Worked d e) : Channel.Worked c e :=
  ⟨two.st.trans one.st, two.target.trans one.target, two.brake.trans one.brake, two.retries.trans one.retries,
    two.lockRun.trans one.lockRun, two.missRun.trans one.missRun, two.cleanRun.trans one.cleanRun,
    two.lastRunPeriod.trans one.lastRunPeriod, two.last.trans one.last, two.counts.trans one.counts⟩

/-- What the trim leaves of a channel and of its events (R114). -/
theorem Channel.judgeTrim_kept (b : BladeParams) (k : Stroke) (c : Channel) :
    Channel.Worked c (c.judgeTrim b k).1 ∧ (c.judgeTrim b k).1.pause = c.pause ∧
      (c.judgeTrim b k).1.escalation = c.escalation ∧ (c.judgeTrim b k).1.record = c.record ∧
      (c.judgeTrim b k).2 = { StrokeEvents.none with
        trimDown := (c.judgeTrim b k).2.trimDown, trimUp := (c.judgeTrim b k).2.trimUp } := by
  unfold Channel.judgeTrim
  repeat' split
  all_goals exact ⟨⟨rfl, rfl, rfl, rfl, rfl, rfl, rfl, rfl, rfl, rfl⟩, rfl, rfl, rfl, rfl⟩

/-- What relief leaves of a channel and of its events (R115). -/
theorem Channel.relieve_kept (g : GuardSettings) (k : Stroke) (ce : Channel × StrokeEvents) :
    Channel.Worked ce.1 (Channel.relieve g k ce).1 ∧ (Channel.relieve g k ce).1.trim = ce.1.trim ∧
      (Channel.relieve g k ce).1.heavy = ce.1.heavy ∧ (Channel.relieve g k ce).1.light = ce.1.light ∧
      (Channel.relieve g k ce).2 = { ce.2 with
        escalated := (Channel.relieve g k ce).2.escalated, pauseEnd := (Channel.relieve g k ce).2.pauseEnd } := by
  unfold Channel.relieve
  dsimp only
  repeat' split
  all_goals exact ⟨⟨rfl, rfl, rfl, rfl, rfl, rfl, rfl, rfl, rfl, rfl⟩, rfl, rfl, rfl, rfl⟩

section OwnWork

variable {b : BladeParams} {g : GuardSettings} {k : Stroke} (c : Channel)

theorem Channel.ownWork_spinup (st : k.st = .spinup) : c.ownWork b g k = c.countPulse b := by
  rw [Channel.ownWork, st]

theorem Channel.ownWork_settling (st : k.st = .settling) : c.ownWork b g k = c.countSettling b := by
  rw [Channel.ownWork, st]

theorem Channel.ownWork_atCut (st : k.st = .run) (level : k.level = .cut) :
    c.ownWork b g k = Channel.relieve g k (c.judgeTrim b k) := by
  rw [Channel.ownWork, st]
  exact if_pos (by rw [Stroke.atCut, st, level]; rfl)

variable (b g k)

theorem Channel.ownWork_worked : Channel.Worked c (c.ownWork b g k).1 := by
  unfold Channel.ownWork
  split
  · exact ⟨rfl, rfl, rfl, rfl, rfl, rfl, rfl, rfl, rfl, rfl⟩
  · exact ⟨rfl, rfl, rfl, rfl, rfl, rfl, rfl, rfl, rfl, rfl⟩
  · split
    · exact (c.judgeTrim_kept b k).1.trans (Channel.relieve_kept g k _).1
    · exact .refl c
  · exact .refl c
  · exact .refl c
  · exact .refl c

variable {b g k}

/-- In RUN the channel's own work calls for no move (R124). -/
theorem Channel.ownWork_run (st : k.st = .run) : (c.ownWork b g k).2.stepDone = false ∧ (c.ownWork b g k).2.lockOn = false := by
  rw [Channel.ownWork, st]
  dsimp only
  split
  · obtain ⟨-, -, -, -, relief⟩ := Channel.relieve_kept g k (c.judgeTrim b k)
    obtain ⟨-, -, -, -, trim⟩ := c.judgeTrim_kept b k
    rw [relief, trim]
    exact ⟨rfl, rfl⟩
  · exact ⟨rfl, rfl⟩

/-- A stroke with its peak within the limit, or that ends outside RUN at CUT, escalates no relief (R115). -/
theorem Channel.ownWork_unescalated (calm : k.atCut = true → k.peak ≤ g.peakLimit) : (c.ownWork b g k).2.escalated = false := by
  unfold Channel.ownWork
  split
  · rfl
  · rfl
  · split
    · next cut =>
      obtain ⟨-, -, -, -, trim⟩ := c.judgeTrim_kept b k
      have none : (c.judgeTrim b k).2.escalated = false := by rw [trim]; rfl
      have within : ¬ g.peakLimit < k.peak := Nat.not_lt.mpr (calm cut)
      unfold Channel.relieve
      cases g.reliefMode with
      | ignore => exact none
      | report => simpa only [if_neg within] using none
      | relief => simpa only [if_neg within] using none
    · rfl
  · rfl
  · rfl
  · rfl

end OwnWork

/-! ### Tests that pass -/

/-- The stroke is not rough against the channel's last RUN period, or ROUGH-RATE is not tested (R119, R121). -/
def Stroke.EvenFor (k : Stroke) (g : GuardSettings) (c : Channel) : Prop :=
  g.modes.roughRate = .ignore ∨ ∀ q ∈ c.lastRunPeriod, max k.period q ≤ g.rough * min k.period q

/-- The channel with the period of a stroke in RUN noted (R121). -/
def Channel.noted (k : Stroke) (c : Channel) : Channel :=
  { c with lastRunPeriod := if k.st = .run then some k.period else c.lastRunPeriod }

theorem unlessOut_going {test : Channel × StrokeEvents → Channel × StrokeEvents} {ce : Channel × StrokeEvents}
    (going : ce.2.bladeFault = false) : unlessOut test ce = test ce :=
  if_neg (by rw [going]; exact Bool.false_ne_true)

theorem unlessOut_out {test : Channel × StrokeEvents → Channel × StrokeEvents} {ce : Channel × StrokeEvents}
    (out : ce.2.bladeFault = true) : unlessOut test ce = ce := if_pos out

theorem GuardSettings.tests_iff (g : GuardSettings) (kind : FaultKind) : g.tests kind = true ↔ g.modes.get kind ≠ .ignore :=
  decide_eq_true_iff

section Passes

variable {g : GuardSettings} {k : Stroke} {ce : Channel × StrokeEvents}

/-- The ROUGH-RATE test of an even stroke (R121). -/
theorem testRough_passes (even : k.st = .run → k.EvenFor g ce.1) : testRough g k ce = (ce.1.noted k, ce.2) := by
  unfold testRough Channel.noted
  by_cases st : k.st = .run
  · have smooth : ¬ (g.tests .roughRate && roughAgainst g.rough k.period ce.1.lastRunPeriod) = true := by
      rw [Bool.and_eq_true, GuardSettings.tests_iff]
      rintro ⟨tested, rough⟩
      obtain ignored | near := even st
      · exact tested ignored
      · cases last : ce.1.lastRunPeriod with
        | none =>
          rw [last] at rough
          cases rough
        | some q =>
          rw [last] at rough
          exact absurd (near q last) (Nat.not_le.mpr (of_decide_eq_true rough))
    rw [if_pos st, if_pos st]
    exact if_neg smooth
  · rw [if_neg st, if_neg st]

/-- The NO-SETTLE test before the 64th stroke in SETTLING, or of one that locks on (R112). -/
theorem testNoSettle_passes (within : k.st = .settling → ce.2.lockOn = false → ce.1.settleStrokes < 64) :
    testNoSettle g k ce = ce :=
  if_neg fun ⟨st, unlocked, late, _⟩ => absurd (within st unlocked) (Nat.not_lt.mpr late)

/-- The OVERLOAD test of a light stroke with no relief escalation (R122). -/
theorem testOverload_passes (light : k.average ≤ g.lockLimit) (strokes : 1 ≤ g.lockStrokes) (calm : ce.2.escalated = false) :
    ∃ n, testOverload g k ce = ({ ce.1 with lockRun := n }, ce.2) := by
  unfold testOverload
  split
  · have unlocked : decide (g.lockStrokes ≤ 0) = false := decide_eq_false (by omega)
    refine ⟨0, ?_⟩
    dsimp only
    rw [if_neg (Nat.not_lt.mpr light), calm, unlocked]
    rfl
  · exact ⟨ce.1.lockRun, rfl⟩

/-- The BLADE-MISSING test of a stroke that shows the blade, or that is not judged (R123). -/
theorem testMissing_passes (shown : k.atCut = true → k.feeding = true → g.noBlade ≤ k.average) :
    ∃ n, testMissing g k ce = ({ ce.1 with missRun := n }, ce.2) := by
  unfold testMissing
  split
  · refine ⟨0, if_neg ?_⟩
    rw [Bool.and_eq_true, Bool.and_eq_true, decide_eq_true_iff]
    rintro ⟨⟨cut, feeds⟩, low⟩
    exact absurd (shown cut feeds) (Nat.not_le.mpr low)
  · exact ⟨ce.1.missRun, rfl⟩

variable (going : ce.2.bladeFault = false) (even : k.st = .run → k.EvenFor g ce.1)
  (within : k.st = .settling → ce.2.lockOn = false → ce.1.settleStrokes < 64)

include going even within

/-- ROUGH-RATE and NO-SETTLE are not detected. -/
theorem guardTests_toOverload : guardTests g k ce =
    unlessOut (countClean k) (unlessOut (testMissing g k) (testOverload g k (ce.1.noted k, ce.2))) := by
  rw [guardTests, testRough_passes even, unlessOut_going (test := testNoSettle g k) (by exact going),
    testNoSettle_passes (ce := (ce.1.noted k, ce.2)) (by exact within), unlessOut_going (test := testOverload g k) (by exact going)]

variable (light : k.average ≤ g.lockLimit) (strokes : 1 ≤ g.lockStrokes) (calm : ce.2.escalated = false)

include light strokes calm

/-- Nor is OVERLOAD. -/
theorem guardTests_toMissing : ∃ n, guardTests g k ce =
    unlessOut (countClean k) (testMissing g k ({ ce.1.noted k with lockRun := n }, ce.2)) := by
  obtain ⟨n, passes⟩ := testOverload_passes (ce := (ce.1.noted k, ce.2)) light strokes calm
  refine ⟨n, ?_⟩
  rw [guardTests_toOverload going even within, passes, unlessOut_going (test := testMissing g k) (by exact going)]

/-- Nothing is detected: the clean run alone is counted (R124, log 19). -/
theorem guardTests_passes (shown : k.atCut = true → k.feeding = true → g.noBlade ≤ k.average) :
    ∃ n m, guardTests g k ce = countClean k ({ ce.1.noted k with lockRun := n, missRun := m }, ce.2) := by
  obtain ⟨n, missing⟩ := guardTests_toMissing going even within light strokes calm
  obtain ⟨m, passes⟩ := testMissing_passes (ce := ({ ce.1.noted k with lockRun := n }, ce.2)) shown
  refine ⟨n, m, ?_⟩
  rw [missing, passes, unlessOut_going (test := countClean k) (by exact going)]

end Passes

/-- Outside RUN no clean run is counted (R127). -/
theorem countClean_outside {k : Stroke} (st : k.st ≠ .run) (ce : Channel × StrokeEvents) : countClean k ce = ce := if_neg st

/-! ### Detections -/

/-- What a test that does not detect leaves of channel and events. -/
structure Carried (ce ce' : Channel × StrokeEvents) : Prop where
  st : ce'.1.st = ce.1.st
  brake : ce'.1.brake = ce.1.brake
  settleStrokes : ce'.1.settleStrokes = ce.1.settleStrokes
  record : ce'.1.record = ce.1.record
  stepDone : ce'.2.stepDone = ce.2.stepDone
  lockOn : ce'.2.lockOn = ce.2.lockOn
  ready : ce'.2.ready = ce.2.ready
  noSettle : ce'.2.noSettle = ce.2.noSettle
  overload : ce'.2.overload = ce.2.overload
  missing : ce'.2.missing = ce.2.missing
  escalated : ce'.2.escalated = ce.2.escalated
  bladeFault : ce'.2.bladeFault = ce.2.bladeFault

theorem Carried.refl (ce : Channel × StrokeEvents) : Carried ce ce :=
  ⟨rfl, rfl, rfl, rfl, rfl, rfl, rfl, rfl, rfl, rfl, rfl, rfl⟩

theorem Carried.trans {x y z : Channel × StrokeEvents} (one : Carried x y) (two : Carried y z) : Carried x z :=
  ⟨two.st.trans one.st, two.brake.trans one.brake, two.settleStrokes.trans one.settleStrokes, two.record.trans one.record,
    two.stepDone.trans one.stepDone, two.lockOn.trans one.lockOn, two.ready.trans one.ready,
    two.noSettle.trans one.noSettle, two.overload.trans one.overload, two.missing.trans one.missing,
    two.escalated.trans one.escalated, two.bladeFault.trans one.bladeFault⟩

/-- The kind has been detected of channel c: it is recorded and answered by its mode (R125, R131). -/
structure Detects (g : GuardSettings) (kind : FaultKind) (c : Channel) (ce : Channel × StrokeEvents) : Prop where
  records : Records kind c ce.1
  responds : RespondsTo (g.modes.get kind) g c ce.1
  bladeFault : ce.2.bladeFault = !ce.1.st.accepts

section Detections

variable {g : GuardSettings} {kind : FaultKind} {c : Channel} {k : Stroke} {ce : Channel × StrokeEvents}

/-- A detection, of a channel that is as before in state, brake, retries and counts. -/
theorem detect_detects (tested : g.modes.get kind ≠ .ignore) {d : Channel} (e : StrokeEvents) (st : d.st = c.st)
    (brake : d.brake = c.brake) (retries : d.retries = c.retries) (counts : d.record.counts = c.record.counts) :
    Detects g kind c (detect g kind d e) where
  records := by
    obtain ⟨last, count⟩ := Channel.respond_records tested d
    rw [counts] at count
    exact ⟨last, count⟩
  responds := (d.respond_to g kind).congr ⟨st.symm, brake.symm, retries.symm⟩ ⟨rfl, rfl, rfl, rfl, rfl⟩
  bladeFault := rfl

/-- A channel that goes on after a detection is as the report left it (R125). -/
theorem RespondsTo.going {mode : FaultMode} {d : Channel} (responds : RespondsTo mode g c d) (going : d.st.accepts = true) :
    mode = .report ∨ mode = .ignore := by
  cases mode with
  | report => exact .inl rfl
  | ignore => exact .inr rfl
  | latchCoast | latchBrake =>
    rw [responds.1] at going
    cases going
  | retryCoast | retryBrake =>
    obtain ⟨-, -, aside⟩ := responds
    split at aside
    all_goals
      rw [aside.1] at going
      cases going

/-- A mode that neither reports nor ignores takes the channel out (R125). -/
theorem RespondsTo.out {mode : FaultMode} {d : Channel} (responds : RespondsTo mode g c d) (tested : mode ≠ .ignore)
    (acts : mode ≠ .report) : d.st.accepts = false := by
  by_contra going
  obtain reports | ignores := responds.going (by simpa using going)
  · exact acts reports
  · exact tested ignores

/-- A test that does not detect leaves an earlier detection. -/
theorem Detects.carried (found : Detects g kind c ce) {ce' : Channel × StrokeEvents} (going : ce.2.bladeFault = false)
    (carried : Carried ce ce') : Detects g kind c ce' := by
  have accepts : ce.1.st.accepts = true := by
    have := found.bladeFault
    rw [going] at this
    simpa using this.symm
  obtain ⟨last, count⟩ := found.records
  have responds := found.responds
  refine ⟨⟨by rw [carried.record, last], by rw [carried.record, count]⟩, ?_, by rw [carried.bladeFault, found.bladeFault, carried.st]⟩
  obtain mode | mode := found.responds.going accepts <;> rw [mode] at responds ⊢
  all_goals exact ⟨carried.st.trans responds.1, carried.brake.trans responds.2⟩

theorem Detects.unlessOut {test : Channel × StrokeEvents → Channel × StrokeEvents} (found : Detects g kind c ce)
    (carried : Carried ce (test ce)) : Detects g kind c (Machine.unlessOut test ce) := by
  cases out : ce.2.bladeFault with
  | true =>
    rw [unlessOut_out out]
    exact found
  | false =>
    rw [unlessOut_going out]
    exact found.carried out carried

theorem Carried.unlessOut {test : Channel × StrokeEvents → Channel × StrokeEvents} (carried : Carried ce (test ce)) :
    Carried ce (Machine.unlessOut test ce) := by
  cases out : ce.2.bladeFault with
  | true =>
    rw [unlessOut_out out]
    exact .refl ce
  | false =>
    rw [unlessOut_going out]
    exact carried

variable (g k ce)

theorem testNoSettle_carried (within : k.st = .settling → ce.2.lockOn = false → ce.1.settleStrokes < 64) :
    Carried ce (testNoSettle g k ce) := by
  rw [testNoSettle_passes within]
  exact .refl ce

theorem testOverload_carried (light : k.average ≤ g.lockLimit) (strokes : 1 ≤ g.lockStrokes) (calm : ce.2.escalated = false) :
    Carried ce (testOverload g k ce) := by
  obtain ⟨n, passes⟩ := testOverload_passes (ce := ce) light strokes calm
  rw [passes]
  exact ⟨rfl, rfl, rfl, rfl, rfl, rfl, rfl, rfl, rfl, rfl, rfl, rfl⟩

theorem testMissing_carried (shown : k.atCut = true → k.feeding = true → g.noBlade ≤ k.average) :
    Carried ce (testMissing g k ce) := by
  obtain ⟨n, passes⟩ := testMissing_passes (g := g) (ce := ce) shown
  rw [passes]
  exact ⟨rfl, rfl, rfl, rfl, rfl, rfl, rfl, rfl, rfl, rfl, rfl, rfl⟩

theorem countClean_carried : Carried ce (countClean k ce) := by
  unfold countClean
  repeat' split
  all_goals exact ⟨rfl, rfl, rfl, rfl, rfl, rfl, rfl, rfl, rfl, rfl, rfl, rfl⟩

variable {g k ce}

/-- A detection stands through the tests after it, where they detect nothing more. -/
theorem Detects.pastMissing (found : Detects g kind c ce) (shown : k.atCut = true → k.feeding = true → g.noBlade ≤ k.average) :
    Detects g kind c (Machine.unlessOut (countClean k) (Machine.unlessOut (testMissing g k) ce)) ∧
      Carried ce (Machine.unlessOut (countClean k) (Machine.unlessOut (testMissing g k) ce)) :=
  have missing := testMissing_carried g k ce shown
  ⟨(found.unlessOut missing).unlessOut (countClean_carried k _),
    missing.unlessOut.trans (countClean_carried k _).unlessOut⟩

theorem Detects.pastOverload (found : Detects g kind c ce) (light : k.average ≤ g.lockLimit) (strokes : 1 ≤ g.lockStrokes)
    (calm : ce.2.escalated = false) (shown : k.atCut = true → k.feeding = true → g.noBlade ≤ k.average) :
    Detects g kind c (Machine.unlessOut (countClean k) (Machine.unlessOut (testMissing g k)
        (Machine.unlessOut (testOverload g k) ce))) ∧
      Carried ce (Machine.unlessOut (countClean k) (Machine.unlessOut (testMissing g k)
        (Machine.unlessOut (testOverload g k) ce))) := by
  have light := testOverload_carried g k ce light strokes calm
  obtain ⟨found, carried⟩ := (found.unlessOut light).pastMissing shown
  exact ⟨found, light.unlessOut.trans carried⟩

end Detections

/-! ### The stroke that a pulse ends -/

/-- The channel with the stroke that a pulse ends measured (R110, R113). -/
def Head.measured (hd : Head) (p : Pulse) : Channel := ((hd.blade.elapse p.after).addSamples p.samples).measure (hd.ended p)

section Ends

variable {s : State} {h : HeadId} {p : Pulse}

/-- A pulse that ends a stroke: the channel's own work, the guard's tests, and the move (R124). -/
theorem State.pulsed_ended (ends : (s.head h).EndsStroke p) : s.pulsed h p = ownMove (s.head h).bladeParams
    (guardTests (s.head h).guard ((s.head h).ended p)
      (((s.head h).measured p).ownWork (s.head h).bladeParams (s.head h).guard ((s.head h).ended p))) := by
  obtain ⟨accepts, seen, -, -, sampled⟩ := ends
  rw [State.pulsed, State.head_elapse, Head.pulsed, Head.pulseWork]
  refine (if_pos (by exact seen)).trans ?_
  dsimp only
  rw [Head.strokeEnded_sampled _ _ accepts sampled]
  rfl

/-- Where the channel is out, or its work calls for no move, none is made (R124). -/
theorem ownMove_stays (b : BladeParams) {ce : Channel × StrokeEvents}
    (stays : ce.2.bladeFault = true ∨ ce.2.stepDone = false ∧ ce.2.lockOn = false) :
    ownMove b ce = (ce.1, { ce.2 with stepDone := false, lockOn := false }) := by
  unfold ownMove
  by_cases out : ce.2.bladeFault = true
  · exact if_pos out
  · obtain ⟨step, lock⟩ := stays.resolve_left out
    have events : ({ ce.2 with stepDone := false, lockOn := false } : StrokeEvents) = ce.2 := by
      obtain ⟨c, e⟩ := ce
      cases e
      cases step
      cases lock
      rfl
    rw [if_neg out, step, lock, events]
    rfl

theorem ownMove_stepDone (b : BladeParams) {ce : Channel × StrokeEvents} (going : ce.2.bladeFault = false)
    (done : ce.2.stepDone = true) : ownMove b ce = (ce.1.nextStep b, ce.2) := by
  rw [ownMove, going, done]
  rfl

theorem ownMove_lockOn (b : BladeParams) {ce : Channel × StrokeEvents} (going : ce.2.bladeFault = false)
    (same : ce.2.stepDone = false) (locks : ce.2.lockOn = true) :
    ownMove b ce = (ce.1.enterRun, { ce.2 with ready := decide (ce.1.target = .cut) }) := by
  rw [ownMove, going, same, locks]
  rfl

/-- The watch that an accepted pulse leaves (R75, R112). -/
theorem State.pulse_watch (steady : s.Steady h) (accepts : (s.head h).blade.st.accepts = true) (inTime : (s.head h).InTime p)
    (unblanked : (s.head h).blade.pulseSeen = false ∨
      60000000 / (s.head h).blade.commanded ≤ 2 * ((s.head h).blade.since + p.after)) :
    ((s.pulse h p).head h).watch = if (s.pulsed h p).2.ready = true ∧ (s.head h).watch.reasons.bladeNotReady = true
      then Watch.empty else (s.head h).watch := by
  have steady' := steady.elapse p.after
  have hold := (State.pulse_head accepts inTime unblanked steady.demandNow).2
  have watch : ((s.elapse p.after).head h).watch = (s.head h).watch := by rw [State.head_elapse]; rfl
  rw [State.pulse_accepted accepts inTime unblanked] at hold ⊢
  have holds : (s.elapse p.after).holdNow h = ((s.elapse p.after).head h).hold := steady'.1.symm
  rw [State.closeEvent_watch, hold, State.struck_own, State.struck_other, holds]
  dsimp only
  rw [watch]
  refine if_neg ?_
  rw [Bool.or_eq_true, Bool.and_eq_true, Bool.and_eq_true, decide_eq_true_iff]
  rintro (⟨watched, gone⟩ | ⟨-, moved⟩)
  · split at watched
    · cases watched
    · have stands := steady'.2.2.1 (by rw [watch]; exact watched)
      rw [HoldSet.beyondBlade] at stands gone
      dsimp only at gone
      rw [stands] at gone
      cases gone
  · exact moved rfl

/-- A row that names what a pulse brings about. -/
theorem State.pulseThat_of {flag : StrokeEvents → Bool} (flagged : flag (s.pulsed h p).2 = true)
    (accepts : (s.head h).blade.st.accepts = true) (inTime : (s.head h).InTime p)
    (unblanked : (s.head h).blade.pulseSeen = false ∨
      60000000 / (s.head h).blade.commanded ≤ 2 * ((s.head h).blade.since + p.after)) :
    State.pulseThat flag s h p = s.pulse h p := by
  refine if_pos ?_
  rw [State.pulseEvents_accepted accepts inTime unblanked]
  exact flagged

end Ends

end Sys2Proof.Machine

/-! PROOFS. The step rates, and the climb through SPINUP and SETTLING to RUN (R106, R107, R112). -/

namespace Sys2Proof.Machine

/-! ### The step rates -/

/-- The percentages of the step codes (R106). -/
theorem stepPercent_of {code percent : Nat} (coded : [25, 40, 55, 70, 80, 90, 95, 100][code]? = some percent) :
    stepPercent code = percent := by
  have short : code < 8 := (List.getElem?_eq_some_iff.mp coded).1
  interval_cases code <;> exact Option.some.inj coded

theorem BladeParams.stepRate_coded (b : BladeParams) (lvl : Level) {step code percent : Nat} (ramp : b.ramp[step - 1]? = some code)
    (coded : [25, 40, 55, 70, 80, 90, 95, 100][code]? = some percent) :
    b.stepRate lvl step = min b.fCut (max 300 (b.rateOf lvl * percent / 100)) := by
  rw [BladeParams.stepRate, List.getD_eq_getElem?_getD, ramp, Option.getD_some, stepPercent_of coded]

/-! ### A stroke in which nothing is detected -/

/-- What the channel's own work makes of the stroke that a pulse ends, before the guard's tests (R124). -/
def Head.work (hd : Head) (p : Pulse) : Channel × StrokeEvents := (hd.measured p).ownWork hd.bladeParams hd.guard (hd.ended p)

/-- Neither the accepted pulse nor the channel's own work touches what the guard looks at (R110, R124). -/
theorem Head.work_worked (hd : Head) (p : Pulse) : Channel.Worked hd.blade (hd.work p).1 :=
  have measured : Channel.Worked hd.blade (hd.measured p) := ⟨rfl, rfl, rfl, rfl, rfl, rfl, rfl, rfl, rfl, rfl⟩
  measured.trans (Channel.ownWork_worked ..)

theorem Head.work_bladeFault (hd : Head) (p : Pulse) : (hd.work p).2.bladeFault = false := (Channel.ownWork_st ..).2

/-- The tests see the RUN period that the channel had (R121). -/
theorem Head.evenFor {hd : Head} {p : Pulse} (even : hd.EvenStroke p) : (hd.ended p).EvenFor hd.guard (hd.work p).1 := by
  have last : (hd.work p).1.lastRunPeriod = hd.blade.lastRunPeriod := (hd.work_worked p).lastRunPeriod
  rw [Stroke.EvenFor, last]
  exact even

/-- Channel m has a stroke measured that head hd's channel ended in a time of p, and is as it was otherwise (R110, R113). -/
structure Head.Measures (hd : Head) (p : Pulse) (m : Channel) : Prop where
  st : m.st = hd.blade.st
  target : m.target = hd.blade.target
  step : m.step = hd.blade.step
  stepCount : m.stepCount = hd.blade.stepCount
  commanded : m.commanded = hd.blade.commanded
  seen : m.pulseSeen = true
  since : m.since = 0
  measured : m.measured = 60000000 / hd.strokePeriod p
  watch : hd.blade.st = .spinup → m.watchLeft = some 1000000
  settleCount : m.settleCount = hd.blade.settleCount
  settleStrokes : m.settleStrokes = hd.blade.settleStrokes
  trim : m.trim = hd.blade.trim
  heavy : m.heavy = hd.blade.heavy
  light : m.light = hd.blade.light
  pause : m.pause = hd.blade.pause
  escalation : m.escalation = hd.blade.escalation
  retries : m.retries = hd.blade.retries
  missRun : m.missRun = hd.blade.missRun
  cleanRun : m.cleanRun = hd.blade.cleanRun
  record : m.record = hd.blade.record

theorem Head.measures (hd : Head) (p : Pulse) : hd.Measures p (hd.measured p) := by
  unfold Head.measured Channel.measure Channel.acceptPulse Channel.addSamples Channel.elapse
  exact ⟨rfl, rfl, rfl, rfl, rfl, rfl, rfl, rfl, fun st => congrArg some (if_pos (by exact st)), rfl, rfl, rfl, rfl, rfl, rfl, rfl,
    rfl, rfl, rfl, rfl⟩

section Ends

variable {s : State} {h : HeadId} {p : Pulse}

/-- Where the guard detects nothing, it notes the period and counts (R121 to R123, R127). -/
theorem State.pulsed_passes (ends : (s.head h).EndsStroke p) (light : (s.head h).strokeAverage p ≤ (s.head h).guard.lockLimit)
    (strokes : 1 ≤ (s.head h).guard.lockStrokes) (shown : (s.head h).guard.noBlade ≤ (s.head h).strokeAverage p)
    (even : (s.head h).EvenStroke p) (calm : ((s.head h).work p).2.escalated = false)
    (within : (s.head h).blade.st = .settling → ((s.head h).work p).2.lockOn = false → ((s.head h).work p).1.settleStrokes < 64) :
    ∃ n m, s.pulsed h p = ownMove (s.head h).bladeParams (countClean ((s.head h).ended p)
      ({ ((s.head h).work p).1.noted ((s.head h).ended p) with lockRun := n, missRun := m }, ((s.head h).work p).2)) := by
  obtain ⟨n, m, passes⟩ := guardTests_passes (k := (s.head h).ended p) ((s.head h).work_bladeFault p)
    (fun _ => (s.head h).evenFor even) within light strokes calm fun _ _ => shown
  exact ⟨n, m, (State.pulsed_ended ends).trans (congrArg _ passes)⟩

/-- A quiet stroke (R115, R121 to R123). -/
theorem State.pulsed_quiet (ends : (s.head h).EndsStroke p) (quiet : (s.head h).QuietStroke p)
    (within : (s.head h).blade.st = .settling → ((s.head h).work p).2.lockOn = false → ((s.head h).work p).1.settleStrokes < 64) :
    ∃ n m, s.pulsed h p = ownMove (s.head h).bladeParams (countClean ((s.head h).ended p)
      ({ ((s.head h).work p).1.noted ((s.head h).ended p) with lockRun := n, missRun := m }, ((s.head h).work p).2)) := by
  obtain ⟨light, strokes, shown, peak, even⟩ := quiet
  exact State.pulsed_passes ends light strokes shown even (Channel.ownWork_unescalated _ fun _ => peak) within

theorem Head.work_spinup {hd : Head} (st : hd.blade.st = .spinup) (p : Pulse) :
    hd.work p = (hd.measured p).countPulse hd.bladeParams := Channel.ownWork_spinup _ st

theorem Head.work_settling {hd : Head} (st : hd.blade.st = .settling) (p : Pulse) :
    hd.work p = (hd.measured p).countSettling hd.bladeParams := Channel.ownWork_settling _ st

/-- A quiet stroke in SPINUP (R107). -/
theorem State.pulsed_spinup (ends : (s.head h).EndsStroke p) (quiet : (s.head h).QuietStroke p)
    (st : (s.head h).blade.st = .spinup) : ∃ m n k, (s.head h).Measures p m ∧ s.pulsed h p = ownMove (s.head h).bladeParams
      ({ (m.countPulse (s.head h).bladeParams).1 with lockRun := n, missRun := k },
        (m.countPulse (s.head h).bladeParams).2) := by
  obtain ⟨n, k, pulsed⟩ := State.pulsed_quiet ends quiet fun settling => by rw [st] at settling; cases settling
  have outside : ((s.head h).ended p).st ≠ .run := fun run => by
    have run : (s.head h).blade.st = .run := run
    rw [st] at run
    cases run
  rw [countClean_outside outside, Head.work_spinup st, Channel.noted, if_neg outside] at pulsed
  exact ⟨_, n, k, (s.head h).measures p, pulsed⟩

/-- A quiet stroke in SETTLING, before the 64th or one that locks on (R112). -/
theorem State.pulsed_settling (ends : (s.head h).EndsStroke p) (quiet : (s.head h).QuietStroke p)
    (st : (s.head h).blade.st = .settling)
    (within : (((s.head h).measured p).countSettling (s.head h).bladeParams).2.lockOn = false →
      (s.head h).blade.settleStrokes + 1 < 64) : ∃ n k, s.pulsed h p = ownMove (s.head h).bladeParams
      ({ (((s.head h).measured p).countSettling (s.head h).bladeParams).1 with lockRun := n, missRun := k },
        (((s.head h).measured p).countSettling (s.head h).bladeParams).2) := by
  obtain ⟨n, k, pulsed⟩ := State.pulsed_quiet ends quiet fun _ unlocked => by
    rw [Head.work_settling st] at unlocked ⊢
    exact within unlocked
  have outside : ((s.head h).ended p).st ≠ .run := fun run => by
    have run : (s.head h).blade.st = .run := run
    rw [st] at run
    cases run
  rw [countClean_outside outside, Head.work_settling st, Channel.noted, if_neg outside] at pulsed
  exact ⟨n, k, pulsed⟩

/-- The settle count that a stroke leaves, and whether it locks on (R112). -/
theorem Head.Measures.countSettling {hd : Head} {m : Channel} (measures : hd.Measures p m) (b : BladeParams) :
    (m.countSettling b).1.settleCount = (if 20 * absDiff (60000000 / hd.strokePeriod p) hd.blade.commanded ≤ hd.blade.commanded
        then hd.blade.settleCount + 1 else 0) ∧
      (m.countSettling b).2.lockOn = decide (b.settle ≤ (m.countSettling b).1.settleCount) := by
  rw [← measures.measured, ← measures.commanded, ← measures.settleCount]
  exact ⟨if_congr decide_eq_true_iff rfl rfl, rfl⟩

/-- The first pulse of a climb counts in its step, but ends no stroke (R107, R110). -/
theorem State.pulsed_first (st : (s.head h).blade.st = .spinup) (first : (s.head h).blade.pulseSeen = false) :
    s.pulsed h p = ownMove (s.head h).bladeParams ((((s.head h).blade.elapse p.after).addSamples p.samples).acceptPulse.countPulse
      (s.head h).bladeParams) := by
  rw [State.pulsed, State.head_elapse, Head.pulsed, Head.pulseWork]
  have unseen : ¬ (s.head h).blade.pulseSeen = true := by
    rw [first]
    exact Bool.false_ne_true
  refine (if_neg (by exact unseen)).trans ?_
  exact if_pos (by exact st)

/-- A pulse in SPINUP that does not complete its step (R107). -/
theorem ownMove_countPulse_more {b : BladeParams} {m : Channel} (more : m.stepCount + 1 < b.stepStrokes) (n k : Nat) :
    (ownMove b ({ (m.countPulse b).1 with lockRun := n, missRun := k }, (m.countPulse b).2)).1 =
      { m with stepCount := m.stepCount + 1, lockRun := n, missRun := k } := by
  have undone : (m.countPulse b).2.stepDone = false := decide_eq_false (by omega)
  exact congrArg Prod.fst (ownMove_stays b (.inr ⟨by exact undone, rfl⟩))

/-- A pulse in SPINUP that completes its step (R107). -/
theorem ownMove_countPulse_done {b : BladeParams} {m : Channel} (done : b.stepStrokes ≤ m.stepCount + 1) (n k : Nat) :
    ownMove b ({ (m.countPulse b).1 with lockRun := n, missRun := k }, (m.countPulse b).2) =
      (Channel.nextStep b { m with stepCount := m.stepCount + 1, lockRun := n, missRun := k }, (m.countPulse b).2) ∧
      (m.countPulse b).2.stepDone = true :=
  have done : (m.countPulse b).2.stepDone = true := decide_eq_true done
  ⟨ownMove_stepDone b rfl done, done⟩

/-- The move after the guard's tests leaves a detection, where the channel's own work calls for none (R124). -/
theorem Detects.unmoved {g : GuardSettings} {kind : FaultKind} {c : Channel} {ce : Channel × StrokeEvents}
    (found : Detects g kind c ce) (b : BladeParams)
    (stays : ce.2.bladeFault = true ∨ ce.2.stepDone = false ∧ ce.2.lockOn = false) : Detects g kind c (ownMove b ce) := by
  rw [ownMove_stays b stays]
  exact ⟨found.records, found.responds, found.bladeFault⟩

/-- The 64th stroke in SETTLING without lock-on is NO-SETTLE (R112, R120). -/
theorem guardTests_noSettle {g : GuardSettings} {k : Stroke} {c : Channel} {ce : Channel × StrokeEvents} (st : k.st = .settling)
    (same : ce.1.st = c.st ∧ ce.1.brake = c.brake ∧ ce.1.retries = c.retries ∧ ce.1.record.counts = c.record.counts)
    (unlocked : ce.2.lockOn = false) (late : 64 ≤ ce.1.settleStrokes) (tested : g.modes.noSettle ≠ .ignore)
    (going : ce.2.bladeFault = false) (light : k.average ≤ g.lockLimit) (strokes : 1 ≤ g.lockStrokes)
    (calm : ce.2.escalated = false) :
    Detects g .noSettle c (guardTests g k ce) ∧ (guardTests g k ce).2.noSettle = true ∧
      (guardTests g k ce).2.stepDone = ce.2.stepDone ∧ (guardTests g k ce).2.lockOn = false ∧
      (g.modes.noSettle = .report → (guardTests g k ce).1.settleStrokes = 0) := by
  obtain ⟨same, brake, retries, counts⟩ := same
  have outside : k.st ≠ .run := by
    rw [st]
    exact fun run => by cases run
  have rough : testRough g k ce = ce := if_neg outside
  have due : testNoSettle g k ce = detect g .noSettle { ce.1 with settleStrokes := 0 } { ce.2 with noSettle := true } :=
    if_pos ⟨st, unlocked, late, (g.tests_iff .noSettle).mpr tested⟩
  have found : Detects g .noSettle c (detect g .noSettle { ce.1 with settleStrokes := 0 } { ce.2 with noSettle := true }) :=
    detect_detects (kind := .noSettle) tested _ same brake retries counts
  have unjudged : k.atCut = true → k.feeding = true → g.noBlade ≤ k.average := fun cut => by
    rw [Stroke.atCut, decide_eq_false outside] at cut
    cases cut
  obtain ⟨found, carried⟩ := found.pastOverload light strokes calm unjudged
  rw [guardTests, rough, unlessOut_going (test := testNoSettle g k) going, due]
  refine ⟨found, carried.noSettle, carried.stepDone, carried.lockOn.trans unlocked,
    fun reports => carried.settleStrokes.trans ?_⟩
  have mode : g.modes.get .noSettle = .report := reports
  rw [detect, Channel.respond, mode]
  rfl

theorem State.pulsed_noSettle (ends : (s.head h).EndsStroke p) (quiet : (s.head h).QuietStroke p)
    (st : (s.head h).blade.st = .settling)
    (unlocked : (((s.head h).measured p).countSettling (s.head h).bladeParams).2.lockOn = false)
    (late : 64 ≤ (s.head h).blade.settleStrokes + 1) (tested : (s.head h).guard.modes.noSettle ≠ .ignore) :
    Detects (s.head h).guard .noSettle (s.head h).blade (s.pulsed h p) ∧ (s.pulsed h p).2.noSettle = true ∧
      ((s.head h).guard.modes.noSettle = .report → (s.pulsed h p).1.settleStrokes = 0) := by
  obtain ⟨light, strokes, -, -, -⟩ := quiet
  have counted : (((s.head h).measured p).countSettling (s.head h).bladeParams).1.settleStrokes =
    (s.head h).blade.settleStrokes + 1 := rfl
  have worked := (s.head h).work_worked p
  rw [Head.work_settling st] at worked
  have calm : (((s.head h).measured p).countSettling (s.head h).bladeParams).2.escalated = false := rfl
  have going : (((s.head h).measured p).countSettling (s.head h).bladeParams).2.bladeFault = false := rfl
  have tests := guardTests_noSettle (g := (s.head h).guard) (k := (s.head h).ended p)
    (c := (s.head h).blade) (ce := ((s.head h).measured p).countSettling (s.head h).bladeParams) st
    ⟨worked.st, worked.brake, worked.retries, worked.counts⟩ unlocked
    (by rw [counted]; exact late) tested going light strokes calm
  rw [State.pulsed_ended ends, Channel.ownWork_settling _ st]
  generalize guardTests _ _ _ = r at tests ⊢
  obtain ⟨found, flag, step, lock, reported⟩ := tests
  refine ⟨found.unmoved _ (.inr ⟨step, lock⟩), ?_, ?_⟩ <;> rw [ownMove_stays _ (.inr ⟨step, lock⟩)]
  · exact flag
  · exact reported

end Ends

/-! ### The climb -/

/-- WAIT-CLEARED, once raised, stands to the end of the event. -/
theorem State.Hears.waitCleared {u : LinkId → AttSet} {s t : State} (hears : State.Hears u s t) {l : LinkId}
    (raised : (s.link l).attention.waitCleared = true) : (t.link l).attention.waitCleared = true := by
  obtain ⟨c, -, e⟩ := hears l
  rw [e]
  simp [AttSet.union, raised]

/-- A watched BLADE-NOT-READY that ceases raises WAIT-CLEARED (R75, R112). -/
theorem State.bladeNews_clears {s : State} {h : HeadId} (bladeFault : Bool)
    (watched : (s.head h).watch.reasons.bladeNotReady = true) :
    ((State.bladeNews h true bladeFault s).link (.head h)).attention.waitCleared = true := by
  have told : s.tell h (fun w => w.reasons.bladeNotReady) = s.wake h := if_pos watched
  have woken := (State.wake_ends s h).2
  unfold State.bladeNews
  rw [if_pos rfl, told]
  dsimp only
  split
  · exact ((State.raise_hears (s.wake h) _ (AttSet.below_refl _)).trans
      (State.raise_hears (u := fun _ => AttSet.ofBladeFault) _ _ (AttSet.below_refl _))).waitCleared woken
  · exact woken

section Climb

variable {s : State} {h : HeadId} {p : Pulse}

/-- What an accepted pulse leaves at its head, by INDEX_PULSE and by a row that names what it brings about (log 5). -/
theorem State.pulse_taken (steady : s.Steady h) (accepts : (s.head h).blade.st.accepts = true) (inTime : (s.head h).InTime p)
    (unblanked : (s.head h).blade.pulseSeen = false ∨
      60000000 / (s.head h).blade.commanded ≤ 2 * ((s.head h).blade.since + p.after)) :
    ∃ t : State, exec (.indexPulse h p) s = .next t ∧
      (∀ flag : StrokeEvents → Bool, flag (s.pulsed h p).2 = true →
        (Host.Outcome.next (State.pulseThat flag s h p) : Host.Outcome State Fault Refusal) = .next t) ∧
      (t.head h).blade = (s.pulsed h p).1 ∧ (t.head h).hold.blade =
        ((s.head h).holdsCut && !(s.pulsed h p).1.runAtCut || decide (0 < (s.pulsed h p).1.pause)) ∧
      (t.head h).watch = (if (s.pulsed h p).2.ready = true ∧ (s.head h).watch.reasons.bladeNotReady = true
        then Watch.empty else (s.head h).watch) ∧
      ((s.pulsed h p).2.ready = true → (s.head h).watch.reasons.bladeNotReady = true →
        (t.link (.head h)).attention.waitCleared = true) := by
  obtain ⟨blade, hold⟩ := State.pulse_head accepts inTime unblanked steady.demandNow
  refine ⟨s.pulse h p, rfl, fun flag flagged => congrArg _ (State.pulseThat_of flagged accepts inTime unblanked), blade, ?_,
    State.pulse_watch steady accepts inTime unblanked, fun ready watched => ?_⟩
  · rw [hold, State.head_elapse]
    rfl
  · rw [State.pulse_accepted accepts inTime unblanked]
    refine (State.closeEvent_hears _ _).waitCleared ?_
    rw [State.struck, ready]
    refine State.bladeNews_clears _ ?_
    rw [State.setBlade_head_self]
    show ((s.elapse p.after).head h).watch.reasons.bladeNotReady = true
    rw [State.head_elapse]
    exact watched

/-- A quiet stroke in SPINUP (R107). -/
theorem State.spinup_stroke (steady : s.Steady h) (ends : (s.head h).EndsStroke p) (quiet : (s.head h).QuietStroke p)
    (st : (s.head h).blade.st = .spinup) :
    ((s.head h).blade.stepCount + 1 < (s.head h).bladeParams.stepStrokes →
      ∃ t, exec (.indexPulse h p) s = .next t ∧ (t.head h).blade.st = .spinup ∧ (t.head h).blade.step = (s.head h).blade.step ∧
        (t.head h).blade.stepCount = (s.head h).blade.stepCount + 1 ∧
        (t.head h).blade.commanded = (s.head h).blade.commanded ∧ (t.head h).blade.watchLeft = some 1000000) ∧
    ((s.head h).bladeParams.stepStrokes ≤ (s.head h).blade.stepCount + 1 →
      ∃ t, exec (.spinupStepComplete h p) s = .next t ∧
        ((s.head h).blade.step < 8 → (t.head h).blade.st = .spinup ∧
          (t.head h).blade.step = (s.head h).blade.step + 1 ∧ (t.head h).blade.stepCount = 0 ∧
          (t.head h).blade.target = (s.head h).blade.target ∧
          (t.head h).blade.commanded = (s.head h).bladeParams.stepRate (s.head h).blade.target ((s.head h).blade.step + 1)) ∧
        (8 ≤ (s.head h).blade.step → (t.head h).blade.st = .settling ∧
          (t.head h).blade.target = (s.head h).blade.target ∧ (t.head h).blade.settleCount = 0 ∧
          (t.head h).blade.settleStrokes = 0 ∧
          (t.head h).blade.commanded = (s.head h).bladeParams.rateOf (s.head h).blade.target ∧
          (t.head h).blade.watchLeft =
            some (3 * (60000000 / (s.head h).bladeParams.rateOf (s.head h).blade.target)))) := by
  obtain ⟨t, index, named, blade, -⟩ := State.pulse_taken steady ends.1 ends.2.2.1 ends.unblanked
  obtain ⟨m, n, k, measures, pulsed⟩ := State.pulsed_spinup ends quiet st
  have st := measures.st.trans st
  rw [← measures.stepCount, ← measures.step, ← measures.target, ← measures.commanded]
  refine ⟨fun more => ⟨t, index, ?_⟩, fun done => ⟨t, named _ ?_, fun early => ?_, fun last => ?_⟩⟩
  · rw [blade, pulsed, ownMove_countPulse_more more]
    exact ⟨st, rfl, rfl, rfl, measures.watch (measures.st.symm.trans st)⟩
  · rw [pulsed, (ownMove_countPulse_done done n k).1]
    exact (ownMove_countPulse_done done n k).2
  · rw [blade, pulsed, (ownMove_countPulse_done done n k).1, Channel.nextStep]
    dsimp only
    rw [if_pos early]
    exact ⟨st, rfl, rfl, rfl, rfl⟩
  · rw [blade, pulsed, (ownMove_countPulse_done done n k).1, Channel.nextStep]
    dsimp only
    rw [if_neg (Nat.not_lt.mpr last)]
    refine ⟨rfl, rfl, rfl, rfl, rfl, congrArg some ?_⟩
    rw [Channel.strokeWatch]
    dsimp only
    rw [if_pos measures.seen, measures.since]
    rfl

/-- A quiet stroke in SETTLING that completes the settle count (R112). -/
theorem State.settling_locks (steady : s.Steady h) (ends : (s.head h).EndsStroke p) (quiet : (s.head h).QuietStroke p)
    (st : (s.head h).blade.st = .settling)
    (near : 20 * absDiff (60000000 / (s.head h).strokePeriod p) (s.head h).blade.commanded ≤ (s.head h).blade.commanded)
    (settled : (s.head h).bladeParams.settle ≤ (s.head h).blade.settleCount + 1) :
    ∃ t, exec (.lockOn h p) s = .next t ∧ (t.head h).blade.st = .run ∧ (t.head h).blade.target = (s.head h).blade.target ∧
      (t.head h).blade.commanded = (s.head h).blade.commanded ∧ (t.head h).blade.cleanRun = 0 ∧
      (t.head h).blade.lastRunPeriod = none ∧
      ((s.head h).blade.target = .cut → (t.head h).hold.blade = decide (0 < (s.head h).blade.pause) ∧
        ((s.head h).watch.reasons.bladeNotReady = true →
          (t.head h).watch = Watch.empty ∧ (t.link (.head h)).attention.waitCleared = true)) := by
  obtain ⟨t, -, named, blade, hold, watch, cleared⟩ := State.pulse_taken steady ends.1 ends.2.2.1 ends.unblanked
  have measures := (s.head h).measures p
  obtain ⟨counted, locks⟩ := measures.countSettling (s.head h).bladeParams
  rw [counted, if_pos near, decide_eq_true settled] at locks
  obtain ⟨n, k, pulsed⟩ := State.pulsed_settling ends quiet st fun unlocked => by
    rw [locks] at unlocked
    cases unlocked
  generalize (s.head h).measured p = m at measures locks pulsed
  have moves := (pulsed.trans (ownMove_lockOn _ rfl rfl (by exact locks)))
  rw [moves] at blade hold watch cleared
  refine ⟨t, named _ (by rw [moves]; exact locks), ?_, ?_, ?_, ?_, ?_, fun cut => ⟨?_, fun watched => ?_⟩⟩
  · rw [blade]
    rfl
  · rw [blade]
    exact measures.target
  · rw [blade]
    exact measures.commanded
  · rw [blade]
    rfl
  · rw [blade]
    rfl
  · have runs : (Channel.enterRun { (m.countSettling (s.head h).bladeParams).1 with lockRun := n, missRun := k }).runAtCut = true := by
      show (decide (ChState.run = .run) && decide (m.target = .cut)) = true
      rw [measures.target, cut]
      rfl
    rw [hold]
    dsimp only
    rw [runs, Bool.not_true, Bool.and_false, Bool.false_or, ← measures.pause]
    rfl
  · have ready : decide (m.target = .cut) = true := by rw [measures.target, cut]; rfl
    exact ⟨watch.trans (if_pos ⟨ready, watched⟩), cleared ready watched⟩

/-- A quiet stroke in SETTLING that does not complete the settle count (R112, R120). -/
theorem State.settling_goes_on (steady : s.Steady h) (ends : (s.head h).EndsStroke p) (quiet : (s.head h).QuietStroke p)
    (st : (s.head h).blade.st = .settling) (settles : 1 ≤ (s.head h).bladeParams.settle)
    (unsettled : ¬ 20 * absDiff (60000000 / (s.head h).strokePeriod p) (s.head h).blade.commanded ≤ (s.head h).blade.commanded ∨
      (s.head h).blade.settleCount + 1 < (s.head h).bladeParams.settle) :
    ((s.head h).blade.settleStrokes + 1 < 64 →
      ∃ t, exec (.indexPulse h p) s = .next t ∧ (t.head h).blade.st = .settling ∧
        (t.head h).blade.settleStrokes = (s.head h).blade.settleStrokes + 1 ∧
        (t.head h).blade.settleCount =
          if 20 * absDiff (60000000 / (s.head h).strokePeriod p) (s.head h).blade.commanded ≤ (s.head h).blade.commanded
          then (s.head h).blade.settleCount + 1 else 0) ∧
    (64 ≤ (s.head h).blade.settleStrokes + 1 → (s.head h).guard.modes.noSettle ≠ .ignore →
      ∃ t, exec (.noSettle h p) s = .next t ∧ Records .noSettle (s.head h).blade (t.head h).blade ∧
        RespondsTo (s.head h).guard.modes.noSettle (s.head h).guard (s.head h).blade (t.head h).blade ∧
        ((s.head h).guard.modes.noSettle = .report → (t.head h).blade.settleStrokes = 0)) := by
  obtain ⟨t, index, named, blade, -⟩ := State.pulse_taken steady ends.1 ends.2.2.1 ends.unblanked
  have measures := (s.head h).measures p
  obtain ⟨counted, locks⟩ := measures.countSettling (s.head h).bladeParams
  have unlocked : (((s.head h).measured p).countSettling (s.head h).bladeParams).2.lockOn = false := by
    rw [locks, counted]
    refine decide_eq_false ?_
    split
    · next near =>
      have := unsettled.resolve_left fun far => far near
      omega
    · omega
  refine ⟨fun early => ⟨t, index, ?_⟩, fun late tested => ?_⟩
  · obtain ⟨n, k, pulsed⟩ := State.pulsed_settling ends quiet st fun _ => early
    generalize (s.head h).measured p = m at measures counted unlocked pulsed
    rw [blade, pulsed, ownMove_stays _ (.inr ⟨rfl, by exact unlocked⟩)]
    exact ⟨measures.st.trans st, congrArg (· + 1) measures.settleStrokes, counted⟩
  · obtain ⟨found, flag, reported⟩ := State.pulsed_noSettle ends quiet st unlocked late tested
    refine ⟨t, named _ flag, ?_⟩
    rw [blade]
    exact ⟨found.records, found.responds, reported⟩

/-- Channel m has the first pulse of a climb accepted, which ends no stroke (R110). -/
structure Channel.FirstPulsed (c m : Channel) : Prop where
  st : m.st = c.st
  target : m.target = c.target
  step : m.step = c.step
  stepCount : m.stepCount = c.stepCount
  commanded : m.commanded = c.commanded
  seen : m.pulseSeen = true
  measured : m.measured = c.measured
  lastAvg : m.lastAvg = c.lastAvg
  lastPeak : m.lastPeak = c.lastPeak
  record : m.record = c.record
  strokes : m.strokes = min 65535 (c.strokes + 1)
  samples : m.sampleCount = 0
  watch : c.st = .spinup → m.watchLeft = some 1000000

theorem Channel.firstPulsed (c : Channel) (p : Pulse) :
    Channel.FirstPulsed c ((c.elapse p.after).addSamples p.samples).acceptPulse where
  st := rfl
  target := rfl
  step := rfl
  stepCount := rfl
  commanded := rfl
  seen := rfl
  measured := rfl
  lastAvg := rfl
  lastPeak := rfl
  record := rfl
  strokes := rfl
  samples := rfl
  watch st := congrArg some (if_pos (by exact st))

/-- What the first pulse of a climb leaves in any case (R110). -/
def Channel.First (c d : Channel) : Prop :=
  d.pulseSeen = true ∧ d.measured = c.measured ∧ d.lastAvg = c.lastAvg ∧ d.lastPeak = c.lastPeak ∧ d.record = c.record ∧
    d.strokes = min 65535 (c.strokes + 1) ∧ d.sampleCount = 0

/-- The first pulse of a climb (R107, R110). -/
theorem State.spinup_first (steady : s.Steady h) (inTime : (s.head h).InTime p) (st : (s.head h).blade.st = .spinup)
    (first : (s.head h).blade.pulseSeen = false) :
    ((s.head h).blade.stepCount + 1 < (s.head h).bladeParams.stepStrokes →
      ∃ t, exec (.indexPulse h p) s = .next t ∧ (s.head h).blade.First (t.head h).blade ∧ (t.head h).blade.st = .spinup ∧
        (t.head h).blade.step = (s.head h).blade.step ∧ (t.head h).blade.stepCount = (s.head h).blade.stepCount + 1 ∧
        (t.head h).blade.commanded = (s.head h).blade.commanded ∧ (t.head h).blade.watchLeft = some 1000000) ∧
    ((s.head h).bladeParams.stepStrokes ≤ (s.head h).blade.stepCount + 1 → (s.head h).blade.step < 8 →
      ∃ t, exec (.spinupStepComplete h p) s = .next t ∧ (s.head h).blade.First (t.head h).blade ∧
        (t.head h).blade.st = .spinup ∧ (t.head h).blade.step = (s.head h).blade.step + 1 ∧ (t.head h).blade.stepCount = 0 ∧
        (t.head h).blade.commanded = (s.head h).bladeParams.stepRate (s.head h).blade.target ((s.head h).blade.step + 1)) := by
  have accepts : (s.head h).blade.st.accepts = true := by rw [st]; rfl
  obtain ⟨t, index, named, blade, -⟩ := State.pulse_taken steady accepts inTime (.inl first)
  have begun := (s.head h).blade.firstPulsed p
  have pulsed := State.pulsed_first (p := p) st first
  generalize (((s.head h).blade.elapse p.after).addSamples p.samples).acceptPulse = m at begun pulsed
  have run := begun.st.trans st
  rw [← begun.stepCount, ← begun.step, ← begun.commanded, ← begun.target]
  refine ⟨fun more => ⟨t, index, ?_⟩, fun done early => ⟨t, named _ ?_, ?_⟩⟩
  · have counted : (s.pulsed h p).1 = { m with stepCount := m.stepCount + 1 } :=
      (congrArg Prod.fst pulsed).trans (ownMove_countPulse_more more m.lockRun m.missRun)
    rw [blade, counted]
    exact ⟨⟨begun.seen, begun.measured, begun.lastAvg, begun.lastPeak, begun.record, begun.strokes, begun.samples⟩, run, rfl, rfl,
      rfl, begun.watch st⟩
  · rw [pulsed, ownMove_stepDone _ rfl (by exact decide_eq_true done)]
    exact decide_eq_true done
  · have counted : (s.pulsed h p).1 = Channel.nextStep (s.head h).bladeParams { m with stepCount := m.stepCount + 1 } :=
      (congrArg Prod.fst pulsed).trans (congrArg Prod.fst (ownMove_countPulse_done done m.lockRun m.missRun).1)
    rw [blade, counted, Channel.nextStep]
    dsimp only
    rw [if_pos early]
    exact ⟨⟨begun.seen, begun.measured, begun.lastAvg, begun.lastPeak, begun.record, begun.strokes, begun.samples⟩, run, rfl, rfl,
      rfl⟩

end Climb

/-- Settles O47: the climb to RUN. -/
theorem spinupClimbsToRun : Obligations.SpinupClimbsToRun := by
  refine ⟨fun b lvl step code percent _ ramp coded => ?_, fun s h p steady inTime st first => ?_,
    fun s h p steady ends quiet => ⟨fun st => ?_, fun st settles => ⟨State.settling_locks steady ends quiet st, ?_⟩⟩⟩
  · rw [b.stepRate_coded lvl ramp coded]
    cases lvl <;> rfl
  · exact State.spinup_first steady inTime st first
  · obtain ⟨more, done⟩ := State.spinup_stroke steady ends quiet st
    refine ⟨more, fun full early => ?_, fun full last => ?_⟩
    · obtain ⟨t, taken, next, -⟩ := done full
      exact ⟨t, taken, next early⟩
    · obtain ⟨t, taken, -, settles⟩ := done full
      exact ⟨t, taken, settles last⟩
  · exact ⟨fun unsettled => (State.settling_goes_on steady ends quiet st settles unsettled).1,
      fun unsettled => (State.settling_goes_on steady ends quiet st settles unsettled).2⟩

end Sys2Proof.Machine

/-! PROOFS. The trim and relief of a stroke in RUN at CUT (R114 to R117). -/

namespace Sys2Proof.Machine

/-! ### A stroke in RUN in which nothing is detected -/

/-- What the guard's tests and the clean run leave of a stroke's judgement, where they detect nothing (R124). -/
structure Judged (w x : Channel × StrokeEvents) : Prop where
  st : x.1.st = w.1.st
  target : x.1.target = w.1.target
  trim : x.1.trim = w.1.trim
  heavy : x.1.heavy = w.1.heavy
  light : x.1.light = w.1.light
  pause : x.1.pause = w.1.pause
  escalation : x.1.escalation = w.1.escalation
  record : x.1.record = w.1.record
  trimDown : x.2.trimDown = w.2.trimDown
  trimUp : x.2.trimUp = w.2.trimUp
  pauseEnd : x.2.pauseEnd = w.2.pauseEnd

/-- The clean run of a stroke that ended in RUN (R127, log 19). -/
theorem countClean_run {k : Stroke} (st : k.st = .run) (ce : Channel × StrokeEvents) :
    (256 ≤ ce.1.cleanRun + 1 → countClean k ce = ({ ce.1 with cleanRun := 0, retries := 0 }, { ce.2 with clean := true })) ∧
      (ce.1.cleanRun + 1 < 256 → countClean k ce = ({ ce.1 with cleanRun := ce.1.cleanRun + 1 }, ce.2)) := by
  rw [countClean, if_pos st]
  exact ⟨fun full => if_pos full, fun more => if_neg (Nat.not_le.mpr more)⟩

theorem countClean_judged {k : Stroke} (st : k.st = .run) (w : Channel × StrokeEvents) (n m : Nat) :
    Judged w (countClean k ({ w.1.noted k with lockRun := n, missRun := m }, w.2)) := by
  obtain ⟨full, more⟩ := countClean_run st ({ w.1.noted k with lockRun := n, missRun := m }, w.2)
  by_cases fills : 256 ≤ w.1.cleanRun + 1
  · rw [full fills]
    exact ⟨rfl, rfl, rfl, rfl, rfl, rfl, rfl, rfl, rfl, rfl, rfl⟩
  · rw [more (Nat.not_le.mp fills)]
    exact ⟨rfl, rfl, rfl, rfl, rfl, rfl, rfl, rfl, rfl, rfl, rfl⟩

section Run

variable {s : State} {h : HeadId} {p : Pulse}

/-- A stroke in RUN in which nothing is detected is judged, and its clean run counted (R114, R115, R127). -/
theorem State.pulsed_run (ends : (s.head h).EndsStroke p) (st : (s.head h).blade.st = .run)
    (light : (s.head h).strokeAverage p ≤ (s.head h).guard.lockLimit) (strokes : 1 ≤ (s.head h).guard.lockStrokes)
    (shown : (s.head h).guard.noBlade ≤ (s.head h).strokeAverage p) (even : (s.head h).EvenStroke p)
    (calm : ((s.head h).work p).2.escalated = false) :
    ∃ n m, s.pulsed h p = ((countClean ((s.head h).ended p)
        ({ ((s.head h).work p).1.noted ((s.head h).ended p) with lockRun := n, missRun := m }, ((s.head h).work p).2)).1,
      { (countClean ((s.head h).ended p) ({ ((s.head h).work p).1.noted ((s.head h).ended p) with lockRun := n, missRun := m },
        ((s.head h).work p).2)).2 with stepDone := false, lockOn := false }) := by
  obtain ⟨n, m, pulsed⟩ := State.pulsed_passes ends light strokes shown even calm fun settling => by
    rw [st] at settling
    cases settling
  obtain ⟨step, lock⟩ := Channel.ownWork_run (b := (s.head h).bladeParams) (g := (s.head h).guard) (k := (s.head h).ended p)
    ((s.head h).measured p) st
  have carried := countClean_carried ((s.head h).ended p)
    ({ ((s.head h).work p).1.noted ((s.head h).ended p) with lockRun := n, missRun := m }, ((s.head h).work p).2)
  exact ⟨n, m, pulsed.trans (ownMove_stays _ (.inr ⟨carried.stepDone.trans step, carried.lockOn.trans lock⟩))⟩

theorem State.pulsed_judged (ends : (s.head h).EndsStroke p) (st : (s.head h).blade.st = .run)
    (light : (s.head h).strokeAverage p ≤ (s.head h).guard.lockLimit) (strokes : 1 ≤ (s.head h).guard.lockStrokes)
    (shown : (s.head h).guard.noBlade ≤ (s.head h).strokeAverage p) (even : (s.head h).EvenStroke p)
    (calm : ((s.head h).work p).2.escalated = false) : Judged ((s.head h).work p) (s.pulsed h p) := by
  obtain ⟨n, m, pulsed⟩ := State.pulsed_run ends st light strokes shown even calm
  have judged := countClean_judged (k := (s.head h).ended p) st ((s.head h).work p) n m
  rw [pulsed]
  exact ⟨judged.st, judged.target, judged.trim, judged.heavy, judged.light, judged.pause, judged.escalation, judged.record,
    judged.trimDown, judged.trimUp, judged.pauseEnd⟩

/-- The trim judges the stroke, and then relief (R114, R115). -/
theorem Head.work_atCut {hd : Head} (st : hd.blade.st = .run) (target : hd.blade.target = .cut) (p : Pulse) :
    hd.work p = Channel.relieve hd.guard (hd.ended p) ((hd.measured p).judgeTrim hd.bladeParams (hd.ended p)) :=
  Channel.ownWork_atCut _ st target

/-- What a stroke in RUN at CUT leaves, where nothing is detected (R114 to R117). -/
theorem State.cut_stroke (steady : s.Steady h) (ends : (s.head h).EndsStroke p) (st : (s.head h).blade.st = .run)
    (target : (s.head h).blade.target = .cut) (judged : Judged ((s.head h).work p) (s.pulsed h p)) :
    ∃ t, exec (.indexPulse h p) s = .next t ∧
      (∀ flag : StrokeEvents → Bool, flag (s.pulsed h p).2 = true →
        (Host.Outcome.next (State.pulseThat flag s h p) : Host.Outcome State Fault Refusal) = .next t) ∧
      (t.head h).blade = (s.pulsed h p).1 ∧ (t.head h).blade.st = .run ∧
      (t.head h).hold.blade = decide (0 < (t.head h).blade.pause) := by
  obtain ⟨t, index, named, blade, hold, -⟩ := State.pulse_taken steady ends.1 ends.2.2.1 ends.unblanked
  have worked := (s.head h).work_worked p
  have runs : (s.pulsed h p).1.st = .run := judged.st.trans (worked.st.trans st)
  have cut : (s.pulsed h p).1.target = .cut := judged.target.trans (worked.target.trans target)
  refine ⟨t, index, named, blade, by rw [blade, runs], ?_⟩
  rw [hold, blade, Channel.runAtCut, runs, cut]
  simp

end Run

/-! ### The trim -/

section Trim

variable {b : BladeParams} {k : Stroke} {c : Channel}

theorem Channel.judgeTrim_heavy (feeds : k.feeding = true) (heavy : b.trimHigh < k.average) :
    (4 ≤ c.heavy + 1 → c.judgeTrim b k =
      ({ c with heavy := 0, light := 0, trim := if c.trim ≤ 4 then c.trim else c.trim - 1 },
        { StrokeEvents.none with trimDown := true })) ∧
      (c.heavy + 1 < 4 → c.judgeTrim b k = ({ c with heavy := c.heavy + 1, light := 0 }, StrokeEvents.none)) := by
  rw [Channel.judgeTrim, if_neg (by rw [feeds]; exact Bool.noConfusion), if_pos heavy]
  exact ⟨fun full => if_pos full, fun more => if_neg (Nat.not_le.mpr more)⟩

theorem Channel.judgeTrim_light (feeds : k.feeding = true) (notHeavy : k.average ≤ b.trimHigh) (light : k.average < b.trimLow) :
    (16 ≤ c.light + 1 → c.judgeTrim b k =
      ({ c with heavy := 0, light := 0, trim := if 16 ≤ c.trim then c.trim else c.trim + 1 },
        { StrokeEvents.none with trimUp := true })) ∧
      (c.light + 1 < 16 → c.judgeTrim b k = ({ c with heavy := 0, light := c.light + 1 }, StrokeEvents.none)) := by
  rw [Channel.judgeTrim, if_neg (by rw [feeds]; exact Bool.noConfusion), if_neg (Nat.not_lt.mpr notHeavy), if_pos light]
  exact ⟨fun full => if_pos full, fun more => if_neg (Nat.not_le.mpr more)⟩

theorem Channel.judgeTrim_neutral (neutral : k.feeding = false ∨ (k.average ≤ b.trimHigh ∧ b.trimLow ≤ k.average)) :
    c.judgeTrim b k = ({ c with heavy := 0, light := 0 }, StrokeEvents.none) := by
  unfold Channel.judgeTrim
  obtain idle | ⟨high, low⟩ := neutral
  · exact if_pos idle
  · rw [if_neg (Nat.not_lt.mpr high), if_neg (Nat.not_lt.mpr low), ite_self]

end Trim

/-! ### Relief -/

section Relief

variable {g : GuardSettings} {k : Stroke} {ce : Channel × StrokeEvents}

/-- A stroke with its peak within the limit takes one from the pause (R115). -/
theorem Channel.relieve_within (mode : g.reliefMode = .relief) (peak : k.peak ≤ g.peakLimit) : Channel.relieve g k ce =
    ({ ce.1 with pause := ce.1.pause - 1, escalation := 0 }, { ce.2 with pauseEnd := decide (ce.1.pause = 1) }) := by
  rw [Channel.relieve, mode]
  exact if_neg (Nat.not_lt.mpr peak)

/-- A relieving stroke below the escalation limit begins the pause in full (R115). -/
theorem Channel.relieve_begins (mode : g.reliefMode = .relief) (peak : g.peakLimit < k.peak)
    (below : ce.1.escalation + 1 < g.escalation) : Channel.relieve g k ce =
      ({ ce.1.countRelief with pause := g.reliefN, escalation := ce.1.escalation + 1 }, ce.2) := by
  rw [Channel.relieve, mode]
  exact (if_pos peak).trans (if_neg (Nat.not_le.mpr below))

theorem Channel.relieve_reports (mode : g.reliefMode = .report) (peak : g.peakLimit < k.peak) :
    Channel.relieve g k ce = (ce.1.countRelief, ce.2) := by
  rw [Channel.relieve, mode]
  exact if_pos peak

theorem Channel.relieve_ignores (mode : g.reliefMode = .ignore) : Channel.relieve g k ce = ce := by
  rw [Channel.relieve, mode]

end Relief

/-! ### The judgement of a stroke -/

section Judgement

variable {s : State} {h : HeadId} {p : Pulse}

theorem Head.QuietStroke.calm {hd : Head} (quiet : hd.QuietStroke p) : (hd.work p).2.escalated = false := by
  obtain ⟨-, -, -, peak, -⟩ := quiet
  exact Channel.ownWork_unescalated _ fun _ => peak

/-- The trim's judgement of a stroke as it stands when the pulse is done (R114). -/
theorem Judged.trimmed {hd : Head} {x : Channel × StrokeEvents} (judged : Judged (hd.work p) x) (st : hd.blade.st = .run)
    (target : hd.blade.target = .cut) : ∃ m, hd.Measures p m ∧ ∀ d e, m.judgeTrim hd.bladeParams (hd.ended p) = (d, e) →
      x.1.heavy = d.heavy ∧ x.1.light = d.light ∧ x.1.trim = d.trim ∧ x.2.trimDown = e.trimDown ∧ x.2.trimUp = e.trimUp := by
  refine ⟨hd.measured p, hd.measures p, fun d e judge => ?_⟩
  obtain ⟨-, trim, heavy, light, events⟩ := Channel.relieve_kept hd.guard (hd.ended p) (d, e)
  rw [Head.work_atCut st target, judge] at judged
  refine ⟨judged.heavy.trans heavy, judged.light.trans light, judged.trim.trans trim, judged.trimDown.trans ?_,
    judged.trimUp.trans ?_⟩ <;> rw [events]

/-- The relief of a stroke as it stands when the pulse is done (R115). -/
theorem Judged.relieved {hd : Head} {x : Channel × StrokeEvents} (judged : Judged (hd.work p) x) (st : hd.blade.st = .run)
    (target : hd.blade.target = .cut) : ∃ ce : Channel × StrokeEvents, Judged (Channel.relieve hd.guard (hd.ended p) ce) x ∧
      ce.1.pause = hd.blade.pause ∧ ce.1.escalation = hd.blade.escalation ∧ ce.1.record = hd.blade.record := by
  have measures := hd.measures p
  obtain ⟨-, pause, escalation, record, -⟩ := (hd.measured p).judgeTrim_kept hd.bladeParams (hd.ended p)
  rw [Head.work_atCut st target] at judged
  exact ⟨_, judged, pause.trans measures.pause, escalation.trans measures.escalation, record.trans measures.record⟩

/-- Where relief does not escalate, nothing is detected of a light stroke that shows the blade (R115, R122, R123). -/
theorem Head.work_below {hd : Head} (st : hd.blade.st = .run) (target : hd.blade.target = .cut)
    (below : hd.guard.reliefMode = .relief → hd.blade.escalation + 1 < hd.guard.escalation)
    (peak : hd.guard.peakLimit < hd.strokePeak p) : (hd.work p).2.escalated = false := by
  obtain ⟨-, -, escalation, -, events⟩ := (hd.measured p).judgeTrim_kept hd.bladeParams (hd.ended p)
  have none : ((hd.measured p).judgeTrim hd.bladeParams (hd.ended p)).2.escalated = false := by rw [events]; rfl
  have same := escalation.trans (hd.measures p).escalation
  rw [Head.work_atCut st target]
  cases mode : hd.guard.reliefMode with
  | ignore => rw [Channel.relieve_ignores mode, none]
  | report => rw [Channel.relieve_reports mode peak, none]
  | relief => rw [Channel.relieve_begins mode peak (by rw [same]; exact below mode), none]

/-! ### The rows -/

variable (steady : s.Steady h) (ends : (s.head h).EndsStroke p) (st : (s.head h).blade.st = .run)
  (target : (s.head h).blade.target = .cut)

include steady ends st target

section Quiet

variable (quiet : (s.head h).QuietStroke p)

include quiet

omit steady target in
theorem State.quiet_judged : Judged ((s.head h).work p) (s.pulsed h p) := by
  have calm := quiet.calm
  obtain ⟨light, strokes, shown, -, even⟩ := quiet
  exact State.pulsed_judged ends st light strokes shown even calm

/-- A heavy stroke of a feeding head (R114). -/
theorem State.heavy_stroke (feeds : (s.head h).feeding = true)
    (heavy : (s.head h).bladeParams.trimHigh < (s.head h).strokeAverage p) :
    (4 ≤ (s.head h).blade.heavy + 1 → ∃ t, exec (.trimStepDown h p) s = .next t ∧ (t.head h).blade.st = .run ∧
      (t.head h).blade.heavy = 0 ∧ (t.head h).blade.light = 0 ∧ (t.head h).blade.trim =
        if (s.head h).blade.trim ≤ 4 then (s.head h).blade.trim else (s.head h).blade.trim - 1) ∧
    ((s.head h).blade.heavy + 1 < 4 → ∃ t, exec (.indexPulse h p) s = .next t ∧
      (t.head h).blade.heavy = (s.head h).blade.heavy + 1 ∧ (t.head h).blade.light = 0 ∧
      (t.head h).blade.trim = (s.head h).blade.trim) := by
  have judged := State.quiet_judged ends st quiet
  obtain ⟨t, index, named, blade, runs, -⟩ := State.cut_stroke steady ends st target judged
  obtain ⟨m, measures, trimmed⟩ := judged.trimmed st target
  obtain ⟨down, counts⟩ := Channel.judgeTrim_heavy (k := (s.head h).ended p) (c := m) feeds heavy
  rw [← measures.heavy, ← measures.trim]
  refine ⟨fun full => ?_, fun more => ?_⟩
  · obtain ⟨heavy, light, trim, flag, -⟩ := trimmed _ _ (down full)
    refine ⟨t, named _ flag, runs, ?_⟩
    rw [blade]
    exact ⟨heavy, light, trim⟩
  · obtain ⟨heavy, light, trim, -, -⟩ := trimmed _ _ (counts more)
    refine ⟨t, index, ?_⟩
    rw [blade]
    exact ⟨heavy, light, trim⟩

/-- A light stroke of a feeding head (R114). -/
theorem State.light_stroke (feeds : (s.head h).feeding = true)
    (notHeavy : (s.head h).strokeAverage p ≤ (s.head h).bladeParams.trimHigh)
    (light : (s.head h).strokeAverage p < (s.head h).bladeParams.trimLow) :
    (16 ≤ (s.head h).blade.light + 1 → ∃ t, exec (.trimStepUp h p) s = .next t ∧ (t.head h).blade.st = .run ∧
      (t.head h).blade.heavy = 0 ∧ (t.head h).blade.light = 0 ∧ (t.head h).blade.trim =
        if 16 ≤ (s.head h).blade.trim then (s.head h).blade.trim else (s.head h).blade.trim + 1) ∧
    ((s.head h).blade.light + 1 < 16 → ∃ t, exec (.indexPulse h p) s = .next t ∧
      (t.head h).blade.light = (s.head h).blade.light + 1 ∧ (t.head h).blade.heavy = 0 ∧
      (t.head h).blade.trim = (s.head h).blade.trim) := by
  have judged := State.quiet_judged ends st quiet
  obtain ⟨t, index, named, blade, runs, -⟩ := State.cut_stroke steady ends st target judged
  obtain ⟨m, measures, trimmed⟩ := judged.trimmed st target
  obtain ⟨up, counts⟩ := Channel.judgeTrim_light (k := (s.head h).ended p) (c := m) feeds notHeavy light
  rw [← measures.light, ← measures.trim]
  refine ⟨fun full => ?_, fun more => ?_⟩
  · obtain ⟨heavy, light, trim, -, flag⟩ := trimmed _ _ (up full)
    refine ⟨t, named _ flag, runs, ?_⟩
    rw [blade]
    exact ⟨heavy, light, trim⟩
  · obtain ⟨heavy, light, trim, -, -⟩ := trimmed _ _ (counts more)
    refine ⟨t, index, ?_⟩
    rw [blade]
    exact ⟨light, heavy, trim⟩

/-- A stroke that is neither, or of a head that does not feed (R114). -/
theorem State.neutral_stroke (neutral : (s.head h).feeding = false ∨
      ((s.head h).strokeAverage p ≤ (s.head h).bladeParams.trimHigh ∧ (s.head h).bladeParams.trimLow ≤ (s.head h).strokeAverage p)) :
    ∃ t, exec (.indexPulse h p) s = .next t ∧ (t.head h).blade.heavy = 0 ∧ (t.head h).blade.light = 0 ∧
      (t.head h).blade.trim = (s.head h).blade.trim := by
  have judged := State.quiet_judged ends st quiet
  obtain ⟨t, index, -, blade, -⟩ := State.cut_stroke steady ends st target judged
  obtain ⟨m, measures, trimmed⟩ := judged.trimmed st target
  obtain ⟨heavy, light, trim, -, -⟩ := trimmed _ _ (Channel.judgeTrim_neutral neutral)
  refine ⟨t, index, ?_⟩
  rw [blade, ← measures.trim]
  exact ⟨heavy, light, trim⟩

/-- A stroke with its peak within the limit takes one from the relief pause (R115, R117). -/
theorem State.paused_stroke (mode : (s.head h).guard.reliefMode = .relief) :
    (1 < (s.head h).blade.pause → ∃ t, exec (.indexPulse h p) s = .next t ∧
      (t.head h).blade.pause = (s.head h).blade.pause - 1 ∧ (t.head h).blade.escalation = 0 ∧ (t.head h).hold.blade = true) ∧
    ((s.head h).blade.pause = 1 → ∃ t, exec (.reliefPauseEnd h p) s = .next t ∧ (t.head h).blade.st = .run ∧
      (t.head h).blade.pause = 0 ∧ (t.head h).blade.escalation = 0 ∧ (t.head h).hold.blade = false) := by
  have judged := State.quiet_judged ends st quiet
  obtain ⟨-, -, -, peak, -⟩ := quiet
  obtain ⟨t, index, named, blade, runs, hold⟩ := State.cut_stroke steady ends st target judged
  obtain ⟨ce, relieved, pause, -, -⟩ := judged.relieved st target
  rw [Channel.relieve_within mode peak] at relieved
  have left : (s.pulsed h p).1.pause = ce.1.pause - 1 := relieved.pause
  rw [← pause]
  refine ⟨fun more => ⟨t, index, ?_⟩, fun last => ⟨t, named _ (relieved.pauseEnd.trans (decide_eq_true last)), runs, ?_⟩⟩
  · rw [hold, blade, left]
    exact ⟨rfl, relieved.escalation, decide_eq_true (by omega)⟩
  · rw [hold, blade, left, last]
    exact ⟨rfl, relieved.escalation, rfl⟩

end Quiet

/-- A relieving stroke that escalates nothing (R115 to R117). -/
theorem State.relieving_stroke (peak : (s.head h).guard.peakLimit < (s.head h).strokePeak p)
    (light : (s.head h).strokeAverage p ≤ (s.head h).guard.lockLimit) (strokes : 1 ≤ (s.head h).guard.lockStrokes)
    (shown : (s.head h).guard.noBlade ≤ (s.head h).strokeAverage p) (even : (s.head h).EvenStroke p)
    (some : 1 ≤ (s.head h).guard.reliefN)
    (below : (s.head h).guard.reliefMode = .relief → (s.head h).blade.escalation + 1 < (s.head h).guard.escalation) :
    ∃ t, exec (.indexPulse h p) s = .next t ∧
      ((s.head h).guard.reliefMode = .relief → (t.head h).blade.pause = (s.head h).guard.reliefN ∧
        (t.head h).blade.escalation = (s.head h).blade.escalation + 1 ∧ (t.head h).hold.blade = true ∧
        (t.head h).blade.record.reliefs = min 255 ((s.head h).blade.record.reliefs + 1)) ∧
      ((s.head h).guard.reliefMode = .report → (t.head h).blade.pause = (s.head h).blade.pause ∧
        (t.head h).blade.escalation = (s.head h).blade.escalation ∧
        (t.head h).blade.record.reliefs = min 255 ((s.head h).blade.record.reliefs + 1)) ∧
      ((s.head h).guard.reliefMode = .ignore → (t.head h).blade.pause = (s.head h).blade.pause ∧
        (t.head h).blade.record.reliefs = (s.head h).blade.record.reliefs) := by
  have judged := State.pulsed_judged ends st light strokes shown even (Head.work_below st target below peak)
  obtain ⟨t, index, -, blade, -, hold⟩ := State.cut_stroke steady ends st target judged
  obtain ⟨ce, relieved, pause, escalation, record⟩ := judged.relieved st target
  rw [← pause, ← escalation, ← record]
  rw [← escalation] at below
  refine ⟨t, index, ?_⟩
  rw [hold, blade]
  refine ⟨fun mode => ?_, fun mode => ?_, fun mode => ?_⟩
  · rw [Channel.relieve_begins mode peak (below mode)] at relieved
    have begun : (s.pulsed h p).1.pause = (s.head h).guard.reliefN := relieved.pause
    rw [relieved.record, begun]
    exact ⟨rfl, relieved.escalation, decide_eq_true some, rfl⟩
  · rw [Channel.relieve_reports mode peak] at relieved
    rw [relieved.record]
    exact ⟨relieved.pause, relieved.escalation, rfl⟩
  · rw [Channel.relieve_ignores mode] at relieved
    rw [relieved.record]
    exact ⟨relieved.pause, rfl⟩

end Judgement

/-- Settles O48: trim steps and relief. -/
theorem trimAndReliefJudgeTheStroke : Obligations.TrimAndReliefJudgeTheStroke := by
  intro s h p steady ends st target
  refine ⟨fun quiet => ⟨fun feeds heavy => (State.heavy_stroke steady ends st target quiet feeds heavy).1,
    fun feeds heavy => (State.heavy_stroke steady ends st target quiet feeds heavy).2,
    fun feeds notHeavy light => (State.light_stroke steady ends st target quiet feeds notHeavy light).1,
    fun feeds notHeavy light => (State.light_stroke steady ends st target quiet feeds notHeavy light).2,
    State.neutral_stroke steady ends st target quiet, fun mode => (State.paused_stroke steady ends st target quiet mode).1,
    fun mode => (State.paused_stroke steady ends st target quiet mode).2⟩, fun peak light strokes shown even some => ?_⟩
  have relieving := State.relieving_stroke steady ends st target peak light strokes shown even some
  refine ⟨fun mode below => ?_, fun mode => ?_, fun mode => ?_⟩
  · obtain ⟨t, index, relieves, -⟩ := relieving fun _ => below
    exact ⟨t, index, relieves mode⟩
  · obtain ⟨t, index, -, reports, -⟩ := relieving fun relief => by rw [mode] at relief; cases relief
    exact ⟨t, index, reports mode⟩
  · obtain ⟨t, index, -, -, ignores⟩ := relieving fun relief => by rw [mode] at relief; cases relief
    exact ⟨t, index, ignores mode⟩

end Sys2Proof.Machine

/-! PROOFS. The guard's detections on a stroke, and the clean run (R119 to R127, R131). -/

namespace Sys2Proof.Machine

/-! ### What each test detects -/

section Tests

variable {g : GuardSettings} {k : Stroke} {c : Channel} {ce : Channel × StrokeEvents}

/-- A stroke in RUN that is rough against the last RUN period (R121). -/
theorem testRough_detects (st : k.st = .run) (tested : g.modes.roughRate ≠ .ignore) {q : Nat} (last : ce.1.lastRunPeriod = some q)
    (rough : g.rough * min k.period q < max k.period q) :
    testRough g k ce = detect g .roughRate { ce.1 with lastRunPeriod := some k.period } ce.2 := by
  have found : (g.tests .roughRate && roughAgainst g.rough k.period ce.1.lastRunPeriod) = true := by
    rw [last, (g.tests_iff .roughRate).mpr tested]
    exact decide_eq_true rough
  rw [testRough, if_pos st]
  exact if_pos found

/-- A stroke that completes the lock run, or relief that has escalated (R122). -/
theorem testOverload_detects (tested : g.modes.overload ≠ .ignore)
    (locks : (g.lockLimit < k.average ∧ g.lockStrokes ≤ ce.1.lockRun + 1) ∨ ce.2.escalated = true) :
    ∃ n, testOverload g k ce = detect g .overload { ce.1 with lockRun := n } { ce.2 with overload := true } := by
  refine ⟨_, (if_pos ((g.tests_iff .overload).mpr tested)).trans (if_pos ?_)⟩
  obtain ⟨heavy, full⟩ | escalated := locks
  · rw [if_pos heavy, decide_eq_true full]
    rfl
  · rw [escalated, Bool.or_true]

/-- A feeding stroke in RUN at CUT below the threshold (R123). -/
theorem testMissing_low (tested : g.modes.bladeMissing ≠ .ignore) (cut : k.atCut = true) (feeds : k.feeding = true)
    (low : k.average < g.noBlade) :
    (32 ≤ ce.1.missRun + 1 →
      testMissing g k ce = detect g .bladeMissing { ce.1 with missRun := 0 } { ce.2 with missing := true }) ∧
      (ce.1.missRun + 1 < 32 → testMissing g k ce = ({ ce.1 with missRun := ce.1.missRun + 1 }, ce.2)) := by
  have judged : (k.atCut && k.feeding && decide (k.average < g.noBlade)) = true := by
    rw [cut, feeds, decide_eq_true low]
    rfl
  rw [testMissing, if_pos ((g.tests_iff .bladeMissing).mpr tested), if_pos judged]
  exact ⟨fun full => if_pos full, fun more => if_neg (Nat.not_le.mpr more)⟩

variable (worked : Channel.Worked c ce.1)

include worked

/-- A rough stroke in RUN is ROUGH-RATE, and no more where it is light and shows the blade (R121, R124). -/
theorem guardTests_rough (st : k.st = .run) (tested : g.modes.roughRate ≠ .ignore) {q : Nat} (last : c.lastRunPeriod = some q)
    (rough : g.rough * min k.period q < max k.period q) (light : k.average ≤ g.lockLimit) (strokes : 1 ≤ g.lockStrokes)
    (shown : k.atCut = true → k.feeding = true → g.noBlade ≤ k.average) (calm : ce.2.escalated = false) :
    Detects g .roughRate c (guardTests g k ce) ∧ (guardTests g k ce).2.stepDone = ce.2.stepDone ∧
      (guardTests g k ce).2.lockOn = ce.2.lockOn := by
  have found : Detects g .roughRate c (detect g .roughRate { ce.1 with lastRunPeriod := some k.period } ce.2) :=
    detect_detects (kind := .roughRate) tested _ worked.st worked.brake worked.retries worked.counts
  have settled := testNoSettle_carried g k (detect g .roughRate { ce.1 with lastRunPeriod := some k.period } ce.2)
    fun settling => by rw [st] at settling; cases settling
  have calm : (unlessOut (testNoSettle g k) (detect g .roughRate { ce.1 with lastRunPeriod := some k.period } ce.2)).2.escalated =
      false := settled.unlessOut.escalated.trans calm
  obtain ⟨found, carried⟩ := (found.unlessOut settled).pastOverload light strokes calm shown
  have carried := settled.unlessOut.trans carried
  rw [guardTests, testRough_detects st tested (worked.lastRunPeriod.trans last) rough]
  exact ⟨found, carried.stepDone, carried.lockOn⟩

variable (even : k.st = .run → k.EvenFor g ce.1)
  (within : k.st = .settling → ce.2.lockOn = false → ce.1.settleStrokes < 64) (going : ce.2.bladeFault = false)

include even within going

/-- A stroke that completes the lock run, or on which relief escalates, is OVERLOAD (R122, R124). -/
theorem guardTests_overload (tested : g.modes.overload ≠ .ignore)
    (locks : (g.lockLimit < k.average ∧ g.lockStrokes ≤ c.lockRun + 1) ∨ ce.2.escalated = true)
    (shown : k.atCut = true → k.feeding = true → g.noBlade ≤ k.average) :
    Detects g .overload c (guardTests g k ce) ∧ (guardTests g k ce).2.overload = true ∧
      (guardTests g k ce).2.stepDone = ce.2.stepDone ∧ (guardTests g k ce).2.lockOn = ce.2.lockOn ∧
      (guardTests g k ce).2.ready = ce.2.ready := by
  obtain ⟨n, test⟩ := testOverload_detects (k := k) (ce := (ce.1.noted k, ce.2)) tested
    (by rw [← worked.lockRun] at locks; exact locks)
  have found : Detects g .overload c (detect g .overload { ce.1.noted k with lockRun := n } { ce.2 with overload := true }) :=
    detect_detects (kind := .overload) tested _ worked.st worked.brake worked.retries worked.counts
  obtain ⟨found, carried⟩ := found.pastMissing shown
  rw [guardTests_toOverload going even within, test]
  exact ⟨found, carried.overload, carried.stepDone, carried.lockOn, carried.ready⟩

/-- A low stroke of a feeding head that completes the run is BLADE-MISSING; another counts (R123, R124). -/
theorem guardTests_missing (tested : g.modes.bladeMissing ≠ .ignore) (cut : k.atCut = true) (feeds : k.feeding = true)
    (low : k.average < g.noBlade) (light : k.average ≤ g.lockLimit) (strokes : 1 ≤ g.lockStrokes)
    (calm : ce.2.escalated = false) :
    (32 ≤ c.missRun + 1 → Detects g .bladeMissing c (guardTests g k ce) ∧ (guardTests g k ce).2.missing = true) ∧
      (c.missRun + 1 < 32 → (guardTests g k ce).1.missRun = c.missRun + 1 ∧ (guardTests g k ce).1.st = c.st ∧
        (guardTests g k ce).1.record.last = c.record.last) ∧
      (guardTests g k ce).2.stepDone = ce.2.stepDone ∧ (guardTests g k ce).2.lockOn = ce.2.lockOn := by
  obtain ⟨n, tests⟩ := guardTests_toMissing going even within light strokes calm
  obtain ⟨full, more⟩ := testMissing_low (ce := ({ ce.1.noted k with lockRun := n }, ce.2)) tested cut feeds low
  rw [tests]
  by_cases fills : 32 ≤ c.missRun + 1
  · have found : Detects g .bladeMissing c
        (detect g .bladeMissing { ce.1.noted k with lockRun := n, missRun := 0 } { ce.2 with missing := true }) :=
      detect_detects (kind := .bladeMissing) tested _ worked.st worked.brake worked.retries worked.counts
    have clean := countClean_carried k
      (detect g .bladeMissing { ce.1.noted k with lockRun := n, missRun := 0 } { ce.2 with missing := true })
    rw [full (by rw [← worked.missRun] at fills; exact fills)]
    exact ⟨fun _ => ⟨found.unlessOut clean, clean.unlessOut.missing⟩, fun more => absurd fills (Nat.not_le.mpr more),
      clean.unlessOut.stepDone, clean.unlessOut.lockOn⟩
  · have more := more (by rw [← worked.missRun] at fills; exact Nat.not_le.mp fills)
    have clean := countClean_carried k ({ ce.1.noted k with lockRun := n, missRun := ce.1.missRun + 1 }, ce.2)
    have counted : (countClean k ({ ce.1.noted k with lockRun := n, missRun := ce.1.missRun + 1 }, ce.2)).1.missRun =
        ce.1.missRun + 1 := by
      unfold countClean
      repeat' split
      all_goals rfl
    have passed : unlessOut (countClean k) (testMissing g k ({ ce.1.noted k with lockRun := n }, ce.2)) =
        countClean k ({ ce.1.noted k with lockRun := n, missRun := ce.1.missRun + 1 }, ce.2) := by
      rw [more]
      exact unlessOut_going going
    rw [passed, counted, clean.st, clean.record]
    exact ⟨fun full => absurd full fills, fun _ => ⟨congrArg (· + 1) worked.missRun, worked.st, worked.last⟩, clean.stepDone,
      clean.lockOn⟩

end Tests

/-! ### The stroke that a pulse ends -/

section Ends

variable {s : State} {h : HeadId} {p : Pulse}

theorem State.pulsed_work (ends : (s.head h).EndsStroke p) : s.pulsed h p =
    ownMove (s.head h).bladeParams (guardTests (s.head h).guard ((s.head h).ended p) ((s.head h).work p)) :=
  State.pulsed_ended ends

/-- Before the 64th stroke in SETTLING (R112). -/
theorem Head.work_within {hd : Head} (early : hd.blade.st = .settling → hd.blade.settleStrokes + 1 < 64)
    (st : (hd.ended p).st = .settling) : (hd.work p).1.settleStrokes < 64 := by
  have st : hd.blade.st = .settling := st
  have counted : (hd.work p).1.settleStrokes = hd.blade.settleStrokes + 1 := by
    rw [Head.work_settling st]
    rfl
  rw [counted]
  exact early st

theorem Head.work_run {hd : Head} (st : hd.blade.st = .run) (p : Pulse) :
    (hd.work p).2.stepDone = false ∧ (hd.work p).2.lockOn = false := Channel.ownWork_run _ st

/-- Relief escalates on a stroke with its peak above the limit (R115). -/
theorem Head.work_escalates {hd : Head} (runs : hd.blade.runAtCut = true) (mode : hd.guard.reliefMode = .relief)
    (peak : hd.guard.peakLimit < hd.strokePeak p) (full : hd.guard.escalation ≤ hd.blade.escalation + 1) :
    (hd.work p).2.escalated = true := by
  rw [Channel.runAtCut, Bool.and_eq_true, decide_eq_true_iff, decide_eq_true_iff] at runs
  obtain ⟨-, -, escalation, -, -⟩ := (hd.measured p).judgeTrim_kept hd.bladeParams (hd.ended p)
  rw [Head.work_atCut runs.1 runs.2, Channel.relieve, mode]
  dsimp only
  rw [if_pos (by exact peak), if_pos (by rw [escalation, (hd.measures p).escalation]; exact full)]

/-- Where a kind is detected on the stroke, the pulse records it and the guard answers by its mode (R125, R131). -/
theorem State.pulsed_detects {kind : FaultKind} (ends : (s.head h).EndsStroke p)
    (found : Detects (s.head h).guard kind (s.head h).blade
      (guardTests (s.head h).guard ((s.head h).ended p) ((s.head h).work p)))
    (stays : (guardTests (s.head h).guard ((s.head h).ended p) ((s.head h).work p)).2.bladeFault = true ∨
      (guardTests (s.head h).guard ((s.head h).ended p) ((s.head h).work p)).2.stepDone = false ∧
        (guardTests (s.head h).guard ((s.head h).ended p) ((s.head h).work p)).2.lockOn = false) :
    Detects (s.head h).guard kind (s.head h).blade (s.pulsed h p) ∧
      (s.pulsed h p).2 = { (guardTests (s.head h).guard ((s.head h).ended p) ((s.head h).work p)).2 with
        stepDone := false, lockOn := false } := by
  rw [State.pulsed_work ends]
  exact ⟨found.unmoved _ stays, congrArg Prod.snd (ownMove_stays _ stays)⟩

/-- The BLADE-MISSING test of a stroke in RUN at CUT of a feeding head (R123). -/
theorem State.pulsed_missing (ends : (s.head h).EndsStroke p) (tested : (s.head h).guard.modes.bladeMissing ≠ .ignore)
    (runs : (s.head h).blade.runAtCut = true) (feeds : (s.head h).feeding = true) (even : (s.head h).EvenStroke p)
    (low : (s.head h).strokeAverage p < (s.head h).guard.noBlade)
    (light : (s.head h).strokeAverage p ≤ (s.head h).guard.lockLimit) (strokes : 1 ≤ (s.head h).guard.lockStrokes)
    (peak : (s.head h).strokePeak p ≤ (s.head h).guard.peakLimit) :
    (32 ≤ (s.head h).blade.missRun + 1 → Detects (s.head h).guard .bladeMissing (s.head h).blade (s.pulsed h p) ∧
        (s.pulsed h p).2.missing = true) ∧
      ((s.head h).blade.missRun + 1 < 32 → (s.pulsed h p).1.missRun = (s.head h).blade.missRun + 1 ∧
        (s.pulsed h p).1.st = (s.head h).blade.st ∧ (s.pulsed h p).1.record.last = (s.head h).blade.record.last) := by
  have st : (s.head h).blade.st = .run := by
    rw [Channel.runAtCut, Bool.and_eq_true, decide_eq_true_iff] at runs
    exact runs.1
  have calm : ((s.head h).work p).2.escalated = false := Channel.ownWork_unescalated _ fun _ => peak
  obtain ⟨step, lock⟩ := Head.work_run st p
  obtain ⟨full, more, step', lock'⟩ := guardTests_missing ((s.head h).work_worked p) (fun _ => (s.head h).evenFor even)
    (fun settling => by
      have settling : (s.head h).blade.st = .settling := settling
      rw [st] at settling
      cases settling)
    ((s.head h).work_bladeFault p) tested runs feeds low light strokes calm
  rw [State.pulsed_work ends]
  have stays := ownMove_stays (s.head h).bladeParams (.inr ⟨step'.trans step, lock'.trans lock⟩)
  refine ⟨fun fills => ?_, fun room => ?_⟩
  · obtain ⟨found, flag⟩ := full fills
    exact ⟨found.unmoved _ (.inr ⟨step'.trans step, lock'.trans lock⟩), by rw [stays]; exact flag⟩
  · rw [stays]
    exact more room

end Ends

/-- Settles O49: the guard's tests of a stroke. -/
theorem guardTestsTheStroke : Obligations.GuardTestsTheStroke := by
  intro s h p steady ends
  obtain ⟨t, index, named, blade, -, watch, -⟩ := State.pulse_taken steady ends.1 ends.2.2.1 ends.unblanked
  intro c g avg period detects
  have worked := (s.head h).work_worked p
  have going := (s.head h).work_bladeFault p
  refine ⟨fun q st last tested rough light strokes shown peak => ?_, fun tested runs even early shown locks => ?_,
    fun tested acts st early heavy full => ?_, fun tested runs feeds even low light strokes peak => ?_, fun quiet st => ?_⟩
  · obtain ⟨found, step, lock⟩ := guardTests_rough (k := (s.head h).ended p) worked st tested last rough light strokes
      (fun _ _ => shown) (Channel.ownWork_unescalated _ fun _ => peak)
    obtain ⟨step', lock'⟩ := Head.work_run st p
    obtain ⟨found, -⟩ := State.pulsed_detects ends found (.inr ⟨step.trans step', lock.trans lock'⟩)
    refine ⟨t, index, ?_⟩
    rw [blade]
    exact ⟨found.records, found.responds⟩
  · have locks := locks.imp id fun ⟨runs, mode, peak, full⟩ => (s.head h).work_escalates runs mode peak full
    obtain ⟨found, flag, step, lock, -⟩ := guardTests_overload (k := (s.head h).ended p) worked (fun _ => (s.head h).evenFor even)
      (fun settling _ => Head.work_within early settling) going tested locks fun _ _ => shown
    have stays := Or.imp (fun acts => found.bladeFault.trans (congrArg (!·) (found.responds.out tested acts)))
      (fun st => And.intro (step.trans (Head.work_run st p).1) (lock.trans (Head.work_run st p).2)) runs.symm
    obtain ⟨found, events⟩ := State.pulsed_detects ends found stays
    refine ⟨t, named _ (by rw [events]; exact flag), ?_⟩
    rw [blade]
    exact ⟨found.records, found.responds⟩
  · have outside : ((s.head h).ended p).st ≠ .run := fun run => by
      have run : (s.head h).blade.st = .run := run
      rw [st] at run
      cases run
    have unjudged : ((s.head h).ended p).atCut = true → ((s.head h).ended p).feeding = true → g.noBlade ≤ avg := fun cut => by
      rw [Stroke.atCut, decide_eq_false outside] at cut
      cases cut
    obtain ⟨found, flag, -, -, ready⟩ := guardTests_overload (k := (s.head h).ended p) worked (fun run => absurd run outside)
      (fun settling _ => Head.work_within (fun _ => early) settling) going tested (.inl ⟨heavy, full⟩) unjudged
    have off := found.responds.out tested acts
    have out := found.bladeFault.trans (congrArg (!·) off)
    obtain ⟨found, events⟩ := State.pulsed_detects ends found (.inl out)
    have unready : (s.pulsed h p).2.ready = false := by
      rw [events]
      refine ready.trans ?_
      rw [Head.work_settling st]
      rfl
    have unlocked : (s.pulseEvents h p).lockOn = false := by
      rw [State.pulseEvents_accepted ends.1 ends.2.2.1 ends.unblanked, events]
    refine ⟨congrArg Host.Outcome.next (if_neg (by rw [unlocked]; exact Bool.false_ne_true)), t, named _ (by rw [events]; exact flag), ?_,
      ?_⟩
    · rw [blade]
      exact found.responds.out tested acts
    · rw [watch, unready]
      exact if_neg fun ⟨ready, _⟩ => Bool.false_ne_true ready
  · obtain ⟨full, more⟩ := State.pulsed_missing ends tested runs feeds even low light strokes peak
    have st : c.st = .run := by
      rw [Channel.runAtCut, Bool.and_eq_true, decide_eq_true_iff] at runs
      exact runs.1
    refine ⟨fun fills => ?_, fun room => ⟨t, index, ?_⟩⟩
    · obtain ⟨found, flag⟩ := full fills
      refine ⟨t, named _ flag, ?_⟩
      rw [blade]
      exact ⟨found.records, found.responds⟩
    · obtain ⟨counted, runs, last⟩ := more room
      rw [blade]
      exact ⟨counted, runs.trans st, last⟩
  · have calm := quiet.calm
    obtain ⟨light, strokes, shown, -, even⟩ := quiet
    obtain ⟨n, m, pulsed⟩ := State.pulsed_run ends st light strokes shown even calm
    obtain ⟨full, more⟩ := countClean_run (k := (s.head h).ended p) st
      ({ ((s.head h).work p).1.noted ((s.head h).ended p) with lockRun := n, missRun := m }, ((s.head h).work p).2)
    rw [← worked.cleanRun, ← worked.retries]
    refine ⟨fun fills => ⟨t, named _ ?_, ?_⟩, fun room => ⟨t, index, ?_⟩⟩
    · rw [pulsed, full fills]
    · rw [blade, pulsed, full fills]
      exact ⟨worked.st.trans st, rfl, rfl⟩
    · rw [blade, pulsed, more room]
      exact ⟨worked.st.trans st, rfl, rfl, if_pos st⟩

end Sys2Proof.Machine

/-! PROOFS. The pull timeout, and ZONE CLEAR (R94 to R97). -/

namespace Sys2Proof.Machine

/-! ### The orphan restart -/

section Restart

variable {s : State}

theorem State.restarts_rest (ks : List Nat) (s : State) :
    ks.foldl State.restartZone s = { s with zones := (ks.foldl State.restartZone s).zones } := by
  induction ks generalizing s with
  | nil => rfl
  | cons k ks ih =>
    have one : s.restartZone k = { s with zones := (s.restartZone k).zones } := by
      unfold State.restartZone
      split <;> rfl
    have all := ih (s.restartZone k)
    rw [List.foldl_cons]
    generalize ks.foldl State.restartZone (s.restartZone k) = t at all ⊢
    rw [one] at all
    exact all

theorem State.restartZone_zone_ne (s : State) {k j : Nat} (ne : j ≠ k) : (s.restartZone k).zone j = s.zone j := by
  unfold State.restartZone
  split
  · exact State.zone_setZone_ne s _ ne
  · rfl

/-- A zone that is not OFF, or lies under no cut, is not restarted (R95). -/
theorem State.restarts_standing {j : Nat}
    (stays : (s.zone j).st ≠ .off ∨ (s.heads.a.cutsOver j || s.heads.b.cutsOver j) = false) (ks : List Nat) :
    (ks.foldl State.restartZone s).zone j = s.zone j := by
  induction ks generalizing s with
  | nil => rfl
  | cons k ks ih =>
    have one : (s.restartZone k).zone j = s.zone j := by
      by_cases e : j = k
      · subst e
        have same : s.restartZone j = s := if_neg fun ⟨off, cuts, _⟩ => stays.elim (fun on => on off) fun bare => by
          rw [bare] at cuts
          cases cuts
        rw [same]
      · exact s.restartZone_zone_ne e
    rw [List.foldl_cons, ih (by rw [one, State.restartZone_heads]; exact stays), one]

/-- Where the budget is used up, none is restarted (R95). -/
theorem State.restarts_full (full : s.zoneSettings.budget ≤ s.activeCount) (ks : List Nat) :
    ks.foldl State.restartZone s = s := by
  induction ks with
  | nil => rfl
  | cons k ks ih =>
    have same : s.restartZone k = s := if_neg fun ⟨_, _, room⟩ => absurd room (Nat.not_lt.mpr full)
    rw [List.foldl_cons, same, ih]

/-- A restart leaves the fault counts (R94). -/
theorem State.restarts_faults (ks : List Nat) (s : State) (j : Nat) :
    ((ks.foldl State.restartZone s).zone j).faults = (s.zone j).faults := by
  induction ks generalizing s with
  | nil => rfl
  | cons k ks ih =>
    rw [List.foldl_cons, ih]
    unfold State.restartZone
    split
    · obtain e | ⟨rfl, e⟩ := s.zone_setZone_cases k j ((s.zone k).start s.zoneSettings)
      · rw [State.startZone, e]
      · rw [State.startZone, e]
        rfl
    · rfl

/-- Where zone k alone may be an orphan, the restart looks at zone k alone (R95). -/
theorem State.restarts_only {k : Nat} (long : k < s.zones.length)
    (others : ∀ j < 16, j ≠ k → (s.heads.a.cutsOver j || s.heads.b.cutsOver j) = true → (s.zone j).st ≠ .off) {ks : List Nat}
    (small : ∀ j ∈ ks, j < 16) : ks.foldl State.restartZone s = if k ∈ ks then s.restartZone k else s := by
  induction ks with
  | nil => rfl
  | cons j ks ih =>
    have rest := ih fun i member => small i (List.mem_cons_of_mem _ member)
    by_cases e : j = k
    · subst e
      rw [if_pos (List.mem_cons_self ..), List.foldl_cons]
      by_cases starts : (s.zone j).st = .off ∧ (s.heads.a.cutsOver j || s.heads.b.cutsOver j) = true ∧
          s.activeCount < s.zoneSettings.budget
      · have started : s.restartZone j = s.startZone j := if_pos starts
        rw [started]
        refine State.restarts_none (fun i lt cuts off => ?_) ks fun i member => small i (List.mem_cons_of_mem _ member)
        have cuts : (s.heads.a.cutsOver i || s.heads.b.cutsOver i) = true := (Bool.or_eq_true ..).mpr cuts
        by_cases same : i = j
        · subst same
          rw [State.startZone, State.zone_setZone_self s _ long] at off
          cases off
        · rw [State.startZone, State.zone_setZone_ne s _ same] at off
          exact others i lt same cuts off
      · have stays : s.restartZone j = s := if_neg starts
        rw [stays, rest]
        exact (congrArg (fun r => if j ∈ ks then r else s) stays).trans (ite_self s)
    · have stays : s.restartZone j = s := if_neg fun ⟨off, cuts, _⟩ =>
        others j (small j (List.mem_cons_self ..)) e cuts off
      rw [List.foldl_cons, stays, rest]
      exact if_congr (by simp [Ne.symm e]) rfl rfl

end Restart

/-! ### Tellings -/

/-- ZONE-FAULT, once raised, stands to the end of the event. -/
theorem State.Hears.zoneFault {u : LinkId → AttSet} {s t : State} (hears : State.Hears u s t) {l : LinkId}
    (raised : (s.link l).attention.zoneFault = true) : (t.link l).attention.zoneFault = true := by
  obtain ⟨c, -, e⟩ := hears l
  rw [e]
  simp [AttSet.union, raised]

/-- A watch that holds what is told ends, and WAIT-CLEARED is raised (R75, R97). -/
theorem State.tellBoth_clears {s : State} {p : Watch → Bool} {h : HeadId} (holds : p (s.head h).watch = true) :
    ((s.tellBoth p).head h).watch = Watch.empty ∧ ((s.tellBoth p).link (.head h)).attention.waitCleared = true := by
  have ends (r : State) (holds : p (r.head h).watch = true) :
      ((r.tell h p).head h).watch = Watch.empty ∧ ((r.tell h p).link (.head h)).attention.waitCleared = true := by
    rw [State.tell, if_pos holds]
    exact r.wake_ends h
  cases h with
  | a =>
    obtain ⟨empty, raised⟩ := ends s holds
    exact ⟨((State.tell_told (s.tell .a p) .b p).watch .a).elim (fun same => same.trans empty) id,
      (State.tell_hears (s.tell .a p) .b p).waitCleared raised⟩
  | b =>
    have other : (s.tell .a p).head .b = s.head .b := by
      unfold State.tell
      split
      · exact s.head_wake_other .a
      · rfl
    exact ends (s.tell .a p) (by rw [other]; exact holds)

/-- Closing an event leaves an empty watch empty, and a raised cause raised. -/
theorem State.closeEvent_cleared {b s : State} {h : HeadId}
    (cleared : (s.head h).watch = Watch.empty ∧ (s.link (.head h)).attention.waitCleared = true) :
    ((State.closeEvent b s).head h).watch = Watch.empty ∧
      ((State.closeEvent b s).link (.head h)).attention.waitCleared = true := by
  obtain ⟨empty, raised⟩ := cleared
  refine ⟨?_, (State.closeEvent_hears b s).waitCleared raised⟩
  rw [State.closeEvent_watch, empty, ite_self]

/-- A telling touches no path. -/
theorem State.Told.path {s t : State} (told : s.Told t) (i : HeadId) : SamePath s t i := by
  obtain ⟨w, e, -⟩ := told i
  rw [SamePath, SameNumbering, SamePlace, e]
  exact ⟨rfl, rfl, rfl, rfl, ⟨rfl, rfl, rfl⟩, rfl, rfl⟩

/-- A head with a cut over a zone that is not HELD is held (R96). -/
theorem State.closeEvent_zoneHold {b s : State} {h : HeadId} {k : Nat} (lt : k < 16) (cuts : (s.head h).cutsOver k = true)
    (loose : (s.zone k).st ≠ .held) : ((State.closeEvent b s).head h).hold.zone = true := by
  rw [State.closeEvent_hold]
  refine List.any_eq_true.mpr ⟨k, List.mem_range.mpr lt, ?_⟩
  rw [cuts, decide_eq_true loose]
  rfl

/-! ### The pull timeout -/

theorem State.tellBoth_rest (s : State) (p : Watch → Bool) :
    s.tellBoth p = { s with heads := (s.tellBoth p).heads, links := (s.tellBoth p).links } := by
  have one := State.tell_rest s .a p
  have two := State.tell_rest (s.tell .a p) .b p
  rw [State.tellBoth]
  generalize (s.tell .a p).tell .b p = t at two ⊢
  rw [one] at two
  exact two

/-- What an orphan restart after a telling leaves alone (R95, R97). -/
theorem State.restarted_rest {a u : State} (told : u = { a with heads := u.heads, links := u.links, zones := u.zones }) :
    u.orphanRestart = { a with
      heads := u.orphanRestart.heads, links := u.orphanRestart.links, zones := u.orphanRestart.zones } := by
  have restarted := State.restarts_rest (List.range Config.zoneCount) u
  rw [State.orphanRestart]
  generalize List.foldl State.restartZone u _ = t at restarted ⊢
  rw [told] at restarted
  rw [restarted]

section Gone

variable (s : State) (k : Nat) (was : ZoneState)

theorem State.zoneGone_told : s.Told (s.zoneGone k was) := State.tellBoth_told s _

theorem State.zoneGone_hears : State.Hears wakes s (s.zoneGone k was) := State.tellBoth_hears s _

theorem State.zoneGone_rest : s.zoneGone k was = { s with heads := (s.zoneGone k was).heads, links := (s.zoneGone k was).links } :=
  State.tellBoth_rest s _

variable {s}

/-- A watched ZONE-BUDGET ends where a zone goes OFF or to FAULT (R97). -/
theorem State.zoneGone_clears {h : HeadId} (watched : (s.head h).watch.reasons.zoneBudget = true) :
    ((s.zoneGone k was).head h).watch = Watch.empty ∧ ((s.zoneGone k was).link (.head h)).attention.waitCleared = true := by
  refine State.tellBoth_clears ?_
  rw [watched]
  rfl

end Gone

section Fail

variable (a : State) (k : Nat)

/-- The state of a pull timeout before the watches are told (R94). -/
def State.faulting : State := (a.setZone k (a.zone k).fail).raise .cell AttSet.ofZoneFault

theorem State.failZone_eq : State.failZone k a = ((a.faulting k).zoneGone k (a.zone k).st).orphanRestart := rfl

theorem State.failZone_told : a.Told (State.failZone k a) :=
  ((State.Told.of_heads (s := a) (t := a.faulting k) rfl).trans (State.zoneGone_told _ _ _)).trans
    (.of_heads (State.orphanRestart_heads _))

theorem State.failZone_hears : State.Hears (fun _ => AttSet.ofWaitCleared.union AttSet.ofZoneFault) a (State.failZone k a) := by
  have fault : AttSet.ofZoneFault.Below (AttSet.ofWaitCleared.union AttSet.ofZoneFault) := by
    simp [AttSet.below_iff, AttSet.union, AttSet.ofWaitCleared, AttSet.ofZoneFault, AttSet.empty]
  refine ((State.Hears.of_links (s := a) (t := a.setZone k (a.zone k).fail) rfl).trans (State.raise_hears _ _ fault)).trans
    (((State.zoneGone_hears (a.faulting k) k (a.zone k).st).mono fun l => ?_).trans (State.orphanRestart_hears _))
  cases l <;> simp [AttSet.below_iff, wakes, AttSet.union, AttSet.ofWaitCleared, AttSet.ofZoneFault, AttSet.empty]

theorem State.failZone_rest : State.failZone k a = { a with
    heads := (State.failZone k a).heads, links := (State.failZone k a).links, zones := (State.failZone k a).zones } := by
  have told := State.zoneGone_rest (a.faulting k) k (a.zone k).st
  rw [State.failZone_eq]
  refine State.restarted_rest ?_
  generalize (a.faulting k).zoneGone k (a.zone k).st = u at told ⊢
  rw [told]
  rfl

/-- The zones before the restart: zone k in FAULT, the others as they were. -/
theorem State.zone_faulted (j : Nat) : ((a.faulting k).zoneGone k (a.zone k).st).zone j = (a.setZone k (a.zone k).fail).zone j :=
  State.zone_of_zones (State.zoneGone_zones ..) j

variable {a k}

theorem State.failZone_zone (long : k < a.zones.length) : (State.failZone k a).zone k = (a.zone k).fail := by
  have faulted : ((a.faulting k).zoneGone k (a.zone k).st).zone k = (a.zone k).fail := by
    rw [State.zone_faulted, State.zone_setZone_self a _ long]
  have out : (((a.faulting k).zoneGone k (a.zone k).st).zone k).st ≠ .off := by
    rw [faulted]
    exact fun off => by cases off
  rw [State.failZone_eq, State.orphanRestart, State.restarts_standing (.inl out), faulted]

theorem State.failZone_other (long : k < a.zones.length) (orphans : NoOrphans a) {j : Nat} (ne : j ≠ k) :
    (State.failZone k a).zone j = a.zone j := by
  have still : NoOrphans ((a.faulting k).zoneGone k (a.zone k).st) := by
    refine orphans.of_windows (fun h i cuts => ?_) fun i _ _ off => ?_
    · rwa [Head.cutsOver_of_window ((State.zoneGone_told _ _ _).window h)] at cuts
    · rw [State.zone_faulted] at off
      by_cases e : i = k
      · subst e
        rw [State.zone_setZone_self a _ long] at off
        cases off
      · rwa [State.zone_setZone_ne a _ e] at off
  rw [State.failZone_eq, State.orphanRestart_none still, State.zone_faulted, State.zone_setZone_ne a _ ne]

theorem State.failZone_length : (State.failZone k a).zones.length = a.zones.length := by
  rw [State.failZone_eq, State.orphanRestart,
    foldl_keeps (·.zones.length) State.restartZone (fun s k => s.restartZone_length k), State.zoneGone_zones]
  exact a.setZone_length k _

theorem State.failZone_raises : ((State.failZone k a).link .cell).attention.zoneFault = true := by
  have heard := (State.zoneGone_hears (a.faulting k) k (a.zone k).st).trans (State.orphanRestart_hears _)
  rw [State.failZone_eq]
  refine heard.zoneFault ?_
  rw [State.faulting, State.link_raise_self]
  simp [AttSet.union, AttSet.ofZoneFault]

theorem State.failZone_clears {h : HeadId} (watched : (a.head h).watch.reasons.zoneBudget = true) :
    ((State.failZone k a).head h).watch = Watch.empty ∧ ((State.failZone k a).link (.head h)).attention.waitCleared = true := by
  obtain ⟨empty, raised⟩ := State.zoneGone_clears (s := a.faulting k) k (a.zone k).st (h := h) watched
  refine ⟨?_, (State.orphanRestart_hears (u := wakes) _).waitCleared raised⟩
  rw [State.failZone_eq, State.head, State.orphanRestart_heads]
  exact empty

end Fail

/-- The causes of a pull timeout (R94, R97, R134). -/
theorem closes_below_zoneFault (b t : State) (l : LinkId) :
    (closes b t l).Below ((AttSet.ofWaitCleared.union AttSet.ofHoldChanged).union AttSet.ofZoneFault) := by
  cases l <;>
    simp [AttSet.below_iff, closes, AttSet.union, AttSet.ofHoldChanged, AttSet.ofWaitCleared, AttSet.ofZoneFault, AttSet.empty]

theorem fault_below : (AttSet.ofWaitCleared.union AttSet.ofZoneFault).Below
    ((AttSet.ofWaitCleared.union AttSet.ofHoldChanged).union AttSet.ofZoneFault) := by
  simp [AttSet.below_iff, AttSet.union, AttSet.ofWaitCleared, AttSet.ofHoldChanged, AttSet.ofZoneFault, AttSet.empty]

/-- What a pull timeout leaves of its zone and of the cell link (R94). -/
structure State.Failed (s t : State) (k left : Nat) : Prop where
  st : (t.zone k).st = .fault
  vac : t.vac k = false
  pull : (t.zone k).pull = none
  good : (t.zone k).good = (s.zone k).good
  faults : (t.zone k).faults = min 255 ((s.zone k).faults + 1)
  told : (t.link .cell).attention.zoneFault = true
  steady : (t.zone k).steady = (s.zone k).steady + left
  length : t.zones.length = s.zones.length

/-- A pull timer that runs out (R94 to R97). -/
theorem State.pullTimeout_taken {s : State} {k left : Nat} (lt : k < 16) (sixteen : s.zones.length = 16)
    (pulls : (s.zone k).st = .pulling ∨ (s.zone k).st = .lost) (runs : (s.zone k).pull = some left) :
    ∃ t : State, s.pullTimeout k = t ∧
      t = { s.elapse left with heads := t.heads, links := t.links, zones := t.zones } ∧ LinesQuiet s t ∧
      RaisesOnly s t ((AttSet.ofWaitCleared.union AttSet.ofHoldChanged).union AttSet.ofZoneFault) ∧ s.Failed t k left ∧
      (∀ h, SamePath s t h ∧ ((s.head h).cutsOver k = true → (t.head h).hold.zone = true) ∧
        ((s.head h).watch.reasons.zoneBudget = true →
          (t.head h).watch = Watch.empty ∧ (t.link (.head h)).attention.waitCleared = true)) ∧
      (NoOrphans s → ∀ j < 16, j ≠ k → t.zone j = (s.zone j).elapse left) := by
  have pullLeft : (s.zone k).pullLeft = some left := by
    unfold Zone.pullLeft
    obtain st | st := pulls <;> rw [st] <;> exact runs
  have taken : s.pullTimeout k = State.closeEvent (s.elapse left) (State.failZone k (s.elapse left)) := by
    rw [State.pullTimeout, pullLeft]
    rfl
  have long : k < (s.elapse left).zones.length := by
    show k < (s.zones.map (Zone.elapse left)).length
    rw [List.length_map, sixteen]
    exact lt
  have zoneAt (j : Nat) (lt : j < 16) : (s.elapse left).zone j = (s.zone j).elapse left :=
    State.zone_elapse left s (by rw [sixteen]; exact lt)
  have body := (s.elapse left).failZone_hears k
  have hears := State.expired_hears body (u := fun _ => (AttSet.ofWaitCleared.union AttSet.ofHoldChanged).union AttSet.ofZoneFault)
    (fun _ => fault_below) (closes_below_zoneFault _ _)
  have told := (s.elapse left).failZone_told k
  have failed : (State.closeEvent (s.elapse left) (State.failZone k (s.elapse left))).zone k = ((s.zone k).elapse left).fail := by
    rw [State.zone_closeEvent, State.failZone_zone long, zoneAt k lt]
  refine ⟨_, taken, ?_, State.expired_quiet body, hears.raisesOnly fun _ => AttSet.below_refl _, ⟨?_, ?_, ?_, ?_, ?_, ?_, ?_, ?_⟩,
    fun h => ⟨?_, fun cuts => ?_, fun watched => ?_⟩, fun orphans j small ne => ?_⟩
  · have closed := State.closeEvent_rest (s.elapse left) (State.failZone k (s.elapse left))
    have rest := (s.elapse left).failZone_rest k
    generalize State.closeEvent (s.elapse left) (State.failZone k (s.elapse left)) = t at closed ⊢
    generalize State.failZone k (s.elapse left) = b at closed rest
    rw [rest] at closed
    rw [closed]
  · rw [failed]
    rfl
  · rw [State.vac, failed]
    rfl
  · rw [failed]
    rfl
  · rw [failed]
    rfl
  · rw [failed]
    rfl
  · exact (State.closeEvent_hears _ _).zoneFault State.failZone_raises
  · rw [failed]
    rfl
  · rw [State.closeEvent_zones, State.failZone_length]
    exact List.length_map ..
  · exact State.closeEvent_samePath _ ((s.samePath_elapse left h).trans (told.path h))
  · refine State.closeEvent_zoneHold lt ?_ (by rw [State.failZone_zone long]; exact fun held => by cases held)
    rw [Head.cutsOver_of_window (told.window h), State.head_elapse]
    exact cuts
  · refine State.closeEvent_cleared (State.failZone_clears ?_)
    rw [State.head_elapse]
    exact watched
  · rw [State.zone_closeEvent, State.failZone_other long (orphans.elapse left) ne, zoneAt j small]

/-! ### ZONE CLEAR -/

section Clear

variable (s : State) (k : Nat)

/-- The state of a ZONE CLEAR before the orphan restart (R94, R97). -/
def State.clearing : State :=
  (s.setZone k (s.zone k).vent).tellBoth fun w => w.reasons.zoneBudget || (w.reasons.zoneFaulted && rangeHas w.range k)

theorem State.zoneClear_eq : s.zoneClear k = (s.clearing k).orphanRestart := rfl

theorem State.clearing_told : s.Told (s.clearing k) :=
  (State.Told.of_heads (s := s) (t := s.setZone k (s.zone k).vent) rfl).trans (State.tellBoth_told _ _)

theorem State.clearing_zone (j : Nat) : (s.clearing k).zone j = (s.setZone k (s.zone k).vent).zone j :=
  State.zone_of_zones (State.tellBoth_zones ..) j

theorem State.clearing_rest :
    s.clearing k = { s with heads := (s.clearing k).heads, links := (s.clearing k).links, zones := (s.clearing k).zones } := by
  have told := State.tellBoth_rest (s.setZone k (s.zone k).vent) fun w =>
    w.reasons.zoneBudget || (w.reasons.zoneFaulted && rangeHas w.range k)
  rw [State.clearing]
  generalize State.tellBoth _ _ = u at told ⊢
  rw [told]
  rfl

theorem State.zoneClear_told : s.Told (s.zoneClear k) := (s.clearing_told k).trans (.of_heads (State.orphanRestart_heads _))

theorem State.zoneClear_hears : State.Hears wakes s (s.zoneClear k) :=
  ((State.Hears.of_links (s := s) (t := s.setZone k (s.zone k).vent) rfl).trans (State.tellBoth_hears _ _)).trans
    (State.orphanRestart_hears _)

theorem State.zoneClear_rest : s.zoneClear k = { s with
    heads := (s.zoneClear k).heads, links := (s.zoneClear k).links, zones := (s.zoneClear k).zones } :=
  State.restarted_rest (s.clearing_rest k)

theorem State.clearing_cutsOver (j : Nat) :
    ((s.clearing k).heads.a.cutsOver j || (s.clearing k).heads.b.cutsOver j) =
      (s.heads.a.cutsOver j || s.heads.b.cutsOver j) := by
  have a : (s.clearing k).heads.a.cutsOver j = s.heads.a.cutsOver j := Head.cutsOver_of_window ((s.clearing_told k).window .a) j
  have b : (s.clearing k).heads.b.cutsOver j = s.heads.b.cutsOver j := Head.cutsOver_of_window ((s.clearing_told k).window .b) j
  rw [a, b]

variable {s k}

/-- A watched ZONE-FAULTED over the zone ends (R97). -/
theorem State.zoneClear_clears {h : HeadId} (watched : (s.head h).watch.reasons.zoneFaulted = true)
    (range : rangeHas (s.head h).watch.range k = true) :
    ((s.zoneClear k).head h).watch = Watch.empty ∧ ((s.zoneClear k).link (.head h)).attention.waitCleared = true := by
  obtain ⟨empty, raised⟩ := State.tellBoth_clears (s := s.setZone k (s.zone k).vent) (h := h)
    (p := fun w => w.reasons.zoneBudget || (w.reasons.zoneFaulted && rangeHas w.range k)) (by
      rw [State.head_setZone, watched, range]
      exact Bool.or_true _)
  refine ⟨?_, (State.orphanRestart_hears (u := wakes) _).waitCleared raised⟩
  rw [State.zoneClear_eq, State.head, State.orphanRestart_heads]
  exact empty

variable (long : k < s.zones.length) (faulted : (s.zone k).st = .fault)

include long

theorem State.clearing_self : (s.clearing k).zone k = (s.zone k).vent := by
  rw [State.clearing_zone, State.zone_setZone_self s _ long]

theorem State.zoneClear_faults : ((s.zoneClear k).zone k).faults = (s.zone k).faults := by
  rw [State.zoneClear_eq, State.orphanRestart, State.restarts_faults, State.clearing_self long]
  rfl

include faulted

/-- A zone in FAULT counts as little as one that is OFF (R89). -/
theorem State.clearing_activeCount : (s.clearing k).activeCount = s.activeCount := by
  have same : (s.clearing k).activeCount = (s.setZone k (s.zone k).vent).activeCount := State.activeCount_congr (State.tellBoth_zones ..)
  have back : (s.setZone k (s.zone k).vent).setZone k (s.zone k) = s := by
    have zones : (s.zones.set k (s.zone k).vent).set k (s.zone k) = s.zones := by
      rw [List.set_set, State.zone, List.getD_eq_getElem _ _ long, List.set_getElem_self]
    rw [State.setZone, State.setZone]
    dsimp only
    rw [zones]
  have fewer := s.setZone_activeCount_le k (s.zone k).vent fun on => by cases on
  have more := (s.setZone k (s.zone k).vent).setZone_activeCount_le k (s.zone k) fun on => by
    rw [faulted] at on
    cases on
  rw [back] at more
  omega

/-- Where no cut lies over the zone, or the budget has no room, the zone stays OFF (R95). -/
theorem State.zoneClear_off (stays : (s.heads.a.cutsOver k || s.heads.b.cutsOver k) = false ∨
    s.zoneSettings.budget ≤ s.activeCount) : (s.zoneClear k).zone k = (s.zone k).vent := by
  have settings : (s.clearing k).zoneSettings = s.zoneSettings := by rw [s.clearing_rest k]
  rw [State.zoneClear_eq, State.orphanRestart]
  obtain bare | full := stays
  · rw [State.restarts_standing (.inr ((s.clearing_cutsOver k k).trans bare)), State.clearing_self long]
  · rw [State.restarts_full (by rw [settings, State.clearing_activeCount long faulted]; exact full), State.clearing_self long]

section Lone

variable (orphans : NoOrphans s)

include orphans

omit faulted in
/-- The restart looks at the zone alone (R95). -/
theorem State.zoneClear_lone (lt : k < 16) : s.zoneClear k = (s.clearing k).restartZone k := by
  have same : (s.clearing k).zones.length = s.zones.length := by
    rw [State.clearing, State.tellBoth_zones, State.setZone_length]
  have restarted := State.restarts_only (s := s.clearing k) (k := k) (by rw [same]; exact long) (fun j small ne cuts => by
    rw [State.clearing_zone, State.zone_setZone_ne s _ ne]
    rw [State.clearing_cutsOver, Bool.or_eq_true] at cuts
    exact orphans j small cuts) (ks := List.range Config.zoneCount) fun j member => List.mem_range.mp member
  rw [State.zoneClear_eq, State.orphanRestart, restarted]
  exact if_pos (List.mem_range.mpr lt)

omit faulted in
theorem State.zoneClear_others (lt : k < 16) {j : Nat} (ne : j ≠ k) : (s.zoneClear k).zone j = s.zone j := by
  rw [State.zoneClear_lone long orphans lt, State.restartZone_zone_ne _ ne, State.clearing_zone, State.zone_setZone_ne s _ ne]

/-- Where a cut lies over the zone and the budget has room, the zone pulls at once (R95). -/
theorem State.zoneClear_pulls (lt : k < 16) (cuts : (s.heads.a.cutsOver k || s.heads.b.cutsOver k) = true)
    (room : s.activeCount < s.zoneSettings.budget) :
    (s.zoneClear k).zone k = (s.zone k).vent.start s.zoneSettings := by
  have settings : (s.clearing k).zoneSettings = s.zoneSettings := by rw [s.clearing_rest k]
  have same : (s.clearing k).zones.length = s.zones.length := by
    rw [State.clearing, State.tellBoth_zones, State.setZone_length]
  have starts : (s.clearing k).restartZone k = (s.clearing k).startZone k := by
    refine if_pos ⟨?_, ?_, ?_⟩
    · rw [State.clearing_self long]
      rfl
    · rw [State.clearing_cutsOver, cuts]
    · rw [settings, State.clearing_activeCount long faulted]
      exact room
  rw [State.zoneClear_lone long orphans lt, starts, State.startZone, State.zone_setZone_self _ _ (by rw [same]; exact long),
    State.clearing_self long, settings]

end Lone

/-- A ZONE CLEAR of a machine that follows its rules leaves nothing to re-work. -/
theorem State.closeEvent_zoneClear (steady : ∀ h, s.Steady h) : State.closeEvent s (s.zoneClear k) = s.zoneClear k := by
  have told := s.zoneClear_told k
  have job : (s.zoneClear k).job = s.job := by rw [s.zoneClear_rest k]
  have held (h : HeadId) : (s.head h).SameHeld s (s.zoneClear k) := fun j _ _ => by
    rw [State.zoneClear_eq, State.orphanRestart, State.restarts_held, State.clearing_zone]
    by_cases e : j = k
    · subst e
      rw [State.zone_setZone_self s _ long, faulted]
      exact iff_of_false (fun held => by cases held) (fun held => by cases held)
    · rw [State.zone_setZone_ne s _ e]
  refine State.closeEvent_same (fun h => (steady h).of_alike (told.alike h) (told.watch h) (by rw [job]) (held h))
    (fun h => (told.alike h).hold) (fun h => by rw [job]; exact (State.standsBy_of_alike (told.alike h) _).symm) fun h _ => ?_
  obtain ⟨w, e, -⟩ := told h.other
  rw [e]

end Clear

theorem exec_zoneClear_refused {s : State} {k : Byte} {r : Reason} (free : s.listens .cell = true)
    (run : (s.toLead .cell).zoneClearRequest k = (s.toLead .cell, .refused r .none)) :
    exec (.zoneClear .cell k) s = .next (s.answering .cell 0x3D (.refused r .none)) :=
  exec_run (c := .zoneClear .cell k) (r := .zoneClear k) rfl free rfl run

/-- What a ZONE CLEAR of a zone in FAULT leaves. -/
theorem exec_zoneClear_taken {s : State} {k : Byte} (free : s.listens .cell = true) (known : k.toNat ≤ 15)
    (faulted : (s.zone k.toNat).st = .fault) : ∃ t, exec (.zoneClear .cell k) s = .next t ∧
      Took s (State.closeEvent (s.toLead .cell) ((s.toLead .cell).zoneClear k.toNat)) t .cell 0x3D
        (.accepted (.zone ((State.closeEvent (s.toLead .cell) ((s.toLead .cell).zoneClear k.toNat)).zone k.toNat).st
          ((State.closeEvent (s.toLead .cell) ((s.toLead .cell).zoneClear k.toNat)).zone k.toNat).faults)) := by
  have run : (s.toLead .cell).zoneClearRequest k =
      (State.closeEvent (s.toLead .cell) ((s.toLead .cell).zoneClear k.toNat),
        .accepted (.zone ((State.closeEvent (s.toLead .cell) ((s.toLead .cell).zoneClear k.toNat)).zone k.toNat).st
          ((State.closeEvent (s.toLead .cell) ((s.toLead .cell).zoneClear k.toNat)).zone k.toNat).faults)) := by
    rw [State.zoneClearRequest, if_neg (Nat.not_lt.mpr known), if_neg (by exact fun sound => sound faulted)]
  have hears := ((s.toLead .cell).zoneClear_hears k.toNat).taken (u := fun _ => AttSet.ofHoldChanged.union AttSet.ofWaitCleared)
    wakes_below_closes (closes_below _ _)
  exact exec_taken (c := .zoneClear .cell k) (r := .zoneClear k) rfl free rfl run hears

/-- Settles O39: the pull timeout, and ZONE CLEAR. -/
theorem zonesFaultAndClear : Obligations.ZonesFaultAndClear := by
  refine ⟨fun s k sixteen => ⟨fun stopped sound => ?_, fun left pulls runs => ?_⟩, fun s k free sixteen =>
    ⟨fun unknown => ?_, fun known sound => ?_, fun known faulted => ?_⟩⟩
  · have idle : (s.zone k.val).pullLeft = none := by
      unfold Zone.pullLeft
      cases st : (s.zone k.val).st with
      | pulling => exact absurd st stopped
      | lost => exact absurd st sound
      | off | held | fault => rfl
    show Host.Outcome.next (s.pullTimeout k.val) = _
    rw [State.pullTimeout, idle]
    rfl
  · obtain ⟨t, taken, rest, quiet, raises, failed, heads, others⟩ := State.pullTimeout_taken k.isLt sixteen pulls runs
    exact ⟨t, congrArg Host.Outcome.next taken, rest, quiet, raises, failed.st, failed.vac, failed.pull, failed.good,
      failed.faults, failed.told, heads, others⟩
  · refine exec_zoneClear_refused free ?_
    rw [State.zoneClearRequest, if_pos unknown]
  · refine exec_zoneClear_refused free ?_
    rw [State.zoneClearRequest, if_neg (Nat.not_lt.mpr known), if_pos (by exact sound)]
  · obtain ⟨t, next, took⟩ := exec_zoneClear_taken free known faulted
    have lt : k.toNat < 16 := by omega
    have long : k.toNat < (s.toLead .cell).zones.length := by
      show k.toNat < s.zones.length
      omega
    have zones : t.zones = ((s.toLead .cell).zoneClear k.toNat).zones := by
      rw [← State.closeEvent_zones (s.toLead .cell) ((s.toLead .cell).zoneClear k.toNat)]
      have rest := took.rest
      generalize State.closeEvent (s.toLead .cell) ((s.toLead .cell).zoneClear k.toNat) = u at rest
      rw [rest]
    have zone (j : Nat) : t.zone j = ((s.toLead .cell).zoneClear k.toNat).zone j := State.zone_of_zones zones j
    have faults := State.zoneClear_faults (s := s.toLead .cell) long
    have answers := took.answers
    rw [State.zone_closeEvent, faults, ← zone] at answers
    refine ⟨t, next, answers, ?_, ?_, fun stays => ?_, fun orphans cuts room => ?_, fun orphans j small ne => ?_,
      fun h watched range => ?_, fun steady => ⟨fun h => ?_, took.raisesOnly ?_⟩⟩
    · have rest := took.rest
      have closed := State.closeEvent_rest (s.toLead .cell) ((s.toLead .cell).zoneClear k.toNat)
      have body := (s.toLead .cell).zoneClear_rest k.toNat
      generalize State.closeEvent (s.toLead .cell) ((s.toLead .cell).zoneClear k.toNat) = u at rest closed
      generalize (s.toLead .cell).zoneClear k.toNat = b at closed body
      rw [closed, body] at rest
      rw [rest]
      rfl
    · rw [zone, faults]
      rfl
    · have off := State.zoneClear_off (s := s.toLead .cell) long faulted
        (stays.imp (fun ⟨a, b⟩ => (Bool.or_eq_false_iff).mpr ⟨a, b⟩) id)
      rw [zone, off]
      exact ⟨rfl, rfl⟩
    · have covered : (s.heads.a.cutsOver k.toNat || s.heads.b.cutsOver k.toNat) = true := (Bool.or_eq_true ..).mpr cuts
      have pulls := State.zoneClear_pulls (s := s.toLead .cell) long faulted orphans lt covered room
      rw [zone, pulls]
      exact ⟨rfl, rfl, rfl⟩
    · rw [zone, State.zoneClear_others (s := s.toLead .cell) long orphans lt ne]
      rfl
    · have cleared := State.zoneClear_clears (s := s.toLead .cell) (h := h) watched range
      rw [took.head, took.attention]
      exact State.closeEvent_cleared (b := s.toLead .cell) cleared
    · have head := took.head h
      rw [State.closeEvent_zoneClear (s := s.toLead .cell) long faulted fun i => steady i] at head
      obtain ⟨w, e, -⟩ := (s.toLead .cell).zoneClear_told k.toNat h
      rw [SameHead, head, e]
      rfl
    · rw [State.closeEvent_zoneClear (s := s.toLead .cell) long faulted fun i => steady i]
      exact ((s.toLead .cell).zoneClear_hears k.toNat).raisesOnly wakes_below

end Sys2Proof.Machine

/-! PROOFS. Debouncing, and what a change of pressure does to its zone (R85, R92 to R94, R96). -/

namespace Sys2Proof.Machine

/-! ### Inputs and levels -/

theorem State.changeIn_some {s : State} {k d : Nat} (change : s.changeIn k = some d) :
    s.readsGood k ≠ (s.zone k).good ∧ d = s.zoneSettings.deglitch * 1000 - (s.zone k).steady := by
  unfold State.changeIn at change
  split at change
  · cases change
  · next differs => exact ⟨differs, (Option.some.inj change).symm⟩

/-- The time to a change of level runs down (R85). -/
theorem State.changeIn_elapse (s : State) (d : Nat) {k : Nat} (long : k < s.zones.length) :
    (s.elapse d).changeIn k = (s.changeIn k).map (· - d) := by
  have reads : (s.elapse d).readsGood k = s.readsGood k := rfl
  have zone := State.zone_elapse d s long
  have good : ((s.elapse d).zone k).good = (s.zone k).good := by rw [zone]; rfl
  have steady : ((s.elapse d).zone k).steady = (s.zone k).steady + d := by rw [zone]; rfl
  by_cases same : s.readsGood k = (s.zone k).good
  · rw [State.changeIn_same same, State.changeIn_same (by rw [reads, good, same])]
    rfl
  · rw [State.changeIn_other same, State.changeIn_other (by rw [reads, good]; exact same), steady, Option.map_some, Nat.sub_sub]
    rfl

theorem State.readsGood_congr {s t : State} (prs : t.prs = s.prs) (settings : t.zoneSettings = s.zoneSettings) (k : Nat) :
    t.readsGood k = s.readsGood k := by
  rw [State.readsGood, State.readsGood, prs, settings]

/-! ### A change of level -/

/-- The record of a zone whose debounced level changes (R85). -/
def Zone.levelled (cfg : ZoneSettings) (z : Zone) : Zone := if z.good = true then z.becomeBad cfg else z.becomeGood

theorem Zone.levelled_good (cfg : ZoneSettings) (z : Zone) : (z.levelled cfg).good = !z.good := by
  unfold Zone.levelled
  cases good : z.good <;> rfl

theorem Zone.levelled_kept (cfg : ZoneSettings) (z : Zone) :
    (z.levelled cfg).steady = 0 ∧ (z.levelled cfg).faults = z.faults := by
  unfold Zone.levelled
  split <;> exact ⟨rfl, rfl⟩

/-- PULLING and LOST go to HELD, and the pull timer stops (R92, R93). -/
theorem Zone.becomeGood_pulling {z : Zone} (pulls : z.st = .pulling ∨ z.st = .lost) :
    z.becomeGood.st = .held ∧ z.becomeGood.pull = none := by
  unfold Zone.becomeGood
  obtain st | st := pulls <;> rw [st] <;> exact ⟨rfl, rfl⟩

theorem Zone.becomeGood_stays {z : Zone} (stopped : z.st ≠ .pulling) (sound : z.st ≠ .lost) :
    z.becomeGood.st = z.st ∧ z.becomeGood.pull = z.pull := by
  unfold Zone.becomeGood
  cases st : z.st with
  | pulling => exact absurd st stopped
  | lost => exact absurd st sound
  | off | held | fault => exact ⟨rfl, rfl⟩

/-- HELD goes to LOST, and the pull timer starts (R93). -/
theorem Zone.becomeBad_held {z : Zone} (cfg : ZoneSettings) (held : z.st = .held) :
    (z.becomeBad cfg).st = .lost ∧ (z.becomeBad cfg).pull = some (cfg.pullTimeout * 1000) := by
  unfold Zone.becomeBad
  rw [held]
  exact ⟨rfl, rfl⟩

theorem Zone.becomeBad_stays {z : Zone} (cfg : ZoneSettings) (loose : z.st ≠ .held) :
    (z.becomeBad cfg).st = z.st ∧ (z.becomeBad cfg).pull = z.pull := by
  unfold Zone.becomeBad
  cases st : z.st with
  | held => exact absurd st loose
  | off | pulling | lost | fault => exact ⟨rfl, rfl⟩

section Level

variable (k : Nat) (a : State)

/-- The body of a change of level (R85). -/
def State.levelBody : State := if (a.zone k).good then State.pressureGone k a else State.pressureCome k a

theorem State.changeLevel_eq : State.changeLevel k a = State.closeEvent a (State.levelBody k a) := rfl

/-- The zone takes its new record, and the watches may be told (R92, R97). -/
theorem State.levelBody_cases : ∃ u, u = a.setZone k ((a.zone k).levelled a.zoneSettings) ∧
    (State.levelBody k a = u ∨ State.levelBody k a = State.zoneBecameHeld k u) := by
  refine ⟨_, rfl, ?_⟩
  unfold State.levelBody Zone.levelled
  cases good : (a.zone k).good with
  | true => exact .inl rfl
  | false =>
    rw [if_neg Bool.false_ne_true, if_neg Bool.false_ne_true]
    unfold State.pressureCome
    dsimp only
    split
    · exact .inr rfl
    · exact .inl rfl

theorem State.levelBody_told : a.Told (State.levelBody k a) := by
  obtain ⟨u, rfl, e | e⟩ := State.levelBody_cases k a <;> rw [e]
  · exact .of_heads rfl
  · exact (State.Told.of_heads (s := a) (t := a.setZone k _) rfl).trans (State.tellBoth_told _ _)

theorem State.levelBody_hears : State.Hears wakes a (State.levelBody k a) := by
  obtain ⟨u, rfl, e | e⟩ := State.levelBody_cases k a <;> rw [e]
  · exact .of_links rfl
  · exact (State.Hears.of_links (s := a) (t := a.setZone k _) rfl).trans (State.tellBoth_hears _ _)

theorem State.levelBody_zones : (State.levelBody k a).zones = (a.setZone k ((a.zone k).levelled a.zoneSettings)).zones := by
  obtain ⟨u, rfl, e | e⟩ := State.levelBody_cases k a <;> rw [e]
  exact State.tellBoth_zones _ _

theorem State.levelBody_rest : State.levelBody k a = { a with
    heads := (State.levelBody k a).heads, links := (State.levelBody k a).links, zones := (State.levelBody k a).zones } := by
  obtain ⟨u, is, e | e⟩ := State.levelBody_cases k a
  · rw [e, is]
    rfl
  · have told : State.zoneBecameHeld k u = { u with
        heads := (State.zoneBecameHeld k u).heads, links := (State.zoneBecameHeld k u).links } := State.tellBoth_rest u _
    rw [e]
    generalize State.zoneBecameHeld k u = v at told ⊢
    rw [told, is]
    rfl

/-- What a change of level leaves alone. -/
theorem State.changeLevel_rest : State.changeLevel k a = { a with
    heads := (State.changeLevel k a).heads, links := (State.changeLevel k a).links, zones := (State.changeLevel k a).zones } := by
  have closed := State.closeEvent_rest a (State.levelBody k a)
  have body := State.levelBody_rest k a
  rw [← State.changeLevel_eq] at closed
  generalize State.changeLevel k a = t at closed ⊢
  generalize State.levelBody k a = b at closed body
  rw [body] at closed
  rw [closed]

theorem State.changeLevel_zones :
    (State.changeLevel k a).zones = (a.setZone k ((a.zone k).levelled a.zoneSettings)).zones := by
  rw [State.changeLevel_eq, State.closeEvent_zones, State.levelBody_zones]

variable {k a}

theorem State.changeLevel_self (long : k < a.zones.length) :
    (State.changeLevel k a).zone k = (a.zone k).levelled a.zoneSettings := by
  rw [State.zone_of_zones (State.changeLevel_zones k a), State.zone_setZone_self a _ long]

theorem State.changeLevel_other {j : Nat} (ne : j ≠ k) : (State.changeLevel k a).zone j = a.zone j := by
  rw [State.zone_of_zones (State.changeLevel_zones k a), State.zone_setZone_ne a _ ne]

theorem State.changeLevel_readsGood (j : Nat) : (State.changeLevel k a).readsGood j = a.readsGood j := by
  refine State.readsGood_congr ?_ ?_ j <;> rw [State.changeLevel_rest]

/-- A level that has changed is as its input reads (R85). -/
theorem State.changeLevel_settles (long : k < a.zones.length) (differs : a.readsGood k ≠ (a.zone k).good) :
    (State.changeLevel k a).readsGood k = ((State.changeLevel k a).zone k).good := by
  rw [State.changeLevel_readsGood, State.changeLevel_self long, Zone.levelled_good]
  cases reads : a.readsGood k <;> cases good : (a.zone k).good <;> simp [reads, good] at differs ⊢

end Level

/-! ### Edges -/

section Edges

variable {s : State} {e : Edge}

theorem State.resetHold_of_changeLevel {k : Nat} {a : State} (free : a.resetHold = none) :
    (State.changeLevel k a).resetHold = none := by
  rw [State.changeLevel_rest]
  exact free

theorem State.resetHold_of_pullTimeout {k : Nat} {a : State} (free : a.resetHold = none) : (a.pullTimeout k).resetHold = none := by
  rw [State.pullTimeout]
  cases (a.zone k).pullLeft with
  | none => exact free
  | some left =>
    show (State.closeEvent (a.elapse left) (State.failZone k (a.elapse left))).resetHold = none
    rw [State.closeEvent_resetHold, State.failZone_rest]
    show (a.resetHold.map _) = none
    rw [free]
    rfl

theorem State.resetHold_elapse {a : State} (free : a.resetHold = none) (d : Nat) : (a.elapse d).resetHold = none := by
  show (a.resetHold.map _) = none
  rw [free]
  rfl

/-- An edge begins no reset hold. -/
theorem State.resetHold_edge (free : s.resetHold = none) : (s.edge e).resetHold = none := by
  have passed : (State.pass e.after s).resetHold = none := by
    refine State.passBy_keeps (fun r => r.resetHold = none) (fun _ d free => State.resetHold_elapse free d) (fun r m free => ?_) _ _ free
    unfold State.reach
    split
    · exact State.resetHold_of_pullTimeout free
    · exact State.resetHold_of_changeLevel (State.resetHold_elapse free _)
  rw [State.edge, State.resetHold_flipLine, State.takeLevel]
  split
  · exact State.resetHold_of_changeLevel passed
  · exact passed

/-- A pressure row takes its first edge, and goes on from there (log 25). -/
theorem State.pressure_cons (free : s.resetHold = none) (k : Nat) (good : Bool) (edges : List Edge) :
    s.pressure k good (e :: edges) = (s.edge e).pressure k good edges := by
  rw [State.pressure, State.pressure, if_neg (by simp [free]), if_neg (by simp [State.resetHold_edge free]), List.foldl_cons]

theorem State.takeLevel_due {k : Nat} (due : s.changeIn k = some 0) : State.takeLevel k s = State.changeLevel k s := if_pos due

theorem State.takeLevel_early {k : Nat} (early : s.changeIn k ≠ some 0) : State.takeLevel k s = s := if_neg early

/-- The state of an edge before a change of level that is due comes. -/
theorem State.edge_quiet (quiet : ZonesQuietFor e.after s) :
    s.edge e = State.flipLine e.line.val (State.takeLevel e.line.val (s.elapse e.after)) := by
  rw [State.edge, State.pass_quiet quiet]

/-- A row without edges that names no change to come, or a level that stands, is no event (log 28). -/
theorem State.pressure_none {k : Nat} {good : Bool} (still : (s.zone k).good = good ∨ s.changeIn k = none) :
    s.pressure k good [] = s := by
  rw [State.pressure]
  split
  · rfl
  · dsimp only [List.foldl_nil]
    cases change : s.changeIn k with
    | none => rfl
    | some d => exact if_pos (still.resolve_right fun none => by rw [none] at change; cases change)

/-- A row that names a change to come brings the clock to it (R85, log 25). -/
theorem State.pressure_some {k d : Nat} {good : Bool} (free : s.resetHold = none) (change : s.changeIn k = some d)
    (other : (s.zone k).good ≠ good) : s.pressure k good [] = State.takeLevel k (State.pass d s) := by
  rw [State.pressure, if_neg (by simp [free])]
  dsimp only [List.foldl_nil]
  rw [change]
  exact if_neg other

end Edges

/-! ### What an edge leaves -/

section EdgeTaken

variable {s : State} {e : Edge} (sixteen : s.zones.length = 16) (quiet : ZonesQuietFor e.after s)

include sixteen quiet

omit sixteen in
theorem State.edge_lines : ∀ j < 16, (s.edge e).prs.getLsbD j = if j = e.line.val then !(s.prs.getLsbD j) else s.prs.getLsbD j := by
  have kept : (State.takeLevel e.line.val (s.elapse e.after)).prs = s.prs := by
    unfold State.takeLevel
    split
    · rw [State.changeLevel_rest]
      rfl
    · rfl
  intro j lt
  rw [State.edge_quiet quiet]
  by_cases same : j = e.line.val
  · subst same
    rw [if_pos rfl, ← kept]
    simp [State.flipLine, lt]
  · rw [if_neg same, State.prs_flipLine_ne _ lt same, kept]

/-- A change of level that is due at the edge comes first (R85). -/
theorem State.edge_due (due : s.changeIn e.line = some e.after) :
    ((s.edge e).zone e.line).good = !(s.zone e.line).good ∧
      (s.edge e).changeIn e.line = some (s.zoneSettings.deglitch * 1000) := by
  have long : e.line.val < s.zones.length := by rw [sixteen]; exact e.line.isLt
  have long' : e.line.val < (s.elapse e.after).zones.length := by
    show e.line.val < (s.zones.map _).length
    rwa [List.length_map]
  have now : (s.elapse e.after).changeIn e.line = some 0 := by
    rw [State.changeIn_elapse s e.after long, due]
    exact congrArg some (Nat.sub_self _)
  obtain ⟨differs, -⟩ := State.changeIn_some now
  have zone := State.changeLevel_self long'
  have settles := State.changeLevel_settles long' differs
  have settings : (State.changeLevel e.line.val (s.elapse e.after)).zoneSettings = s.zoneSettings := by
    rw [State.changeLevel_rest]
    rfl
  have length : (State.changeLevel e.line.val (s.elapse e.after)).zones.length = s.zones.length := by
    rw [State.changeLevel_zones, State.setZone_length]
    exact List.length_map ..
  have good : ((s.elapse e.after).zone e.line.val).good = (s.zone e.line.val).good := by
    rw [State.zone_elapse _ s long]
    rfl
  rw [State.edge_quiet quiet, State.takeLevel_due now]
  generalize State.changeLevel e.line.val (s.elapse e.after) = v at zone settles settings length
  have flipped : (State.flipLine e.line.val v).zone e.line.val = { v.zone e.line.val with steady := 0 } :=
    State.zone_setZone_self v _ (by rw [length]; exact long)
  have reads := State.readsGood_flipLine_self v e.line.isLt
  refine ⟨by rw [flipped, ← good, ← Zone.levelled_good, ← zone], ?_⟩
  rw [State.changeIn_other (by rw [reads, flipped, settles]; exact Bool.not_ne_self _), flipped, State.zoneSettings_flipLine, settings]
  rfl

/-- Without one, the timing of the level starts again (R85). -/
theorem State.edge_early (early : s.changeIn e.line ≠ some e.after) :
    s.edge e = State.flipLine e.line.val (s.elapse e.after) := by
  have long : e.line.val < s.zones.length := by rw [sixteen]; exact e.line.isLt
  have notNow : (s.elapse e.after).changeIn e.line ≠ some 0 := by
    rw [State.changeIn_elapse s e.after long]
    cases change : s.changeIn e.line with
    | none => exact fun none => by cases none
    | some d =>
      have least := (quiet e.line e.line.isLt).1 d change
      have later : d ≠ e.after := fun same => early (by rw [change, same])
      intro now
      have none : d - e.after = 0 := Option.some.inj now
      omega
  rw [State.edge_quiet quiet, State.takeLevel_early notNow]

theorem State.edge_early_zones (early : s.changeIn e.line ≠ some e.after) :
    (s.edge e).zone e.line = { (s.zone e.line).elapse e.after with steady := 0 } ∧
      (∀ j < 16, j ≠ e.line.val → (s.edge e).zone j = (s.zone j).elapse e.after) ∧
      (s.edge e).changeIn e.line =
        if s.readsGood e.line = (s.zone e.line).good then some (s.zoneSettings.deglitch * 1000) else none := by
  have long : e.line.val < s.zones.length := by rw [sixteen]; exact e.line.isLt
  have long' : e.line.val < (s.elapse e.after).zones.length := by
    show e.line.val < (s.zones.map _).length
    rwa [List.length_map]
  rw [State.edge_early sixteen quiet early]
  have zone : (State.flipLine e.line.val (s.elapse e.after)).zone e.line.val =
      { (s.zone e.line.val).elapse e.after with steady := 0 } := by
    rw [← State.zone_elapse e.after s long]
    exact State.zone_setZone_self _ _ long'
  have reads : (State.flipLine e.line.val (s.elapse e.after)).readsGood e.line.val = !s.readsGood e.line.val :=
    State.readsGood_flipLine_self _ e.line.isLt
  refine ⟨zone, fun j lt ne => ?_, ?_⟩
  · rw [← State.zone_elapse e.after s (by rw [sixteen]; exact lt)]
    exact State.zone_setZone_ne _ _ ne
  · have good : ({ (s.zone e.line.val).elapse e.after with steady := 0 } : Zone).good = (s.zone e.line.val).good := rfl
    by_cases same : s.readsGood e.line = (s.zone e.line).good
    · rw [if_pos same, State.changeIn_other (by rw [reads, zone, good, same]; exact Bool.not_ne_self _), zone]
      rfl
    · rw [if_neg same, State.changeIn_same]
      rw [reads, zone, good]
      cases a : s.readsGood e.line.val <;> cases b : (s.zone e.line.val).good <;> simp [a, b] at same ⊢

end EdgeTaken

/-! ### The change that a row names -/

section Named

variable {s : State} {k : Nat} {d : Nat} (lt : k < 16) (sixteen : s.zones.length = 16) (change : s.changeIn k = some d)
  (quiet : ZonesQuietFor d s)

/-- What every change of level leaves alone (R85, R92, R93). -/
structure State.Levelled (s t : State) (k d : Nat) : Prop where
  rest : t = { s.elapse d with heads := t.heads, links := t.links, zones := t.zones }
  quiet : LinesQuiet s t
  raises : RaisesOnly s t (AttSet.ofWaitCleared.union AttSet.ofHoldChanged)
  path : ∀ h, SamePath s t h
  others : ∀ j < 16, j ≠ k → t.zone j = (s.zone j).elapse d
  reads : t.readsGood k = (t.zone k).good
  settled : t.changeIn k = none
  faults : (t.zone k).faults = (s.zone k).faults
  zone : t.zone k = ((s.zone k).elapse d).levelled s.zoneSettings

include lt sixteen change

theorem State.changeLevel_levelled : s.Levelled (State.changeLevel k (s.elapse d)) k d := by
  have long : k < s.zones.length := by rw [sixteen]; exact lt
  have long' : k < (s.elapse d).zones.length := by
    show k < (s.zones.map _).length
    rwa [List.length_map]
  have body := State.levelBody_hears k (s.elapse d)
  have told := State.levelBody_told k (s.elapse d)
  have hears := State.expired_hears body (u := fun _ => AttSet.ofHoldChanged.union AttSet.ofWaitCleared) wakes_below_closes
    (closes_below _ _)
  have zone : (State.changeLevel k (s.elapse d)).zone k = ((s.zone k).elapse d).levelled s.zoneSettings := by
    rw [State.changeLevel_self long', State.zone_elapse d s long]
    rfl
  have differs : (s.elapse d).readsGood k ≠ ((s.elapse d).zone k).good := by
    rw [State.zone_elapse d s long]
    exact (State.changeIn_some change).1
  have settles := State.changeLevel_settles long' differs
  exact
    { rest := State.changeLevel_rest k (s.elapse d)
      quiet := State.expired_quiet body
      raises := hears.raisesOnly fun _ => by
        simp [AttSet.below_iff, AttSet.union, AttSet.ofHoldChanged, AttSet.ofWaitCleared, AttSet.empty]
      path := fun h => State.closeEvent_samePath _ ((s.samePath_elapse d h).trans (told.path h))
      others := fun j small ne => by
        rw [State.changeLevel_other ne, State.zone_elapse d s (by rw [sixteen]; exact small)]
      reads := settles
      settled := State.changeIn_same settles
      faults := by
        rw [zone, (Zone.levelled_kept _ _).2]
        rfl
      zone := zone }

include quiet

/-- A row that names a change to come, before which no zone moves, brings that change (R85). -/
theorem State.pressure_changes {good : Bool} (free : s.resetHold = none) (other : (s.zone k).good ≠ good) :
    s.pressure k good [] = State.changeLevel k (s.elapse d) := by
  have long : k < s.zones.length := by rw [sixteen]; exact lt
  have now : (s.elapse d).changeIn k = some 0 := by
    rw [State.changeIn_elapse s d long, change]
    exact congrArg some (Nat.sub_self d)
  rw [State.pressure_some free change other, State.pass_quiet quiet, State.takeLevel_due now]

end Named

/-- Where the last zone of a watched range comes to be HELD, the watch ends (R92, R97). -/
theorem State.changeLevel_clears {a : State} {k : Nat} (long : k < a.zones.length) (bad : (a.zone k).good = false)
    (pulls : (a.zone k).st = .pulling ∨ (a.zone k).st = .lost) {h : HeadId}
    (watched : (a.head h).watch.reasons.zonesSettling = true) {r : ZoneRange} (range : (a.head h).watch.range = some r)
    (member : r.has k = true) (others : ∀ j < 16, r.has j = true → j ≠ k → (a.zone j).st = .held) :
    ((State.changeLevel k a).head h).watch = Watch.empty ∧
      ((State.changeLevel k a).link (.head h)).attention.waitCleared = true := by
  have body : State.levelBody k a = State.zoneBecameHeld k (a.setZone k (a.zone k).becomeGood) := by
    unfold State.levelBody State.pressureCome
    rw [if_neg (by rw [bad]; exact Bool.false_ne_true)]
    exact if_pos pulls
  have held : (a.setZone k (a.zone k).becomeGood).allHeld r = true := by
    refine List.all_eq_true.mpr fun j inRange => decide_eq_true ?_
    obtain ⟨small, has⟩ := List.mem_filter.mp inRange
    have small : j < 16 := List.mem_range.mp small
    by_cases e : j = k
    · subst e
      rw [State.zone_setZone_self a _ long]
      exact (Zone.becomeGood_pulling pulls).1
    · rw [State.zone_setZone_ne a _ e]
      exact others j small has e
  rw [State.changeLevel_eq, body]
  refine State.closeEvent_cleared (State.tellBoth_clears ?_)
  rw [State.head_setZone, watched, range]
  show (true && r.has k && (a.setZone k (a.zone k).becomeGood).allHeld r) = true
  rw [member, held]
  rfl

/-! ### A pull timeout before the change -/

theorem earliest_of_mem {f : ZoneDeadline} {es : List ZoneDeadline} (member : f ∈ es) : ∃ e, earliest es = some e := by
  cases es with
  | nil => cases member
  | cons e es =>
    rw [earliest]
    cases earliest es with
    | none => exact ⟨_, rfl⟩
    | some g => exact ⟨_, rfl⟩

theorem Zone.pullLeft_some {z : Zone} {left : Nat} (runs : z.pullLeft = some left) :
    (z.st = .pulling ∨ z.st = .lost) ∧ z.pull = some left := by
  refine ⟨Zone.pullLeft_isSome (left := left) runs, ?_⟩
  unfold Zone.pullLeft at runs
  cases st : z.st <;> rw [st] at runs
  case pulling | lost => exact runs
  case off | held | fault => cases runs

theorem Zone.pullLeft_elapse (z : Zone) (d : Nat) : (z.elapse d).pullLeft = z.pullLeft.map (· - d) := by
  have st : (z.elapse d).st = z.st := rfl
  have pull : (z.elapse d).pull = z.pull.map (· - d) := by
    show timerAfter d z.pull = _
    cases z.pull <;> rfl
  unfold Zone.pullLeft
  rw [st, pull]
  cases z.st <;> rfl

theorem State.changeIn_congr {s t : State} {k : Nat} (reads : t.readsGood k = s.readsGood k)
    (settings : t.zoneSettings = s.zoneSettings) (good : (t.zone k).good = (s.zone k).good)
    (steady : (t.zone k).steady = (s.zone k).steady) : t.changeIn k = s.changeIn k := by
  rw [State.changeIn, State.changeIn, reads, settings, good, steady]

section Timeout

variable {s : State} {k d left : Nat} (lt : k < 16) (sixteen : s.zones.length = 16) (change : s.changeIn k = some d)
  (runs : (s.zone k).pullLeft = some left) (late : left < d) (orphans : NoOrphans s)
  (others : ∀ j < 16, j ≠ k → (∀ x ∈ s.changeIn j, d ≤ x) ∧ ∀ x ∈ (s.zone j).pullLeft, d ≤ x)

include lt sixteen change runs orphans

/-- The level of the zone changes when it would have (R85, R94). -/
theorem State.pullTimeout_changeIn : (s.pullTimeout k).changeIn k = some (d - left) ∧
    ∀ j < 16, j ≠ k → (s.pullTimeout k).changeIn j = (s.changeIn j).map (· - left) ∧
      ((s.pullTimeout k).zone j).pullLeft = (s.zone j).pullLeft.map (· - left) := by
  obtain ⟨pulls, pull⟩ := Zone.pullLeft_some runs
  obtain ⟨t, rfl, rest, -, -, failed, -, zones⟩ := State.pullTimeout_taken lt sixteen pulls pull
  have reads (j : Nat) : (s.pullTimeout k).readsGood j = (s.elapse left).readsGood j := by
    refine State.readsGood_congr ?_ ?_ j <;> rw [rest]
  have settings : (s.pullTimeout k).zoneSettings = (s.elapse left).zoneSettings := by rw [rest]
  have elapsed {j : Nat} (small : j < 16) : (s.elapse left).zone j = (s.zone j).elapse left :=
    State.zone_elapse left s (by rw [sixteen]; exact small)
  refine ⟨?_, fun j small ne => ⟨?_, ?_⟩⟩
  · rw [State.changeIn_congr (reads k) settings (by rw [failed.good, elapsed lt]; rfl) (by rw [failed.steady, elapsed lt]; rfl),
      State.changeIn_elapse s left (by rw [sixteen]; exact lt), change]
    rfl
  · have zone := zones orphans j small ne
    rw [← State.changeIn_elapse s left (by rw [sixteen]; exact small)]
    exact State.changeIn_congr (reads j) settings (by rw [zone, elapsed small]) (by rw [zone, elapsed small])
  · rw [zones orphans j small ne, Zone.pullLeft_elapse]

include late others

/-- A pull timeout that falls before the change is taken first (R94, log 2). -/
theorem State.pass_timeout : State.pass d s = (s.pullTimeout k).elapse (d - left) := by
  have member : (⟨left, k, true⟩ : ZoneDeadline) ∈ s.zoneDeadlines := State.mem_zoneDeadlines.mpr ⟨lt, .inr ⟨rfl, runs⟩⟩
  obtain ⟨e, first⟩ := earliest_of_mem member
  obtain ⟨inList, least⟩ := earliest_some first
  have soon : e.left ≤ left := least _ member
  obtain ⟨small, moves⟩ := State.mem_zoneDeadlines.mp inList
  have own : e.zone = k := by
    by_contra ne
    obtain ⟨-, due⟩ | ⟨-, due⟩ := moves
    · have := (others e.zone small ne).1 _ due
      omega
    · have := (others e.zone small ne).2 _ due
      omega
  rw [own] at moves
  obtain ⟨-, due⟩ | ⟨timeout, due⟩ := moves
  · rw [change] at due
    have := Option.some.inj due
    omega
  · rw [runs] at due
    have same := Option.some.inj due
    obtain ⟨changed, still⟩ := State.pullTimeout_changeIn lt sixteen change runs orphans
    have reached : State.reach e s = s.pullTimeout k := by
      rw [State.reach, timeout, own]
      rfl
    have quiet : ZonesQuietFor (d - left) (s.pullTimeout k) := by
      intro j small
      by_cases e : j = k
      · subst e
        refine ⟨fun x due => ?_, fun x due => ?_⟩
        · rw [changed] at due
          exact (Option.some.inj due).le
        · obtain ⟨pulls, pull⟩ := Zone.pullLeft_some runs
          obtain ⟨t, rfl, -, -, -, failed, -⟩ := State.pullTimeout_taken lt sixteen pulls pull
          obtain st | st := Zone.pullLeft_isSome due <;> rw [failed.st] at st <;> cases st
      · obtain ⟨level, pull⟩ := still j small e
        obtain ⟨levels, pulls⟩ := others j small e
        rw [level, pull]
        refine ⟨fun x due => ?_, fun x due => ?_⟩
        · obtain ⟨y, was, rfl⟩ := Option.map_eq_some_iff.mp due
          have := levels y was
          omega
        · obtain ⟨y, was, rfl⟩ := Option.map_eq_some_iff.mp due
          have := pulls y was
          omega
    show State.passBy (47 + 1) d s = _
    rw [State.passBy, first]
    dsimp only
    rw [if_pos (by omega), reached, ← same]
    exact State.passBy_quiet _ quiet

/-- The level changes of a zone that is then in FAULT (R85, R94). -/
theorem State.pressure_timeout (free : s.resetHold = none) (bad : (s.zone k).good = false) :
    ∃ t : State, s.pressure k true [] = t ∧ (t.zone k).st = .fault ∧ t.vac k = false ∧ (t.zone k).good = true ∧
      (t.zone k).faults = min 255 ((s.zone k).faults + 1) ∧ (t.link .cell).attention.zoneFault = true ∧ LinesQuiet s t ∧
      ∀ h, SamePath s t h := by
  obtain ⟨changed, -⟩ := State.pullTimeout_changeIn lt sixteen change runs orphans
  have passed := State.pass_timeout lt sixteen change runs late orphans others
  obtain ⟨pulls, pull⟩ := Zone.pullLeft_some runs
  obtain ⟨f, is, rest, quiet, -, failed, heads, -⟩ := State.pullTimeout_taken lt sixteen pulls pull
  have length : f.zones.length = 16 := failed.length.trans sixteen
  rw [is] at changed passed
  have now : (f.elapse (d - left)).changeIn k = some 0 := by
    rw [State.changeIn_elapse f _ (by rw [length]; exact lt), changed]
    exact congrArg some (Nat.sub_self _)
  have taken : s.pressure k true [] = State.changeLevel k (f.elapse (d - left)) := by
    rw [State.pressure_some free change (by rw [bad]; exact Bool.false_ne_true), passed, State.takeLevel_due now]
  have levelled := State.changeLevel_levelled lt length changed
  have zone : (State.changeLevel k (f.elapse (d - left))).zone k = ((f.zone k).elapse (d - left)).becomeGood := by
    rw [levelled.zone, Zone.levelled]
    exact if_neg (by rw [show ((f.zone k).elapse (d - left)).good = (f.zone k).good from rfl, failed.good, bad]; exact Bool.false_ne_true)
  have st : ((f.zone k).elapse (d - left)).becomeGood.st = .fault := by
    have st : ((f.zone k).elapse (d - left)).st = .fault := failed.st
    rw [(Zone.becomeGood_stays (by rw [st]; exact fun off => by cases off) (by rw [st]; exact fun off => by cases off)).1, st]
  refine ⟨_, taken, ?_, ?_, ?_, ?_, ?_, fun l => (quiet l).trans (levelled.quiet l), fun h => (heads h).1.trans (levelled.path h)⟩
  · rw [zone, st]
  · rw [State.vac, zone, st]
    rfl
  · rw [zone]
    rfl
  · rw [levelled.faults, failed.faults]
  · exact (State.closeEvent_hears _ _).zoneFault ((State.levelBody_hears k (f.elapse (d - left))).zoneFault failed.told)

end Timeout

/-! ### The rows -/

section Rows

variable {s : State} {k : Fin 16} (sixteen : s.zones.length = 16) (free : s.resetHold = none) {d : Nat}
  (change : s.changeIn k = some d) (quiet : ZonesQuietFor d s)

include sixteen free change quiet

/-- PRESSURE_GOOD of a zone whose level is not good (R92). -/
theorem State.pressureGood_taken (bad : (s.zone k).good = false) :
    ∃ t : State, exec (.pressureGood ⟨k, []⟩) s = .next t ∧ s.Levelled t k d ∧
      t.zone k = ((s.zone k).elapse d).becomeGood ∧
      ∀ h, ((s.zone k).st = .pulling ∨ (s.zone k).st = .lost) → (s.head h).watch.reasons.zonesSettling = true →
        (∃ r, (s.head h).watch.range = some r ∧ r.has k = true ∧
          ∀ j < 16, r.has j = true → j ≠ k.val → (s.zone j).st = .held) →
        (t.head h).watch = Watch.empty ∧ (t.link (.head h)).attention.waitCleared = true := by
  have levelled := State.changeLevel_levelled k.isLt sixteen change
  have long : k.val < s.zones.length := by rw [sixteen]; exact k.isLt
  have zone := State.zone_elapse d s long
  refine ⟨State.changeLevel k (s.elapse d), congrArg Host.Outcome.next (State.pressure_changes k.isLt sixteen change quiet free
    (by rw [bad]; exact Bool.false_ne_true)), levelled, ?_, ?_⟩
  · rw [levelled.zone, Zone.levelled]
    exact if_neg (by rw [show ((s.zone k.val).elapse d).good = (s.zone k.val).good from rfl, bad]; exact Bool.false_ne_true)
  · rintro h pulls watched ⟨r, range, member, others⟩
    refine State.changeLevel_clears (by show k.val < (s.zones.map _).length; rwa [List.length_map]) (by rw [zone]; exact bad)
      (by rw [zone]; exact pulls) (h := h) (r := r) ?_ ?_ member fun j small has ne => ?_
    · rw [State.head_elapse]
      exact watched
    · rw [State.head_elapse]
      exact range
    · rw [State.elapse_zone_st]
      exact others j small has ne

/-- PRESSURE_LOSS of a zone whose level is good (R93). -/
theorem State.pressureLoss_taken (good : (s.zone k).good = true) :
    ∃ t : State, exec (.pressureLoss ⟨k, []⟩) s = .next t ∧ s.Levelled t k d ∧
      t.zone k = ((s.zone k).elapse d).becomeBad s.zoneSettings ∧
      ((s.zone k).st = .held → ∀ h, (s.head h).cutsOver k = true → (t.head h).hold.zone = true) := by
  have levelled := State.changeLevel_levelled k.isLt sixteen change
  have zone : (State.changeLevel k (s.elapse d)).zone k = ((s.zone k).elapse d).becomeBad s.zoneSettings := by
    rw [levelled.zone, Zone.levelled]
    exact if_pos good
  refine ⟨State.changeLevel k (s.elapse d), congrArg Host.Outcome.next (State.pressure_changes k.isLt sixteen change quiet free
    (by rw [good]; exact Bool.noConfusion)), levelled, zone, fun held h cuts => ?_⟩
  refine State.closeEvent_zoneHold (s := State.levelBody k.val (s.elapse d)) k.isLt ?_ ?_
  · rw [Head.cutsOver_of_window ((State.levelBody_told k.val (s.elapse d)).window h), State.head_elapse]
    exact cuts
  · have body : (State.levelBody k (s.elapse d)).zone k = ((s.zone k).elapse d).becomeBad s.zoneSettings := by
      rw [← zone, State.changeLevel_eq, State.zone_closeEvent]
    rw [body, (Zone.becomeBad_held _ (by exact held)).1]
    exact fun held => by cases held

end Rows

/-- Settles O40: debouncing, and what a change of pressure does to its zone. -/
theorem pressureMovesTheZone : Obligations.PressureMovesTheZone := by
  refine ⟨fun s k => ⟨fun low => ?_, fun high => ?_, State.changeIn_same, State.changeIn_other⟩,
    fun s e sixteen quiet => ⟨State.edge_lines quiet, State.edge_due sixteen quiet, fun early => ?_⟩,
    fun s k sixteen free => ⟨fun e edges => ⟨?_, ?_⟩, fun still => ?_, fun still => ?_, fun d left change runs late bad orphans others => ?_,
      fun d change quiet => ?_⟩⟩
  · rw [State.readsGood, low, decide_eq_true_iff]
  · rw [State.readsGood, high, decide_eq_true_iff]
  · obtain ⟨zone, others, afresh⟩ := State.edge_early_zones sixteen quiet early
    refine ⟨?_, zone, others, afresh⟩
    rw [State.edge_early sixteen quiet early]
    rfl
  · exact congrArg Host.Outcome.next (State.pressure_cons free k true edges)
  · exact congrArg Host.Outcome.next (State.pressure_cons free k false edges)
  · exact congrArg Host.Outcome.next (State.pressure_none still)
  · exact congrArg Host.Outcome.next (State.pressure_none still)
  · obtain ⟨t, taken, after⟩ := State.pressure_timeout k.isLt sixteen change runs late orphans others free bad
    exact ⟨t, congrArg Host.Outcome.next taken, after⟩
  · intro z frame
    have frames {t : State} (levelled : s.Levelled t k d) : frame t :=
      ⟨levelled.rest, levelled.quiet, levelled.raises, levelled.path, levelled.others, levelled.reads, levelled.settled,
        levelled.faults⟩
    refine ⟨fun bad => ?_, fun good => ?_⟩
    · obtain ⟨t, taken, levelled, zone, clears⟩ := State.pressureGood_taken sixteen free change quiet bad
      refine ⟨t, taken, frames levelled, by rw [zone]; rfl, fun pulls => ?_, fun stopped sound => ?_, clears⟩
      · rw [zone]
        exact Zone.becomeGood_pulling pulls
      · rw [zone]
        exact Zone.becomeGood_stays (z := z) stopped sound
    · obtain ⟨t, taken, levelled, zone, holds⟩ := State.pressureLoss_taken sixteen free change quiet good
      refine ⟨t, taken, frames levelled, by rw [zone]; rfl, fun held => ?_, fun loose => ?_⟩
      · obtain ⟨lost, pull⟩ := Zone.becomeBad_held (z := z) s.zoneSettings held
        rw [zone]
        refine ⟨lost, pull, fun h cuts => ?_⟩
        have holds := holds held h cuts
        exact ⟨holds, by rw [State.fhold, HoldSet.held, holds]; simp⟩
      · rw [zone]
        exact Zone.becomeBad_stays (z := z) s.zoneSettings loose

end Sys2Proof.Machine
